-- ==== Sys2Proof/Word.lean ====
section
/-! DEFINITION. The words of the CQ4: bytes, beats of eight bytes, 32-bit addresses and sample times. -/

namespace Sys2Proof

/-- One byte of memory or of a record. -/
abbrev Byte := BitVec 8

/-- A 32-bit byte address (07 7.1). -/
abbrev Addr := BitVec 32

/-- A 32-bit count of sample-clock periods, which wraps (00, 4, Sample time). -/
abbrev SampleTime := BitVec 32

/-- The eight bytes of one beat, the byte at the lowest address first (00, 5, Beat). -/
abbrev BeatBytes := Vector Byte 8

end Sys2Proof
end

