-- ==== Sys2Proof/Syntax.lean ====
section
/-! DEFINITION. The commands of the block: one constructor per row of spec/opcode_table.json, with the operands the
spec says the event carries. -/

namespace Sys2Proof

/-- One beat of a write: eight bytes and eight byte strobes, in order of address (07 7.1). -/
structure Beat where
  bytes   : BeatBytes
  strobes : Vector Bool 8
  deriving DecidableEq, Repr

/-- Direction and beats of a transfer: a read names how many beats, a write carries them (07 7.1). -/
inductive Payload where
  | read (beats : Nat)
  | write (beats : List Beat)
  deriving DecidableEq, Repr

/-- A transfer at either port (07 7.1). -/
structure Transfer where
  master  : Fin 16
  addr    : Addr
  payload : Payload
  deriving DecidableEq, Repr

/-- A response: DONE or FAULT (07 7.1). -/
inductive Response where
  | done
  | fault
  deriving DecidableEq, Repr

/-- A response with the data of every beat for a read (07 7.1). -/
structure Answer where
  resp : Response
  data : List BeatBytes
  deriving DecidableEq, Repr

/-- The commands of the block. `id` names a transfer by its arrival number and an own write by its hand-on number
(log 9). -/
inductive Instr where
  | transferArrival (t : Transfer)
  | transferAcceptance (m : Fin 16)
  | forwardedIssue
  | forwardedResponse (id : Nat) (a : Answer)
  | ownWriteIssue
  | ownWriteResponse (id : Nat) (r : Response)
  | strayResponse (a : Answer)
  | resetNAssertion
  | resetNRelease (straps : BitVec 8)
  | silenceTimeout (lane : Fin 16)
  | blockAnalysisEnd (lane : Fin 16)
  | testTimeout (lane : Fin 16)
  | quietTimeout (station : Fin 4)
  | noticeWriteHandOn
  | statusWriteStart
  | statusPartHandOn
  | snapshotWriteHandOn (slot : Fin 32)
  | completion
  | badKind
  | mapLane
  | unmapLane
  | setLaneConditioning
  | testLane
  | setDetection
  | setStation
  | startStation
  | stopStation
  | setLocationLine
  | setMapCriteria
  | clearCells
  | copyMap
  | holdSegment
  | releaseHold
  | abort
  | restart
  | queueDrained
  | setNoticeRing
  | setStatusBlock
  | writeStatus
  deriving DecidableEq, Repr

end Sys2Proof
end

