-- ==== Sys2Proof/Decode.lean ====
section
/-! DEFINITION. The decoder the task asks for. spec/opcode_table.json gives no row any bits (its commands are events,
not words), so no word spells a command. -/

namespace Sys2Proof

/-- The command a word spells by the table's bits: none, since the table gives no row bits. -/
def decodeTableWord (_nbits _w : Nat) : Option Instr := none

end Sys2Proof
end

