-- ==== Sys2Proof/Config.lean ====
section
/-! DEFINITION. The part's fixed capacities, and the free values: constants without a body that stand for what
the manual does not state. -/

namespace Sys2Proof.Config

/-- Blocks a lane's analysis queue holds (R11). -/
abbrev analysisQueueMax : Nat := 4
/-- Consecutive bad blocks that fault a lane (R14). -/
abbrev faultAfter : Nat := 8
/-- Consecutive good blocks that bring a FAULTED lane back (R16). -/
abbrev recoverAfter : Nat := 16
/-- Hits a station's pool holds (R68). -/
abbrev poolMax : Nat := 64
/-- Cycle records a boundary queue holds (R57). -/
abbrev boundaryMax : Nat := 4
/-- Crossings the history holds (R60). -/
abbrev historyMax : Nat := 8
/-- Active flags a cell's history holds (R98). -/
abbrev cellHistoryMax : Nat := 16
/-- Entries of the hold list (R120). -/
abbrev holdMax : Nat := 64
/-- Own writes the own-write queue holds (R137). -/
abbrev ownQueueMax : Nat := 8
/-- The starvation limit (R138). -/
abbrev starvationMax : Nat := 8
/-- Notices the internal queue holds (R157). -/
abbrev noticeQueueMax : Nat := 64
/-- Snapshot writes of one Copy Map (R113). -/
abbrev snapshotWrites : Nat := 24
/-- Parts of one status write (R165). -/
abbrev statusParts : Nat := 8
/-- Where a 16-bit counter stops (00, 4, Counters). -/
abbrev max16 : Nat := 65535
/-- Where a 32-bit counter stops. -/
abbrev max32 : Nat := 4294967295
/-- Where the pattern test's error count stops (R22). -/
abbrev maxErrors : Nat := 16777215

/-- FREE VALUE (log 5, DESIGN CHOICE): the 16-bit detail of a refused command for which no chapter gives a
detail. Applied to State.freeIndex, so each such refusal has its own. -/
opaque openDetail : Nat → BitVec 16

/-- FREE VALUE (log 6, DESIGN CHOICE): whether the first of two sample times exactly 2^31 apart counts as the
earlier, where a rule has to order them. 00, 4 makes neither the later. -/
opaque halfRangeEarlier : SampleTime → SampleTime → Bool

/-- FREE VALUE (log 21, DESIGN CHOICE): the 16-bit field of a hit record whose difference of sample times, from the
second time to the first, comes out negative, which R41 does not state. -/
opaque openSpan : SampleTime → SampleTime → BitVec 16

end Sys2Proof.Config
end

