-- ==== Sys2Proof/Machine/State.lean ====
section
/-! DEFINITION. The state of the block as plain data, the reasons a step can stop, and the state after hardware
reset. -/

namespace Sys2Proof.Machine

/-- Why a step stops with a fault: never. No rule of the spec halts the part; what it calls faults are states of the
block (INVENTORY.md, Faults). -/
inductive Fault where
  deriving DecidableEq, Repr

/-- Why a command has no meaning. -/
inductive Refusal where
  /-- The command is not modelled yet; raised by exec's arm alone. Safe: the run stops. -/
  | notModelled (mnemonic : String)
  /-- The transfer of a TRANSFER_ARRIVAL has not 1 to 16 beats, so it is no transfer (07 7.1). Safe: the run stops. -/
  | illFormedTransfer
  /-- The answer of a FORWARDED_RESPONSE or STRAY_RESPONSE carries more than 16 beats, so it is no answer (07 7.1).
  Safe: the run stops. -/
  | illFormedAnswer
  deriving DecidableEq, Repr

/-! ### Lanes (chapters 1 and 2) -/

/-- A lane's place in its station (01 1.1). -/
inductive Role where
  | ae (r : Fin 6)
  | vibration
  deriving DecidableEq, Repr

/-- The states of a lane (01 1.5). -/
inductive LaneState where
  | unmapped | idle | settling | live | faulted | test
  deriving DecidableEq, Repr

/-- Why a lane is FAULTED (R14, R15). -/
inductive FaultReason where
  | sync | laneId | slip | torn | silent
  deriving DecidableEq, Repr

/-- What Map Lane gives a lane (R1, R2). -/
structure Mapping where
  station : Fin 4
  role    : Role
  master  : Fin 16
  base    : Addr
  blocks  : Nat
  logical : Nat
  spares  : Nat
  deriving DecidableEq, Repr

inductive OffsetMode where
  | track | fixed
  deriving DecidableEq, Repr

inductive ThresholdMode where
  | auto | manual
  deriving DecidableEq, Repr

inductive WindowSource where
  | quiet | any
  deriving DecidableEq, Repr

/-- The eight settings of Set Detection (R44). -/
structure DetectSettings where
  mode            : ThresholdMode
  gain            : Nat
  thresholdOffset : Nat
  manual          : Nat
  deadTime        : Nat
  rearmTime       : Nat
  windowLength    : Nat
  source          : WindowSource
  deriving DecidableEq, Repr

/-- What a block's analysis began with: the lane's state, its trim, offset settings and detection settings (R5, R29,
R45). -/
structure InForce where
  state       : LaneState
  trim        : Int
  offsetMode  : OffsetMode
  offsetRange : Nat
  fixedOffset : Int
  detect      : DetectSettings
  deriving DecidableEq, Repr

/-- An entry of a lane's analysis queue (R11). `unseed` says that test traffic that was not queued came between the
block before and this one (R22, log 15). -/
structure QueuedBlock where
  samples   : List (BitVec 16)
  first     : SampleTime
  sequence  : BitVec 16
  overload  : Bool
  testFlag  : Bool
  segment   : Nat
  breakMark : Bool
  unseed    : Bool
  deriving DecidableEq, Repr

inductive DetectorState where
  | armed | opened | trailing | rearm
  deriving DecidableEq, Repr

/-- A hit in progress (R36). -/
structure HitInProgress where
  arrival      : SampleTime
  peak         : Nat
  peakTime     : SampleTime
  last         : SampleTime
  crossings    : Nat
  energy       : Nat
  pending      : Nat
  below        : Nat
  segment      : Nat
  overloadSeen : Bool
  deriving DecidableEq, Repr

/-- The hit record a lane hands to its event former (R41). -/
structure Hit where
  lane      : Fin 16
  role      : Fin 6
  arrival   : SampleTime
  peak      : Nat
  rise      : Nat
  duration  : Nat
  crossings : Nat
  energy    : Nat
  segment   : Nat
  truncated : Bool
  long      : Bool
  saturated : Bool
  deriving DecidableEq, Repr

inductive TestResult where
  | none | pass | fail | timeout | aborted
  deriving DecidableEq, Repr

/-- The last-test record (R1). -/
structure LastTest where
  result  : TestResult
  errors  : Nat
  counted : Nat
  deriving DecidableEq, Repr

/-- A running pattern test (R20 to R22). `generator` is absent while unseeded. -/
structure TestRun where
  slot      : Fin 32
  blocks    : Nat
  limit     : Nat
  timeoutUs : Nat
  elapsed   : Nat
  errors    : Nat
  counted   : Nat
  generator : Option (BitVec 15)
  unseedDue : Bool
  clampedFields : Nat
  deriving DecidableEq, Repr

/-- A lane channel (R1, R24). -/
structure Lane where
  state        : LaneState
  mapping      : Option Mapping
  continuity   : Option (BitVec 16 × SampleTime)
  badRun       : Nat
  goodRun      : Nat
  faultReason  : Option FaultReason
  queue        : List QueuedBlock
  breakDue     : Bool
  trim         : Int
  silenceLimit : Nat
  silenceTimer : Option Nat
  offsetMode   : OffsetMode
  offsetRange  : Nat
  fixedOffset  : Int
  detect       : DetectSettings
  used         : InForce
  offset       : Int
  winBlocks    : Nat
  winQuiet     : Nat
  winSum       : Nat
  noise        : Nat
  noiseValid   : Bool
  threshold    : Option Nat
  settleCount  : Nat
  liveDue      : Bool
  detector     : DetectorState
  hit          : Option HitInProgress
  rearmCount   : Nat
  horizon      : Option SampleTime
  badBlocks    : Nat
  skipped      : Nat
  foreign      : Nat
  lastTest     : LastTest
  test         : Option TestRun
  deriving DecidableEq, Repr

/-! ### Stations: tracker, event former, crack map (chapters 3, 4, 5) -/

inductive StationState where
  | stopped | waiting | compacting | tailing | pressIdle | blind
  deriving DecidableEq, Repr

inductive HoldPolicy where
  | none | confirmed | suspectUp
  deriving DecidableEq, Repr

/-- The ten settings of a station (R46). -/
structure StationSettings where
  startLevel      : Nat
  stopLevel       : Nat
  tailBlocks      : Nat
  quietCode       : Nat
  window          : Nat
  ws              : Nat
  we              : Nat
  unlocatedLimit  : Nat
  summaryInterval : Nat
  policy          : HoldPolicy
  deriving DecidableEq, Repr

/-- A cycle record of the boundary queue (R57). The end is absent while the record is open. -/
structure CycleRecord where
  number     : BitVec 32
  start      : SampleTime
  finish     : Option SampleTime
  incomplete : Bool
  forced     : Bool
  deriving DecidableEq, Repr

inductive LineForm where
  | disabled | linear | table
  deriving DecidableEq, Repr

/-- A location line (R76). -/
structure Line where
  form       : LineForm
  roleA      : Nat
  roleB      : Nat
  tmax       : Nat
  increments : Vector Nat 8
  deriving DecidableEq, Repr

inductive CellState where
  | clear | suspect | confirmed | fading
  deriving DecidableEq, Repr

/-- A cell record of the crack map (R89). -/
structure Cell where
  state       : CellState
  lock        : Nat
  unlock      : Nat
  events      : Nat
  coherent    : Nat
  energy      : Nat
  peak        : Nat
  totalEvents : Nat
  totalActive : Nat
  history     : List Bool
  lastChange  : BitVec 32
  reference   : Option Nat
  deriving DecidableEq, Repr

/-- The criteria of a crack map (R91). -/
structure Criteria where
  minEvents : Nat
  fraction  : Nat
  minEnergy : Nat
  lock      : Nat
  drop      : Nat
  fade      : Nat
  surge     : Nat
  deriving DecidableEq, Repr

/-- The summary totals (R108). -/
structure Totals where
  located    : Nat
  unlocated  : Nat
  forced     : Nat
  incomplete : Nat
  energy     : Nat
  cell       : Option Nat
  outOfCycle : Nat
  deriving DecidableEq, Repr

/-- A station: tracker record (R46), event former record (R67) and crack map (R89, R91, R93, R108). -/
structure Station where
  state      : StationState
  settings   : StationSettings
  cycle      : BitVec 32
  tail       : Nat
  quietTimer : Option Nat
  period     : Option Nat
  rejectRun  : Nat
  history    : List SampleTime
  measureRef : Option SampleTime
  primed     : Bool
  prevSample : Option Int
  boundary   : List CycleRecord
  pool       : List Hit
  lines      : Vector Line 3
  outOfCycle : Nat
  early      : Nat
  clamped    : Nat
  cells      : Vector Cell 96
  criteria   : Criteria
  located    : Nat
  unlocated  : Nat
  sumCounter : Nat
  totals     : Totals
  deriving DecidableEq, Repr

/-! ### Segment hold unit (chapter 6) -/

/-- What a mapped lane's segment record holds beside the counts (R115). -/
structure SegTable where
  map      : List Nat
  free     : List Nat
  position : Option Nat
  ranges   : List (Option (SampleTime × SampleTime))
  deriving DecidableEq, Repr

/-- A lane's segment record (R115). -/
structure Segs where
  table   : Option SegTable
  held    : Nat
  dropped : Nat
  deriving DecidableEq, Repr

inductive HoldState where
  | pending | held
  deriving DecidableEq, Repr

inductive HoldReason where
  | event (cell : Nat)
  | command
  deriving DecidableEq, Repr

/-- An entry of the hold list (R120). -/
structure HoldEntry where
  lane    : Fin 16
  segment : Nat
  logical : Nat
  state   : HoldState
  reason  : HoldReason
  range   : Option (SampleTime × SampleTime)
  deriving DecidableEq, Repr

/-! ### Memory path (chapter 7) -/

/-- Who handed on an own write (R137). `current` is false for a notice write or a status part handed on before the
latest Set Notice Ring or Set Status Block (R162, R164). -/
inductive Producer where
  | commandUnit
  | noticeWriter (current : Bool)
  | statusWriter (current : Bool)
  | crackMap (slot : Fin 32)
  deriving DecidableEq, Repr

/-- An entry of the own-write queue (R137). `id` is its hand-on number. -/
structure OwnWrite where
  id       : Nat
  producer : Producer
  addr     : Addr
  beats    : List Beat
  issued   : Bool
  deriving DecidableEq, Repr

/-- Who can wait for a place in the own-write queue (R137). Each running Copy Map waits for itself (log 23). -/
inductive Client where
  | commandUnit
  | noticeWriter
  | statusWriter
  | crackMap (slot : Fin 32)
  deriving DecidableEq, Repr

/-- How far an accepted transfer has come (R131). An issued or answered transfer carries the ring offsets of its beats
that lay in the notice ring when it was decoded (R136). -/
inductive Phase where
  | ready
  | held (behind : List Nat)
  | issued (ring : List Nat)
  | answered (a : Answer) (ring : List Nat)
  deriving DecidableEq, Repr

/-- A transfer presented at the master-side port, with its arrival number (R131). -/
structure Arrived where
  id : Nat
  t  : Transfer
  deriving DecidableEq, Repr

/-- An accepted transfer that has not been answered to its master (R133). `stamp` is the moment of acceptance. -/
structure Accepted where
  id    : Nat
  t     : Transfer
  stamp : Nat
  phase : Phase
  deriving DecidableEq, Repr

/-- A transfer put out at the memory-side port: `own` for an own write (master 15). -/
structure PortIssue where
  own     : Bool
  id      : Nat
  master  : Fin 16
  addr    : Addr
  payload : Payload
  deriving DecidableEq, Repr

/-- A response returned at the master-side port. -/
structure PortReturn where
  id     : Nat
  master : Fin 16
  answer : Answer
  deriving DecidableEq, Repr

/-- The path unit (chapter 7). -/
structure Path where
  resetLow     : Bool
  cmdBase      : Option (BitVec 8)
  arrived      : List Arrived
  accepted     : List Accepted
  own          : List OwnWrite
  waits        : List (Client × Nat)
  starvation   : Nat
  refusedCount : Nat
  memPort      : List PortIssue
  masterPort   : List PortReturn
  now          : Nat
  deriving DecidableEq, Repr

/-! ### Command unit (chapter 8) -/

/-- Outcomes of a command (R148). -/
inductive Result where
  | done | pass | fail | timeout | aborted | badKind | badParam | overlap | notReady | stationRunning | laneBusy
  | roleTaken | tagInUse | notFound | full | fault
  deriving DecidableEq, Repr

/-- Bytes 0 to 55 of a command record (R146). -/
abbrev CmdBytes := Vector Byte 56

/-- The state of a command in the queue (R146). A FINISHING command carries its outcome and the own writes of its
account that are not yet answered (R150). -/
inductive CmdState where
  | queued
  | running
  | finishing (result : Result) (detail : BitVec 16) (awaiting : List Nat)
  deriving DecidableEq, Repr

/-- An entry of the command queue (R146). -/
structure Cmd where
  slot  : Fin 32
  bytes : CmdBytes
  state : CmdState
  deriving DecidableEq, Repr

/-- An entry of the completion list (R150). -/
structure Completed where
  slot   : Fin 32
  bytes  : CmdBytes
  result : Result
  detail : BitVec 16
  deriving DecidableEq, Repr

/-- A Restart from its start to its completion (R154, R155). -/
structure RestartRun where
  slot    : Fin 32
  bytes   : CmdBytes
  cleared : Bool
  deriving DecidableEq, Repr

/-- A Copy Map from its start to its completion (R112 to R114). -/
structure CopyRun where
  slot     : Fin 32
  dest     : Addr
  snapshot : Vector Cell 96
  handed   : Nat
  done     : Nat
  stopped  : Bool
  deriving DecidableEq, Repr

/-- The command unit (chapter 8), with the running Copy Maps (R112). -/
structure CommandUnit where
  shadows         : Vector (Vector Byte 64) 32
  queue           : List Cmd
  completions     : List Completed
  completionCount : BitVec 32
  ignored         : Nat
  outcomeFaults   : Nat
  restart         : Option RestartRun
  copies          : List CopyRun
  deriving DecidableEq, Repr

/-! ### Notice writer and status writer (chapter 9) -/

/-- Notice kinds (09 9.1). -/
inductive NoticeKind where
  | confirmed | reactivated | surge | laneFault | vibrationLost | holdLost | unlocatedActivity | overrun
  | suspect | dropped | fading | laneRecovered | pressIdle | pressResumed | holdTaken | cycleSummary | commandDone
  deriving DecidableEq, Repr

/-- A notice without its sequence number (R156, 10 10.4). -/
structure Notice where
  kind    : NoticeKind
  station : Nat
  lane    : Nat
  cell    : Nat
  cycle   : BitVec 32
  time    : SampleTime
  v1      : BitVec 32
  v2      : BitVec 32
  v3      : BitVec 32
  deriving DecidableEq, Repr

inductive NoticeState where
  | noRing | writing | writeFault
  deriving DecidableEq, Repr

/-- What Set Notice Ring gives (R161). -/
structure Ring where
  base    : Addr
  entries : Nat
  info    : Bool
  deriving DecidableEq, Repr

/-- An entry of the unconsumed list (R156). `stamp` is its hand-on mark. -/
structure Unconsumed where
  alarm   : Bool
  overrun : Bool
  stamp   : Nat
  deriving DecidableEq, Repr

/-- The notice writer (R156). -/
structure NoticeWriter where
  state           : NoticeState
  queue           : List Notice
  ring            : Option Ring
  p               : Nat
  c               : Nat
  u               : Nat
  unconsumed      : List Unconsumed
  sequence        : BitVec 32
  discarded       : Nat
  discardedAlarms : Nat
  overrun         : Bool
  deriving DecidableEq, Repr

/-- What the status block shows of a station (10 10.6). -/
structure ShownStation where
  state      : StationState
  depth      : Nat
  pool       : Nat
  cycle      : BitVec 32
  period     : Nat
  early      : Nat
  clamped    : Nat
  outOfCycle : Nat
  deriving DecidableEq, Repr

/-- What the status block shows of a lane (10 10.6). -/
structure ShownLane where
  state      : LaneState
  reason     : Option FaultReason
  noiseValid : Bool
  noise      : Nat
  threshold  : Nat
  offset     : Int
  badBlocks  : Nat
  horizon    : SampleTime
  skipped    : Nat
  foreign    : Nat
  lastTest   : LastTest
  deriving DecidableEq, Repr

/-- What the status block shows of a lane's segments (10 10.6). -/
structure ShownSegs where
  map     : List Nat
  logical : Nat
  free    : Nat
  held    : Nat
  dropped : Nat
  deriving DecidableEq, Repr

/-- Every item the status block shows but the generation (09 9.5, 10 10.6). -/
structure Shown where
  notice        : NoticeState
  discarded     : Nat
  p             : Nat
  c             : Nat
  u             : Nat
  refused       : Nat
  ignored       : Nat
  outcomeFaults : Nat
  commands      : Nat
  stations      : List ShownStation
  lanes         : List ShownLane
  segs          : List ShownSegs
  deriving DecidableEq, Repr

inductive StatusState where
  | unset | idle | writing | stopped
  deriving DecidableEq, Repr

/-- A status write in progress (R164, R165). `done` counts parts answered DONE; `cut` is the cut-short mark of R166. -/
structure StatusWrite where
  shown      : Shown
  generation : BitVec 32
  handed     : Nat
  answered   : Nat
  done       : Nat
  faulted    : Bool
  cut        : Bool
  scheduled  : Bool
  served     : List (Fin 32)
  deriving DecidableEq, Repr

/-- What Set Status Block gives: base and period in milliseconds (R164). -/
structure StatusPlace where
  base   : Addr
  period : Nat
  deriving DecidableEq, Repr

/-- The status writer (R164). `carried` pairs the slot of a Write Status carried from a cut write with the hand-on number
of each part of that write which is on its account and unanswered (R164, R166; the model's own record, log 18). -/
structure StatusWriter where
  state      : StatusState
  place      : Option StatusPlace
  timer      : Option Nat
  change     : Bool
  generation : BitVec 32
  write      : Option StatusWrite
  waiting    : List (Fin 32)
  carried    : List (Fin 32 × Nat)
  deriving DecidableEq, Repr

/-! ### The whole part -/

/-- The CQ4, and the commands that wait for it. -/
structure State where
  path      : Path
  lanes     : Vector Lane 16
  stations  : Vector Station 4
  segs      : Vector Segs 16
  holds     : List HoldEntry
  cmd       : CommandUnit
  notices   : NoticeWriter
  status    : StatusWriter
  localTime : BitVec 32
  freeIndex : Nat
  pending   : List Instr
  deriving DecidableEq, Repr

/-- The detection settings after reset and Map Lane (R24). -/
def DetectSettings.mapped : DetectSettings :=
  { mode := .auto, gain := 32, thresholdOffset := 64, manual := 1024, deadTime := 256, rearmTime := 64,
    windowLength := 256, source := .quiet }

/-- The settings a lane's first block would be compared with (R24; log 24). -/
def InForce.mapped : InForce :=
  { state := .idle, trim := 0, offsetMode := .track, offsetRange := 4095, fixedOffset := 0, detect := .mapped }

/-- A lane after hardware reset or Restart (R1, R24). -/
def Lane.reset : Lane :=
  { state := .unmapped, mapping := none, continuity := none, badRun := 0, goodRun := 0, faultReason := none,
    queue := [], breakDue := true, trim := 0, silenceLimit := 0, silenceTimer := none, offsetMode := .track,
    offsetRange := 4095, fixedOffset := 0, detect := .mapped, used := .mapped, offset := 0, winBlocks := 0,
    winQuiet := 0, winSum := 0, noise := 0, noiseValid := false, threshold := none, settleCount := 0,
    liveDue := false, detector := .armed, hit := none, rearmCount := 0, horizon := none, badBlocks := 0,
    skipped := 0, foreign := 0, lastTest := { result := .none, errors := 0, counted := 0 }, test := none }

/-- A cleared cell (R89, R90). -/
def Cell.cleared : Cell :=
  { state := .clear, lock := 0, unlock := 0, events := 0, coherent := 0, energy := 0, peak := 0, totalEvents := 0,
    totalActive := 0, history := [], lastChange := 0, reference := none }

/-- A location line after hardware reset or Restart (R76). -/
def Line.reset : Line :=
  { form := .disabled, roleA := 0, roleB := 0, tmax := 0, increments := Vector.replicate 8 0 }

/-- The settings of R46's second column. -/
def StationSettings.reset : StationSettings :=
  { startLevel := 4000, stopLevel := 2000, tailBlocks := 16, quietCode := 30, window := 500, ws := 12, we := 20,
    unlocatedLimit := 0, summaryInterval := 0, policy := .none }

/-- The criteria of R91's third column. -/
def Criteria.reset : Criteria :=
  { minEvents := 3, fraction := 8, minEnergy := 0, lock := 4, drop := 3, fade := 6, surge := 4 }

/-- The summary totals at zero (R108). -/
def Totals.zero : Totals :=
  { located := 0, unlocated := 0, forced := 0, incomplete := 0, energy := 0, cell := none, outOfCycle := 0 }

/-- A station after hardware reset or Restart (R46, R67, R89, R91, R94, R108). -/
def Station.reset : Station :=
  { state := .stopped, settings := .reset, cycle := 0, tail := 0, quietTimer := none, period := none, rejectRun := 0,
    history := [], measureRef := none, primed := false, prevSample := none, boundary := [], pool := [],
    lines := Vector.replicate 3 .reset, outOfCycle := 0, early := 0, clamped := 0,
    cells := Vector.replicate 96 .cleared, criteria := .reset, located := 0, unlocated := 0, sumCounter := 0,
    totals := .zero }

/-- A lane's segment record after hardware reset, Restart or Unmap Lane (R115). -/
def Segs.reset : Segs := { table := none, held := 0, dropped := 0 }

/-- The path unit while RESET_N is low (R141), nothing having arrived. -/
def Path.reset : Path :=
  { resetLow := true, cmdBase := none, arrived := [], accepted := [], own := [], waits := [], starvation := 0,
    refusedCount := 0, memPort := [], masterPort := [], now := 0 }

/-- The command unit after hardware reset (R143, R145, R146, R149, R150). -/
def CommandUnit.reset : CommandUnit :=
  { shadows := Vector.replicate 32 (Vector.replicate 64 0), queue := [], completions := [], completionCount := 0,
    ignored := 0, outcomeFaults := 0, restart := none, copies := [] }

/-- The notice writer after hardware reset or Restart (R156). -/
def NoticeWriter.reset : NoticeWriter :=
  { state := .noRing, queue := [], ring := none, p := 0, c := 0, u := 0, unconsumed := [], sequence := 0,
    discarded := 0, discardedAlarms := 0, overrun := false }

/-- The status writer after hardware reset or Restart (R164). -/
def StatusWriter.reset : StatusWriter :=
  { state := .unset, place := none, timer := none, change := false, generation := 0, write := none, waiting := [],
    carried := [] }

/-- The part in hardware reset: RESET_N low, every block at its hardware-reset values (R141; log 7). -/
def State.reset : State :=
  { path := .reset, lanes := Vector.replicate 16 .reset, stations := Vector.replicate 4 .reset,
    segs := Vector.replicate 16 .reset, holds := [], cmd := .reset, notices := .reset, status := .reset,
    localTime := 0, freeIndex := 0, pending := [] }

end Sys2Proof.Machine
end

