-- ==== Sys2Proof/Machine/Flags.lean ====
section
/-! DEFINITION. The conventions of 00, 4: saturating counters, sample-time order, clamps and signed values; and the
conditions the part shows as flags or pins (window membership, ATTN). -/

namespace Sys2Proof.Machine

/-- A counter that stops at `limit` (00, 4, Counters). -/
def satAdd (limit a b : Nat) : Nat := min limit (a + b)

/-- A 16-bit counter that stops at 65535. -/
def sat16 (a b : Nat) : Nat := satAdd Config.max16 a b

/-- A 32-bit counter that stops at 2^32 - 1. -/
def sat32 (a b : Nat) : Nat := satAdd Config.max32 a b

/-- Clamp a natural number into `lo` to `hi`. -/
def clampNat (lo hi x : Nat) : Nat := max lo (min hi x)

/-- Clamp an integer into `lo` to `hi`. -/
def clampInt (lo hi x : Int) : Int := max lo (min hi x)

/-- 1 when a tuning field had to be clamped, else 0 (00, 4, Clamp or refuse). -/
def countClamped (given used : Nat) : Nat := if given = used then 0 else 1

/-- The same for a signed field (R168). -/
def countClampedInt (given used : Int) : Nat := if given = used then 0 else 1

/-- Time `a` is later than time `b`: (a - b) mod 2^32 lies in 1 to 2^31 - 1 (00, 4, Sample time). -/
def later (a b : SampleTime) : Bool :=
  let d := (a - b).toNat
  decide (1 ≤ d ∧ d ≤ 2147483647)

/-- Time `a` has reached `b`: it is `b` or later (R69). -/
def atOrAfter (a b : SampleTime) : Bool := decide (a = b) || later a b

/-- Two sample times half the range apart, which 00, 4 orders neither way. -/
def halfApart (a b : SampleTime) : Bool := decide ((a - b).toNat = 2147483648)

/-- `a` stands before `b` where the rules put sample times in order; the order of times half the range apart is the
free value of log 6. -/
def orderedBefore (a b : SampleTime) : Bool := later b a || (halfApart a b && Config.halfRangeEarlier a b)

/-- `t` is `a` or later where the rules must decide it (R83); half the range apart is the free value of log 6. -/
def orderedFrom (t a : SampleTime) : Bool := atOrAfter t a || (halfApart t a && !Config.halfRangeEarlier t a)

/-- A difference of sample times as a signed 32-bit value (00, 4). -/
def signedDiff (a b : SampleTime) : Int := (a - b).toInt

/-- A sample time moved by a signed number of samples, mod 2^32 (R18). -/
def shiftTime (t : SampleTime) (d : Int) : SampleTime := t + BitVec.ofInt 32 d

/-- `t` lies in `a` to `a + w`, both included, for a window of `w` samples (R71). -/
def inWindow (t a : SampleTime) (w : Nat) : Bool := decide ((t - a).toNat ≤ w)

/-- A sample corrected by the offset estimate, saturated to 16 bits (R25). -/
def corrected (offset : Int) (x : BitVec 16) : Int := clampInt (-32768) 32767 (x.toInt - offset)

/-- The magnitude of a corrected sample, saturated at 32767 (R25). -/
def magnitude (x : Int) : Nat := min 32767 x.natAbs

/-- A phase bin lies within the tension window `ws` to `we`, which may wrap past bin 63 (R65). -/
def inTension (ws we bin : Nat) : Bool :=
  if bin = 255 then false
  else if ws ≤ we then decide (ws ≤ bin ∧ bin ≤ we)
  else decide (ws ≤ bin ∨ bin ≤ we)

/-- Two byte spans share a byte. -/
def spansMeet (a n b m : Nat) : Bool := decide (a < b + m ∧ b < a + n)

/-- The class of a notice kind: true for alarm (09 9.1). -/
def NoticeKind.alarm : NoticeKind → Bool
  | .confirmed | .reactivated | .surge | .laneFault | .vibrationLost | .holdLost | .unlocatedActivity | .overrun => true
  | .suspect | .dropped | .fading | .laneRecovered | .pressIdle | .pressResumed | .holdTaken | .cycleSummary
  | .commandDone => false

/-- The output line ATTN (R163). -/
def State.attn (s : State) : Bool :=
  s.notices.unconsumed.any (·.alarm) || s.notices.overrun || decide (s.notices.state = .writeFault)
    || ((match s.notices.ring with | some r => r.info | none => false) && s.notices.unconsumed.any (fun e => !e.alarm))

end Sys2Proof.Machine
end

