-- ==== Sys2Proof/WellFormed.lean ====
section
/-! DEFINITION. Which command terms name an event that can exist: a transfer has 1 to 16 beats, an answer at most 16
beats of data (07 7.1). -/

namespace Sys2Proof

/-- The number of beats of a transfer. -/
def Payload.beats : Payload → Nat
  | .read n => n
  | .write bs => bs.length

/-- A transfer carries 1 to 16 beats (07 7.1). -/
def Transfer.wf (t : Transfer) : Bool := decide (1 ≤ t.payload.beats ∧ t.payload.beats ≤ 16)

/-- An answer carries the data of at most 16 beats. -/
def Answer.wf (a : Answer) : Bool := decide (a.data.length ≤ 16)

/-- The command terms that name an event. -/
def WellFormed : Instr → Bool
  | .transferArrival t => t.wf
  | .transferAcceptance _ => true
  | .forwardedIssue => true
  | .forwardedResponse _ a => a.wf
  | .ownWriteIssue => true
  | .ownWriteResponse _ _ => true
  | .strayResponse a => a.wf
  | .resetNAssertion => true
  | .resetNRelease _ => true
  | .silenceTimeout _ => true
  | .blockAnalysisEnd _ => true
  | .testTimeout _ => true
  | .quietTimeout _ => true
  | .noticeWriteHandOn => true
  | .statusWriteStart => true
  | .statusPartHandOn => true
  | .snapshotWriteHandOn _ => true
  | .completion => true
  | .badKind => true
  | .mapLane => true
  | .unmapLane => true
  | .setLaneConditioning => true
  | .testLane => true
  | .setDetection => true
  | .setStation => true
  | .startStation => true
  | .stopStation => true
  | .setLocationLine => true
  | .setMapCriteria => true
  | .clearCells => true
  | .copyMap => true
  | .holdSegment => true
  | .releaseHold => true
  | .abort => true
  | .restart => true
  | .queueDrained => true
  | .setNoticeRing => true
  | .setStatusBlock => true
  | .writeStatus => true

end Sys2Proof
end

