-- ==== Sys2Proof/Machine/Operands.lean ====
section
/-! DEFINITION. Reading and writing records byte by byte: the lane block (10 10.2), the command record and its codes
(10 10.3), the notice record (10 10.4), the cell record (10 10.5) and the status block (10 10.6). -/

namespace Sys2Proof.Machine

/-! ### Bytes, least significant first -/

/-- Byte `i` of a list of bytes. -/
def byteAt (l : List Byte) (i : Nat) : Byte := l.getD i 0

/-- One-byte field at offset `i`. -/
def u8 (l : List Byte) (i : Nat) : Nat := (byteAt l i).toNat

/-- Two-byte field at offset `i`. -/
def u16 (l : List Byte) (i : Nat) : Nat := u8 l i + 256 * u8 l (i + 1)

/-- Four-byte field at offset `i`. -/
def u32 (l : List Byte) (i : Nat) : Nat := u16 l i + 65536 * u16 l (i + 2)

/-- The `n` low bytes of a number, least significant first. -/
def le : Nat → Nat → List Byte
  | 0, _ => []
  | n + 1, v => BitVec.ofNat 8 v :: le n (v / 256)

/-- `n` reserved bytes, written as zero (R167). -/
def res (n : Nat) : List Byte := List.replicate n 0

/-- A signed value as 16-bit two's complement (R168). -/
def le16s (v : Int) : List Byte := le 2 (BitVec.ofInt 16 v).toNat

/-- A signed 16-bit field read as two's complement (R168). -/
def s16 (l : List Byte) (i : Nat) : Int := (BitVec.ofNat 16 (u16 l i)).toInt

/-- A byte list as beats with every strobe set; the last beat is filled with zero. -/
def beatsOf : Nat → List Byte → List Beat
  | 0, _ => []
  | n + 1, l =>
    { bytes := Vector.ofFn fun i : Fin 8 => byteAt l i, strobes := Vector.replicate 8 true } :: beatsOf n (l.drop 8)

/-- The bytes a list of beats carries, in order of address. -/
def bytesOf (bs : List Beat) : List Byte := bs.flatMap fun b => b.bytes.toList

/-! ### Transfers -/

/-- How many bytes a transfer spans (07 7.1). -/
def spanOf (t : Transfer) : Nat := 8 * t.payload.beats

/-- The transfer is a write. -/
def isWrite (t : Transfer) : Bool := match t.payload with | .read _ => false | .write _ => true

/-- The beats of a write; none for a read. -/
def writeBeats (t : Transfer) : List Beat := match t.payload with | .read _ => [] | .write bs => bs

/-- The answer of a refused transfer: FAULT, with read data of zero for a read (R132). -/
def refusedAnswer (t : Transfer) : Answer :=
  { resp := .fault
    data := match t.payload with | .read n => List.replicate n (Vector.replicate 8 0) | .write _ => [] }

/-! ### The lane block (10 10.2) -/

/-- The header and samples of a lane block. -/
structure BlockData where
  sync      : Nat
  laneId    : Nat
  overload  : Bool
  testFlag  : Bool
  sequence  : BitVec 16
  first     : SampleTime
  samples   : List (BitVec 16)
  deriving DecidableEq, Repr

/-- `n` samples from offset `i` on. -/
def samplesAt (l : List Byte) : Nat → Nat → List (BitVec 16)
  | 0, _ => []
  | n + 1, i => BitVec.ofNat 16 (u16 l i) :: samplesAt l n (i + 2)

/-- The block a 128-byte write carries; bits 6 and 7 of the flags are reserved and ignored (R167). -/
def blockData (l : List Byte) : BlockData :=
  { sync := u8 l 0
    laneId := u8 l 1 % 16
    overload := (byteAt l 1).getLsbD 4
    testFlag := (byteAt l 1).getLsbD 5
    sequence := BitVec.ofNat 16 (u16 l 2)
    first := BitVec.ofNat 32 (u32 l 4)
    samples := samplesAt l 60 8 }

/-- R7: a lane-master write is a block when it has 16 beats, a 128-byte-aligned address and every strobe set. -/
def isBlock (t : Transfer) : Bool :=
  decide (t.payload.beats = 16) && decide (t.addr.toNat % 128 = 0)
    && (writeBeats t).all fun b => b.strobes.toList.all id

/-! ### The command record (10 10.3) -/

/-- The kind code of a record. -/
def kindCode (r : CmdBytes) : Nat := u16 r.toList 0
/-- The tag of a record. -/
def tagOf (r : CmdBytes) : Nat := u8 r.toList 2
/-- The notify flag of a record; the other flag bits are reserved (R167). -/
def notifyOf (r : CmdBytes) : Bool := (byteAt r.toList 3).getLsbD 0

/-- Outcome codes (10 10.3). -/
def Result.code : Result → Nat
  | .done => 0x01 | .pass => 0x02 | .fail => 0x03 | .timeout => 0x04 | .aborted => 0x05
  | .badKind => 0x10 | .badParam => 0x11 | .overlap => 0x12 | .notReady => 0x13 | .stationRunning => 0x14
  | .laneBusy => 0x15 | .roleTaken => 0x16 | .tagInUse => 0x17 | .notFound => 0x18 | .full => 0x19 | .fault => 0x1A

/-- The station a record names, or 255 for kinds that name none (R151). -/
def stationNamed (r : CmdBytes) : Nat :=
  let l := r.toList
  match kindCode r with
  | 0x01 => u8 l 5
  | 0x06 | 0x07 | 0x08 | 0x09 | 0x0A | 0x0B | 0x0C => u8 l 4
  | _ => 255

/-- The lane a record names, or 255 for kinds that name none (R151). -/
def laneNamed (r : CmdBytes) : Nat :=
  match kindCode r with
  | 0x01 | 0x02 | 0x03 | 0x04 | 0x05 | 0x0D | 0x0E => u8 r.toList 4
  | _ => 255

/-- A lane number in range. -/
def laneOf (n : Nat) : Option (Fin 16) := if h : n < 16 then some ⟨n, h⟩ else none
/-- A station number in range. -/
def stationOf (n : Nat) : Option (Fin 4) := if h : n < 4 then some ⟨n, h⟩ else none
/-- A role code: 0 to 5 AE, 6 vibration (10 10.3). -/
def roleOf (n : Nat) : Option Role :=
  if h : n < 6 then some (.ae ⟨n, h⟩) else if n = 6 then some .vibration else none
/-- An offset mode code (10 10.3). -/
def offsetModeOf (n : Nat) : Option OffsetMode :=
  if n = 0 then some .track else if n = 1 then some .fixed else none
/-- A threshold mode code (10 10.3). -/
def thresholdModeOf (n : Nat) : Option ThresholdMode :=
  if n = 0 then some .auto else if n = 1 then some .manual else none
/-- A window source code (10 10.3). -/
def sourceOf (n : Nat) : Option WindowSource := if n = 0 then some .quiet else if n = 1 then some .any else none
/-- A hold policy code (10 10.3). -/
def policyOf (n : Nat) : Option HoldPolicy :=
  if n = 0 then some .none else if n = 1 then some .confirmed else if n = 2 then some .suspectUp else none
/-- A line form code (10 10.3). -/
def formOf (n : Nat) : Option LineForm :=
  if n = 0 then some .disabled else if n = 1 then some .linear else if n = 2 then some .table else none
/-- A line number in range. -/
def lineOf (n : Nat) : Option (Fin 3) := if h : n < 3 then some ⟨n, h⟩ else none

/-- The trim byte: sign in bit 7, magnitude in bits 0 to 6 (R168). -/
def trimGiven (b : Nat) : Int := if 128 ≤ b then -((b - 128 : Nat) : Int) else (b : Int)

/-! ### The notice record (10 10.4) -/

/-- Notice kind codes. -/
def NoticeKind.code : NoticeKind → Nat
  | .confirmed => 0x01 | .reactivated => 0x02 | .surge => 0x03 | .laneFault => 0x04 | .vibrationLost => 0x05
  | .holdLost => 0x06 | .unlocatedActivity => 0x07 | .overrun => 0x08
  | .suspect => 0x11 | .dropped => 0x12 | .fading => 0x13 | .laneRecovered => 0x14 | .pressIdle => 0x15
  | .pressResumed => 0x16 | .holdTaken => 0x17 | .cycleSummary => 0x18 | .commandDone => 0x19

/-- Fault reason codes (10 10.4). -/
def reasonCode : Option FaultReason → Nat
  | none => 0 | some .sync => 1 | some .laneId => 2 | some .slip => 3 | some .torn => 4 | some .silent => 5

/-- The 32 bytes of a notice with its sequence number. -/
def noticeBytes (sequence : BitVec 32) (n : Notice) : List Byte :=
  le 4 sequence.toNat ++ le 1 n.kind.code ++ le 1 (if n.kind.alarm then 1 else 0) ++ le 1 n.station ++ le 1 n.lane
    ++ le 2 n.cell ++ res 2 ++ le 4 n.cycle.toNat ++ le 4 n.time.toNat ++ le 4 n.v1.toNat ++ le 4 n.v2.toNat
    ++ le 4 n.v3.toNat

/-- The trailer of a slot: submit mark 0, outcome, detail, completion count (R149). -/
def trailerBytes (r : Result) (detail : BitVec 16) (count : BitVec 32) : List Byte :=
  le 1 0 ++ le 1 r.code ++ le 2 detail.toNat ++ le 4 count.toNat

/-! ### The cell record (10 10.5) -/

/-- Cell state codes. -/
def CellState.code : CellState → Nat
  | .clear => 0 | .suspect => 1 | .confirmed => 2 | .fading => 3

/-- A history as bits, the oldest flag in bit 0. -/
def historyBits : List Bool → Nat
  | [] => 0
  | b :: t => b.toNat + 2 * historyBits t

/-- The 32 bytes of a cell record. -/
def cellBytes (c : Cell) : List Byte :=
  le 1 c.state.code ++ le 1 c.lock ++ le 1 c.unlock ++ le 1 c.history.length ++ le 2 (historyBits c.history)
    ++ le 2 c.events ++ le 2 c.coherent ++ le 2 c.peak ++ le 4 c.energy ++ le 4 c.totalEvents ++ le 4 c.totalActive
    ++ le 4 c.lastChange.toNat ++ le 4 (c.reference.getD 0)

/-! ### The status block (10 10.6) -/

/-- Station state codes. -/
def StationState.code : StationState → Nat
  | .stopped => 0 | .waiting => 1 | .compacting => 2 | .tailing => 3 | .pressIdle => 4 | .blind => 5
/-- Lane state codes. -/
def LaneState.code : LaneState → Nat
  | .unmapped => 0 | .idle => 1 | .settling => 2 | .live => 3 | .faulted => 4 | .test => 5
/-- Last-test result codes. -/
def TestResult.code : TestResult → Nat
  | .none => 0 | .pass => 1 | .fail => 2 | .timeout => 3 | .aborted => 4
/-- Notice writer state codes. -/
def NoticeState.code : NoticeState → Nat
  | .noRing => 0 | .writing => 1 | .writeFault => 2

/-- A station entry, 32 bytes. -/
def stationBytes (x : ShownStation) : List Byte :=
  le 1 x.state.code ++ le 1 x.depth ++ le 1 x.pool ++ res 1 ++ le 4 x.cycle.toNat ++ le 2 x.period ++ le 2 x.early
    ++ le 2 x.clamped ++ res 2 ++ le 4 x.outOfCycle ++ res 12

/-- A lane entry, 32 bytes. -/
def laneBytes (x : ShownLane) : List Byte :=
  le 1 x.state.code ++ le 1 (reasonCode x.reason) ++ le 1 x.noiseValid.toNat ++ le 1 x.lastTest.result.code
    ++ le 2 x.noise ++ le 2 x.threshold ++ le16s x.offset ++ le 2 x.badBlocks ++ le 4 x.horizon.toNat
    ++ le 2 x.skipped ++ le 2 x.foreign ++ le 4 x.lastTest.errors ++ le 2 x.lastTest.counted ++ res 6

/-- Byte `k` of a packed segment map: m(2k) low, m(2k + 1) high; entries from L upward are 0. -/
def mapByte (m : List Nat) (k : Nat) : List Byte := le 1 (m.getD (2 * k) 0 + 16 * m.getD (2 * k + 1) 0)

/-- A segment entry, 12 bytes. -/
def segBytes (x : ShownSegs) : List Byte :=
  (List.range 6).flatMap (mapByte x.map) ++ le 1 x.logical ++ le 1 x.free ++ le 1 x.held ++ res 1 ++ le 2 x.dropped

/-- The header, 128 bytes: part code 0x00C4, revision 0x01 and the items of 10 10.6. -/
def headerBytes (generation : BitVec 32) (x : Shown) : List Byte :=
  le 2 0x00C4 ++ le 1 0x01 ++ res 1 ++ le 4 generation.toNat ++ le 1 x.notice.code ++ res 1 ++ le 2 x.discarded
    ++ le 2 x.p ++ le 2 x.c ++ le 2 x.u ++ le 2 x.refused ++ le 2 x.ignored ++ le 2 x.outcomeFaults
    ++ le 1 x.commands ++ res 103

/-- The 1024 bytes of a status block: the generation stands in part 0 and again in the last beat of part 7. -/
def statusBytes (generation : BitVec 32) (x : Shown) : List Byte :=
  headerBytes generation x ++ x.stations.flatMap stationBytes ++ x.lanes.flatMap laneBytes
    ++ x.segs.flatMap segBytes ++ res 56 ++ res 4 ++ le 4 generation.toNat

end Sys2Proof.Machine
end

