-- ==== Sys2Proof/Machine/Ops.lean ====
section
/-! DEFINITION. The shared operations: access to lanes, stations and segment records, the window table, handing a
notice to the writer, the own-write queue and its waiting producers, the ends of commands, the start of a command,
and what every step does besides its own effect. -/

namespace Sys2Proof.Machine

/-- What every meaning answers with. -/
abbrev Reply := Host.Outcome State Fault Refusal

/-! ### Access -/

/-- Lane `i`. -/
def State.lane (s : State) (i : Fin 16) : Lane := s.lanes.get i
/-- Station `k`. -/
def State.station (s : State) (k : Fin 4) : Station := s.stations.get k
/-- Segment record of lane `i`. -/
def State.seg (s : State) (i : Fin 16) : Segs := s.segs.get i
/-- Replace lane `i`. -/
def State.setLane (s : State) (i : Fin 16) (l : Lane) : State := { s with lanes := s.lanes.set i l }
/-- Replace station `k`. -/
def State.setStation (s : State) (k : Fin 4) (x : Station) : State := { s with stations := s.stations.set k x }
/-- Replace the segment record of lane `i`. -/
def State.setSeg (s : State) (i : Fin 16) (g : Segs) : State := { s with segs := s.segs.set i g }
/-- Change lane `i` by `f`. -/
def State.onLane (s : State) (i : Fin 16) (f : Lane → Lane) : State := s.setLane i (f (s.lane i))
/-- Change station `k` by `f`. -/
def State.onStation (s : State) (k : Fin 4) (f : Station → Station) : State := s.setStation k (f (s.station k))

/-- The station a lane serves. -/
def Lane.stationOf (l : Lane) : Option (Fin 4) := l.mapping.map (·.station)

/-- The lane serves station `k`. -/
def Lane.serves (l : Lane) (k : Fin 4) : Bool := decide (l.stationOf = some k)

/-- The lane is an AE lane. -/
def Lane.isAE (l : Lane) : Bool := match l.mapping with
  | some m => (match m.role with | .ae _ => true | .vibration => false)
  | none => false

/-- The lane is a vibration lane. -/
def Lane.isVibration (l : Lane) : Bool := match l.mapping with
  | some m => (match m.role with | .ae _ => false | .vibration => true)
  | none => false

/-- The lanes of station `k`, in ascending order. -/
def State.lanesOf (s : State) (k : Fin 4) : List (Fin 16) := (List.finRange 16).filter fun i => (s.lane i).serves k

/-- The vibration lane of station `k`. -/
def State.vibrationLane (s : State) (k : Fin 4) : Option (Fin 16) :=
  (s.lanesOf k).find? fun i => (s.lane i).isVibration

/-- The station is in a watching state: any but STOPPED (03 3.2). -/
def Station.watching (x : Station) : Bool := decide (x.state ≠ .stopped)

/-! ### The window table (R134, R135) -/

/-- What owns a window of the table (R134). -/
inductive WindowKind where
  | command
  | lane (i : Fin 16)
  | ring
  | status
  | copy (slot : Fin 32)
  deriving DecidableEq, Repr

/-- An entry of the window table. -/
structure Window where
  kind : WindowKind
  base : Nat
  size : Nat
  deriving DecidableEq, Repr

/-- The segment size of a mapping (06 6.1). -/
def Mapping.segSize (m : Mapping) : Nat := m.blocks * 128
/-- The window size of a mapping (R3). -/
def Mapping.windowSize (m : Mapping) : Nat := (m.logical + m.spares) * m.segSize

/-- The base of the command window: the strap value times 16 MiB (R169). -/
def cmdWindowBase (straps : BitVec 8) : Nat := straps.toNat * 16777216

/-- The window table, computed from what owns its entries (R134; log 27). -/
def windowTable (s : State) : List Window :=
  (match s.path.cmdBase with | some v => [{ kind := .command, base := cmdWindowBase v, size := 2048 }] | none => [])
  ++ (List.finRange 16).filterMap (fun i => match (s.lane i).mapping with
      | some m => some { kind := .lane i, base := m.base.toNat, size := m.windowSize }
      | none => none)
  ++ (match s.notices.ring with
      | some r => [{ kind := .ring, base := r.base.toNat, size := r.entries * 32 }] | none => [])
  ++ (match s.status.place with
      | some b => [{ kind := .status, base := b.base.toNat, size := 1024 }] | none => [])
  ++ s.cmd.copies.map fun r => { kind := .copy r.slot, base := r.dest.toNat, size := 3072 }

/-- The bytes an own write spans. -/
def OwnWrite.span (w : OwnWrite) : Nat := 8 * w.beats.length

/-- The window check of R135: the span shares a byte with an entry of the table other than one that `exceptWindow` takes
out, or with a queued own write other than one that `exceptWrite` takes out. -/
def windowClash (s : State) (base size : Nat) (exceptWindow : WindowKind → Bool) (exceptWrite : Producer → Bool) :
    Bool :=
  (windowTable s).any (fun w => !exceptWindow w.kind && spansMeet base size w.base w.size)
  || s.path.own.any (fun w => !exceptWrite w.producer && spansMeet base size w.addr.toNat w.span)

/-! ### Handing a notice to the writer (R157) -/

/-- The queue without its oldest info notice, if it has one. -/
def dropOldestInfo : List Notice → Option (List Notice)
  | [] => none
  | n :: rest => if n.kind.alarm then (dropOldestInfo rest).map (n :: ·) else some rest

/-- One discard: counted, an alarm among the discarded alarms too, and the overrun flag set (R157). -/
def NoticeWriter.discard (w : NoticeWriter) (alarm : Bool) : NoticeWriter :=
  { w with discarded := sat16 w.discarded 1, discardedAlarms := sat16 w.discardedAlarms alarm.toNat, overrun := true }

/-- R157: a notice handed to the writer joins the internal queue, or the full queue keeps alarms in preference. -/
def NoticeWriter.take (w : NoticeWriter) (n : Notice) : NoticeWriter :=
  if w.queue.length < Config.noticeQueueMax then { w with queue := w.queue ++ [n] }
  else if n.kind.alarm then
    match dropOldestInfo w.queue with
    | some rest => { w.discard false with queue := rest ++ [n] }
    | none => w.discard true
  else w.discard false

/-- Hand one notice to the notice writer. -/
def handNotice (s : State) (n : Notice) : State := { s with notices := s.notices.take n }

/-- Hand notices on in order. -/
def handNotices (s : State) (ns : List Notice) : State := ns.foldl handNotice s

/-! ### What the status block shows (09 9.5) -/

/-- A station as shown; the period is 0 while UNKNOWN. -/
def Station.shown (x : Station) : ShownStation :=
  { state := x.state, depth := x.boundary.length, pool := x.pool.length, cycle := x.cycle,
    period := x.period.getD 0, early := x.early, clamped := x.clamped, outOfCycle := x.outOfCycle }

/-- A lane as shown; an absent threshold or horizon shows 0. -/
def Lane.shown (l : Lane) : ShownLane :=
  { state := l.state, reason := l.faultReason, noiseValid := l.noiseValid, noise := l.noise,
    threshold := l.threshold.getD 0, offset := l.offset, badBlocks := l.badBlocks, horizon := l.horizon.getD 0,
    skipped := l.skipped, foreign := l.foreign, lastTest := l.lastTest }

/-- A lane's segments as shown; all 0 for an UNMAPPED lane but the dropped requests. -/
def shownSegs (l : Lane) (g : Segs) : ShownSegs :=
  { map := (g.table.map (·.map)).getD [], logical := (l.mapping.map (·.logical)).getD 0,
    free := (g.table.map (·.free.length)).getD 0, held := g.held, dropped := g.dropped }

/-- Every item the status block shows but the generation. -/
def shown (s : State) : Shown :=
  { notice := s.notices.state, discarded := s.notices.discarded, p := s.notices.p, c := s.notices.c,
    u := s.notices.u, refused := s.path.refusedCount, ignored := s.cmd.ignored,
    outcomeFaults := s.cmd.outcomeFaults, commands := s.cmd.queue.length,
    stations := s.stations.toList.map Station.shown,
    lanes := s.lanes.toList.map Lane.shown,
    segs := (List.finRange 16).map fun i => shownSegs (s.lane i) (s.seg i) }

/-! ### Own writes and waiting producers (R137, R138, R139) -/

/-- The client behind a producer. -/
def Producer.client : Producer → Client
  | .commandUnit => .commandUnit
  | .noticeWriter _ => .noticeWriter
  | .statusWriter _ => .statusWriter
  | .crackMap slot => .crackMap slot

/-- Restart stands between its start and its clearing (R154). -/
def draining (s : State) : Bool := match s.cmd.restart with | some r => !r.cleared | none => false

/-- The notice writer has a notice to write and room in the ring for it (R158, R159). -/
def noticeReady (s : State) : Bool :=
  decide (s.notices.state = .writing) && (match s.notices.ring with | some r => decide (s.notices.u < r.entries) | none => false)
    && (!s.notices.queue.isEmpty || decide (0 < s.notices.discarded)) && !draining s

/-- The status writer has a part to hand on (R165, R166). -/
def statusReady (s : State) : Bool :=
  decide (s.status.state = .writing)
    && (match s.status.write with
        | some w => decide (w.handed < Config.statusParts) && !w.faulted && !w.cut | none => false)
    && !draining s

/-- The Copy Map of a slot has a snapshot write to hand on (R113, R114). -/
def copyReady (s : State) (slot : Fin 32) : Bool :=
  s.cmd.copies.any fun r => decide (r.slot = slot) && !r.stopped && decide (r.handed < Config.snapshotWrites)

/-- The client has a write to hand on. -/
def clientReady (s : State) : Client → Bool
  | .commandUnit => !s.cmd.completions.isEmpty
  | .noticeWriter => noticeReady s
  | .statusWriter => statusReady s
  | .crackMap slot => copyReady s slot

/-- The clients there are; each running Copy Map is one, the model's choice (log 23). -/
def clients (s : State) : List Client :=
  [.commandUnit, .noticeWriter, .statusWriter] ++ s.cmd.copies.map fun r => .crackMap r.slot

/-- A place is free for this client: the queue holds fewer than 8, and no other client began to wait before it
(R137). -/
def placeFor (s : State) (c : Client) : Bool :=
  decide (s.path.own.length < Config.ownQueueMax)
    && (match s.path.waits.find? (fun w => decide (w.1 = c)) with
        | some w => s.path.waits.all fun x => decide (w.2 ≤ x.2)
        | none => s.path.waits.isEmpty)

/-- The client may hand on its next write now: the part is out of reset, the client has a write, and a place is free
for it. -/
def mayHandOn (s : State) (c : Client) : Bool := !s.path.resetLow && clientReady s c && placeFor s c

/-- Hand one own write to the queue: it joins the tail as QUEUED, and its producer no longer waits for that place
(R137). -/
def handOn (s : State) (p : Producer) (addr : Addr) (beats : List Beat) : State :=
  { s with path :=
    { s.path with
      own := s.path.own ++ [{ id := s.path.now, producer := p, addr := addr, beats := beats, issued := false }]
      waits := s.path.waits.filter fun w => decide (w.1 ≠ p.client)
      now := s.path.now + 1 } }

/-- After a step: clients with no write left no longer wait; when the queue is full, those that have one and do not
yet wait begin to, together (R137; log 23, also for each running Copy Map being a waiter of its own). -/
def settleWaits (s : State) : State :=
  let kept := s.path.waits.filter fun w => clientReady s w.1
  if s.path.own.length < Config.ownQueueMax then { s with path := { s.path with waits := kept } }
  else
    let new := (clients s).filter fun c => clientReady s c && !kept.any fun w => decide (w.1 = c)
    { s with path := { s.path with waits := kept ++ new.map fun c => (c, s.path.now), now := s.path.now + 1 } }

/-- The transfer has been accepted and memory has not answered it. -/
def Accepted.unanswered (a : Accepted) : Bool := match a.phase with
  | .ready => true | .held _ => true | .issued _ => true | .answered _ _ => false

/-- R139: the own write meets a forwarded transfer accepted before it was handed on and not yet answered. -/
def ownBlocked (s : State) (w : OwnWrite) : Bool :=
  s.path.accepted.any fun a =>
    a.unanswered && decide (a.stamp < w.id) && spansMeet w.addr.toNat w.span a.t.addr.toNat (spanOf a.t)

/-- The waiting own write of R138: the oldest QUEUED entry, when R139 does not hold it. -/
def waitingOwn (s : State) : Option OwnWrite :=
  match s.path.own.find? (fun w => !w.issued) with
  | some w => if ownBlocked s w then none else some w
  | none => none

/-- The starvation count returns to 0 whenever no waiting own write is present (R138). -/
def settleStarvation (s : State) : State :=
  match waitingOwn s with
  | some _ => s
  | none => { s with path := { s.path with starvation := 0 } }

/-- The change flag is set when an item the status block shows has changed (R164; log 20). -/
def watchShown (before after : State) : State :=
  if shown before = shown after then after else { after with status := { after.status with change := true } }

/-- What every step does besides its own effect: the change flag, the waiting producers, the starvation count. -/
def commit (before after : State) : State := settleStarvation (settleWaits (watchShown before after))

/-! ### Ends of commands (R148, R150) -/

/-- The hand-on numbers of the own writes of one producer. -/
def ownIds (s : State) (p : Producer) : List Nat :=
  (s.path.own.filter fun w => decide (w.producer = p)).map (·.id)

/-- The command that occupies a slot in the queue. -/
def State.cmdAt (s : State) (slot : Fin 32) : Option Cmd := s.cmd.queue.find? fun c => decide (c.slot = slot)

/-- The detail a command completes with: a Copy Map counts its writes answered DONE (R114), every other command
carries the detail given. -/
def detailOf (s : State) (slot : Fin 32) (detail : BitVec 16) : BitVec 16 :=
  match s.cmd.copies.find? (fun r => decide (r.slot = slot)) with
  | some r => BitVec.ofNat 16 r.done
  | none => detail

/-- Set the state of the command in a slot. -/
def setCmdState (q : List Cmd) (slot : Fin 32) (st : CmdState) : List Cmd :=
  q.map fun c => if c.slot = slot then { c with state := st } else c

/-- R150: decide the outcome of the command in a slot. It becomes FINISHING, and joins the completion list at once when
none of its own writes is unanswered. -/
def decideCmd (s : State) (slot : Fin 32) (r : Result) (detail : BitVec 16) (awaiting : List Nat) : State :=
  match s.cmdAt slot with
  | none => s
  | some c =>
    let q := setCmdState s.cmd.queue slot (.finishing r detail awaiting)
    if awaiting.isEmpty then
      { s with cmd := { s.cmd with queue := q,
                                   completions := s.cmd.completions ++ [{ slot := slot, bytes := c.bytes, result := r,
                                                                          detail := detailOf s slot detail }] } }
    else { s with cmd := { s.cmd with queue := q } }

/-- An awaited own write has its response: strike it from a FINISHING command (R150). -/
def strikeCmd (id : Nat) (c : Cmd) : Cmd := match c.state with
  | .finishing r d aw => { c with state := .finishing r d (aw.filter fun i => decide (i ≠ id)) }
  | .queued => c
  | .running => c

/-- The entry a FINISHING command makes in the completion list when `id` was the last own write it awaited. -/
def joinsAt (s : State) (id : Nat) (c : Cmd) : Option Completed := match c.state with
  | .finishing r d aw =>
    if aw.any (fun i => decide (i = id)) && aw.all (fun i => decide (i = id)) then
      some { slot := c.slot, bytes := c.bytes, result := r, detail := detailOf s c.slot d }
    else none
  | .queued => none
  | .running => none

/-- R150: after the response to an own write, FINISHING commands that awaited it alone join the completion list, in
queue order, which is the model's choice (log 35). -/
def settleAwaiting (s : State) (id : Nat) : State :=
  { s with cmd := { s.cmd with queue := s.cmd.queue.map (strikeCmd id),
                               completions := s.cmd.completions ++ s.cmd.queue.filterMap (joinsAt s id) } }

/-- A command completes DONE at start with a detail (R148). -/
def complete (s : State) (slot : Fin 32) (detail : Nat) : State :=
  decideCmd s slot .done (BitVec.ofNat 16 detail) []

/-- A command is refused with an outcome for which no chapter gives a detail: the detail is a free value (log 5). -/
def refuse (s : State) (slot : Fin 32) (r : Result) : State :=
  decideCmd { s with freeIndex := s.freeIndex + 1 } slot r (Config.openDetail s.freeIndex) []

/-- A command becomes RUNNING (R147). -/
def runCmd (s : State) (slot : Fin 32) : State :=
  { s with cmd := { s.cmd with queue := setCmdState s.cmd.queue slot .running } }

/-! ### Completion (R149, R151) -/

/-- The address of a slot's trailer (08 8.1). -/
def trailerAddr (s : State) (slot : Fin 32) : Addr :=
  BitVec.ofNat 32 (cmdWindowBase (s.path.cmdBase.getD 0) + 64 * slot.val + 56)

/-- R149, step 3: the shadow's bytes 56 to 63 take the trailer's values. -/
def setTrailer (shadows : Vector (Vector Byte 64) 32) (slot : Fin 32) (t : List Byte) : Vector (Vector Byte 64) 32 :=
  shadows.set slot ((shadows.get slot).mapIdx fun i old => if 56 ≤ i then byteAt t (i - 56) else old)

/-- R151: the COMMAND_DONE notice. -/
def commandDone (h : Completed) (count : BitVec 32) : Notice :=
  { kind := .commandDone, station := stationNamed h.bytes, lane := laneNamed h.bytes, cell := 0xFFFF, cycle := 0,
    time := 0, v1 := BitVec.ofNat 32 (h.slot.val + 256 * tagOf h.bytes + 65536 * h.result.code),
    v2 := BitVec.ofNat 32 (h.detail.toNat + 65536 * kindCode h.bytes), v3 := count }

/-- R149, R154: the command unit after the completion of `h`, with `rest` the completion list behind it. -/
def CommandUnit.completed (u : CommandUnit) (h : Completed) (rest : List Completed) : CommandUnit :=
  { u with
    completionCount := u.completionCount + 1
    shadows := setTrailer u.shadows h.slot (trailerBytes h.result h.detail (u.completionCount + 1))
    queue := u.queue.filter fun c => decide (c.slot ≠ h.slot)
    completions := rest
    copies := u.copies.filter fun r => decide (r.slot ≠ h.slot)
    restart := match u.restart with
      | some r => if r.cleared ∧ r.slot = h.slot then none else some r
      | none => none }

/-- R149: the completion of the head of the completion list, taken whole. -/
def completeHead (s : State) (h : Completed) (rest : List Completed) : State :=
  let count := s.cmd.completionCount + 1
  let s1 := handOn s .commandUnit (trailerAddr s h.slot) (beatsOf 1 (trailerBytes h.result h.detail count))
  let s2 := { s1 with cmd := s1.cmd.completed h rest }
  if notifyOf h.bytes then handNotice s2 (commandDone h count) else s2

/-- R150: the heads of the completion list complete in order, up to `n` of them, as long as a place is free. -/
def completeHeads : Nat → State → State
  | 0, s => s
  | n + 1, s => match s.cmd.completions with
    | h :: rest => if placeFor s .commandUnit then completeHeads n (completeHead s h rest) else s
    | [] => s

/-- R147: a started command that was refused or completed at start, and so is FINISHING, completes within its start, the
entries ahead of it first (R150); an entry for which no place is left, as those of an Abort's targets may come to take,
stays until a COMPLETION. A command that runs on is left as it is (log 33). -/
def completeStarted (c : Cmd) (s : State) : State :=
  match s.cmdAt c.slot with
  | none => s
  | some d => match d.state with
    | .finishing _ _ _ => completeHeads s.cmd.completions.length s
    | .queued | .running => s

/-- The command unit may start a command: out of reset, no Restart under way (R154), and not waiting for a place in the
own-write queue (R147). It waits while the queue is full (R150); the places that the entries of its completion list and the
producers that wait are to take (R137, R150) are not free for the command that starts (log 33). -/
def mayStart (s : State) : Bool :=
  !s.path.resetLow && s.cmd.restart.isNone && s.path.waits.isEmpty
    && decide (s.path.own.length + s.cmd.completions.length < Config.ownQueueMax)

/-- The command that starts next: the oldest QUEUED one (R147). -/
def nextStart (s : State) : Option Cmd :=
  if mayStart s then s.cmd.queue.find? fun c => decide (c.state = .queued) else none

/-- Start the next command if its kind code satisfies `kind`, taken whole, its completion too (R147); else nothing comes
about (log 4). -/
def startStep (kind : Nat → Bool) (f : Cmd → State → State) (s : State) : Reply :=
  match nextStart s with
  | some c => if kind (kindCode c.bytes) then .next (commit s (completeStarted c (f c s))) else .next s
  | none => .next s

end Sys2Proof.Machine
end

