-- ==== Sys2Proof/Machine/Holds.lean ====
section
/-! DEFINITION. The segment hold unit (chapter 6): the report of a write, entry, swap and loss, pin requests, segment
ranges; and the commands Hold Segment and Release Hold. -/

namespace Sys2Proof.Machine

/-- The segment record Map Lane sets (R115, third column). -/
def SegTable.mapped (logical spares : Nat) : SegTable :=
  { map := List.range logical, free := (List.range spares).map (· + logical), position := none,
    ranges := List.replicate (logical + spares) none }

/-- A number put in its place in an ascending list. -/
def insertAscending (x : Nat) : List Nat → List Nat
  | [] => [x]
  | y :: rest => if x ≤ y then x :: y :: rest else y :: insertAscending x rest

/-- The PENDING hold that waits on logical segment `i` of a lane (R120). -/
def pendingHold (holds : List HoldEntry) (lane : Fin 16) (i : Nat) : Option HoldEntry :=
  holds.find? fun h => decide (h.lane = lane ∧ h.logical = i ∧ h.state = .pending)

/-- The physical address of segment `p` (R126). -/
def segAddress (m : Mapping) (p : Nat) : BitVec 32 := BitVec.ofNat 32 (m.base.toNat + p * m.segSize)

/-- HOLD_TAKEN or HOLD_LOST for physical segment `p` (R126). -/
def holdNotice (s : State) (kind : NoticeKind) (lane : Fin 16) (m : Mapping) (h : HoldEntry) (p : Nat)
    (range : Option (SampleTime × SampleTime)) : Notice :=
  { kind := kind, station := m.station.val, lane := lane.val,
    cell := match h.reason with | .event c => c | .command => 0xFFFF
    cycle := (s.station m.station).cycle, time := (s.lane lane).horizon.getD 0, v1 := segAddress m p,
    v2 := (range.map (·.1)).getD 0, v3 := (range.map (·.2)).getD 0 }

/-- Serve the PENDING hold at an entry into logical segment `i` by the swap of R124 or the loss of R125. -/
def serveHold (s : State) (lane : Fin 16) (m : Mapping) (g : Segs) (t : SegTable) (i : Nat) : State :=
  match pendingHold s.holds lane i with
  | none => s
  | some h =>
    let p := t.map.getD i 0
    let range := t.ranges.getD p none
    match t.free with
    | q :: free =>
      let s1 := s.setSeg lane { g with table := some { t with map := t.map.set i q, free := free }, held := g.held + 1 }
      let s2 := { s1 with holds := s1.holds.map fun x => if x = h then { x with state := .held, range := range } else x }
      handNotice s2 (holdNotice s .holdTaken lane m h p range)
    | [] =>
      let s1 := { s with holds := s.holds.filter fun x => decide (x ≠ h) }
      handNotice s1 (holdNotice s .holdLost lane m h p range)

/-- R118, step 2: the range of m(i), as the map then stands, is restarted; and the write position becomes `i`. -/
def restartRange (t : SegTable) (i : Nat) : SegTable :=
  { t with position := some i, ranges := t.ranges.set (t.map.getD i 0) none }

/-- R117: the report of a lane-master write into logical segment `i`: entry test, service, new write position. -/
def reportWrite (s : State) (lane : Fin 16) (m : Mapping) (i : Nat) : State :=
  match (s.seg lane).table with
  | none => s
  | some t =>
    if t.position = some i then s
    else
      let s1 := serveHold s lane m (s.seg lane) t i
      let g := s1.seg lane
      s1.setSeg lane { g with table := g.table.map fun t1 => restartRange t1 i }

/-- The physical segment m(i) as the map stands (R117, step 3). -/
def mapOf (s : State) (lane : Fin 16) (i : Nat) : Nat := match (s.seg lane).table with
  | some t => t.map.getD i 0
  | none => i

/-- R119: a good block of first sample time `first` extends the range of the physical segment it was written into. -/
def extendRange (s : State) (lane : Fin 16) (p : Nat) (first : SampleTime) : State :=
  let g := s.seg lane
  s.setSeg lane { g with table := g.table.map fun t =>
    let r := match t.ranges.getD p none with
      | none => (first, first + 59)
      | some (a, _) => (a, first + 59)
    { t with ranges := t.ranges.set p (some r) } }

/-- The result of a pin request (R121). -/
inductive PinResult where
  | made | merged (st : HoldState) | full | notFound
  deriving DecidableEq, Repr

/-- R121: decide a pin request for physical segment `p` of a lane. -/
def pinCase (s : State) (lane : Fin 16) (p : Nat) : PinResult :=
  match s.holds.find? (fun h => decide (h.lane = lane ∧ h.segment = p)) with
  | some h => .merged h.state
  | none =>
    match (s.seg lane).table with
    | none => .notFound
    | some t => if t.map.contains p then (if s.holds.length < Config.holdMax then .made else .full) else .notFound

/-- R121: a new PENDING entry joins the tail, with the logical segment that maps `p`. -/
def makePending (s : State) (lane : Fin 16) (p : Nat) (reason : HoldReason) : State :=
  match (s.seg lane).table with
  | none => s
  | some t =>
    { s with holds := s.holds ++ [{ lane := lane, segment := p, logical := t.map.idxOf p, state := .pending,
                                    reason := reason, range := none }] }

/-- R122: an automatic request of the event former; a full list or a free segment drops it and counts it. -/
def eventPin (s : State) (cell : Nat) (lane : Fin 16) (p : Nat) : State :=
  match pinCase s lane p with
  | .made => makePending s lane p (.event cell)
  | .merged _ => s
  | .full => s.setSeg lane { s.seg lane with dropped := sat16 (s.seg lane).dropped 1 }
  | .notFound => s.setSeg lane { s.seg lane with dropped := sat16 (s.seg lane).dropped 1 }

/-- R129: a lane's hold entries are discarded and its segment record replaced. -/
def discardHolds (s : State) (lane : Fin 16) (g : Segs) : State :=
  { s.setSeg lane g with holds := s.holds.filter fun h => decide (h.lane ≠ lane) }

/-! ### Hold Segment (R123) -/

/-- R123: the tests and effect of Hold Segment. -/
def startHoldSegment (c : Cmd) (s : State) : State :=
  let l := c.bytes.toList
  match laneOf (u8 l 4) with
  | none => refuse s c.slot .badParam
  | some lane =>
    match (s.lane lane).mapping with
    | none => refuse s c.slot .notReady
    | some m =>
      let p := u8 l 5
      if m.logical + m.spares ≤ p then refuse s c.slot .badParam
      else match pinCase s lane p with
        | .made => complete (makePending s lane p .command) c.slot 0
        | .merged .pending => complete s c.slot 1
        | .merged .held => complete s c.slot 2
        | .full => decideCmd s c.slot .full 0 []
        | .notFound => decideCmd s c.slot .notFound 0 []

/-- HOLD_SEGMENT: the host asks for a physical segment of a lane to be pinned (R123). -/
def execHoldSegment (s : State) : Reply := startStep (· == 0x0D) startHoldSegment s

/-! ### Release Hold (R127) -/

/-- The entry is named by a Release Hold of the lane: segment code 0xFF is ALL. -/
def releaseNames (lane : Fin 16) (code : Nat) (h : HoldEntry) : Bool :=
  decide (h.lane = lane) && (decide (code = 0xFF) || decide (h.segment = code))

/-- R127, R119: a removed HELD entry's segment joins the free list in its place, with no range, and the held count
falls. -/
def releaseEntry (g : Segs) (h : HoldEntry) : Segs := match h.state with
  | .pending => g
  | .held =>
    { g with
      table := g.table.map fun t =>
        { t with free := insertAscending h.segment t.free, ranges := t.ranges.set h.segment none }
      held := g.held - 1 }

/-- R127: remove every named entry in list order. -/
def releaseAll (s : State) (lane : Fin 16) (code : Nat) : State :=
  let named := s.holds.filter (releaseNames lane code)
  { s.setSeg lane (named.foldl releaseEntry (s.seg lane)) with
    holds := s.holds.filter fun h => !releaseNames lane code h }

/-- R127: the tests and effect of Release Hold. -/
def startReleaseHold (c : Cmd) (s : State) : State :=
  let l := c.bytes.toList
  let code := u8 l 5
  match laneOf (u8 l 4) with
  | none => refuse s c.slot .badParam
  | some lane =>
    if code ≠ 0xFF ∧ 15 < code then refuse s c.slot .badParam
    else match (s.lane lane).mapping with
      | none => refuse s c.slot .notReady
      | some m =>
        if code ≠ 0xFF ∧ m.logical + m.spares ≤ code then refuse s c.slot .badParam
        else
          let n := (s.holds.filter (releaseNames lane code)).length
          if n = 0 then refuse s c.slot .notFound
          else complete (releaseAll s lane code) c.slot n

/-- RELEASE_HOLD: removes a lane's named hold entries and frees HELD segments (R127). -/
def execReleaseHold (s : State) : Reply := startStep (· == 0x0E) startReleaseHold s

end Sys2Proof.Machine
end

