-- ==== Sys2Proof/Machine/CrackMap.lean ====
section
/-! DEFINITION. The crack map (chapter 5): tallies, cycle evaluation, the persistence states, the summary; and the
commands Set Map Criteria, Clear Cells and Copy Map with its snapshot writes. -/

namespace Sys2Proof.Machine

/-! ### Tallies (R93, R94) -/

/-- What the crack map needs of an event (R85). -/
structure EventTally where
  energy   : Nat
  peak     : Nat
  coherent : Bool
  deriving DecidableEq, Repr

/-- R93: an event added to one cell's cycle tally. -/
def Cell.tally (c : Cell) (e : EventTally) : Cell :=
  { c with events := sat16 c.events 1, coherent := sat16 c.coherent e.coherent.toNat,
           energy := sat32 c.energy e.energy, peak := max c.peak e.peak }

/-- R93: an event added to every cell it names and to the station's located or unlocated events. -/
def Station.tally (x : Station) (cells : List Nat) (e : EventTally) : Station :=
  { x with
    cells := x.cells.mapIdx fun i c => if cells.contains i then c.tally e else c
    located := if cells.isEmpty then x.located else sat16 x.located 1
    unlocated := if cells.isEmpty then sat16 x.unlocated 1 else x.unlocated }

/-- A cell with its cycle tally zeroed (R94, R95). -/
def Cell.zeroTally (c : Cell) : Cell := { c with events := 0, coherent := 0, energy := 0, peak := 0 }

/-- R94: every cycle tally of the crack map zeroed. -/
def Station.zeroTallies (x : Station) : Station :=
  { x with cells := x.cells.map Cell.zeroTally, located := 0, unlocated := 0 }

/-- R94, R108: an out-of-cycle report counts toward the summary when the summary counter is running. -/
def Station.reportOutOfCycle (x : Station) : Station :=
  if x.sumCounter = 0 then x
  else { x with totals := { x.totals with outOfCycle := sat16 x.totals.outOfCycle 1 } }

/-! ### Judging a cell (R97 to R106) -/

/-- A cell notice before its station, cell id, cycle and time are known: kind and three values (R106). -/
structure CellNotice where
  kind : NoticeKind
  v1   : Nat
  v2   : Nat
  v3   : Nat
  deriving DecidableEq, Repr

/-- R97: the active test on a cell's cycle tally. -/
def Cell.active (k : Criteria) (c : Cell) : Bool :=
  decide (k.minEvents ≤ c.events) && decide (c.events * k.fraction ≤ c.coherent * 16) && decide (k.minEnergy ≤ c.energy)

/-- A flag appended to a history of at most 16, the oldest removed first when it is full (R98). -/
def pushFlag (h : List Bool) (b : Bool) : List Bool :=
  (if Config.cellHistoryMax ≤ h.length then h.drop 1 else h) ++ [b]

/-- R98: history and totals record the result before the state step. -/
def Cell.record (c : Cell) (active : Bool) : Cell :=
  { c with history := pushFlag c.history active, totalEvents := sat32 c.totalEvents c.events,
           totalActive := sat32 c.totalActive active.toNat }

/-- R105: the reference energy moves an eighth of the way toward the cycle energy, the quotient toward zero. -/
def updateReference (ref energy : Nat) : Nat := (((ref : Int) + ((energy : Int) - ref).tdiv 8)).toNat

/-- R104: the surge test on the reference as it stands. -/
def surges (k : Criteria) (ref energy : Nat) : Bool := decide (0 < ref) && decide (k.surge * ref ≤ energy)

/-- The notice of values 1 to 3 (events, coherent events, energy) of the cycle (R106). -/
def cycleNotice (kind : NoticeKind) (c : Cell) : CellNotice :=
  { kind := kind, v1 := c.events, v2 := c.coherent, v3 := c.energy }

/-- R104, R105: surge test, then reference update, of an active CONFIRMED cell. -/
def Cell.surgeAndUpdate (k : Criteria) (c : Cell) : Cell × List CellNotice :=
  let ref := c.reference.getD 0
  ({ c with reference := some (updateReference ref c.energy) },
   if surges k ref c.energy then [{ kind := .surge, v1 := c.energy, v2 := ref, v3 := k.surge }] else [])

/-- R99, R100: the cell is confirmed with the cycle's energy as its reference. -/
def Cell.confirm (cycle : BitVec 32) (c : Cell) : Cell × List CellNotice :=
  ({ c with state := .confirmed, reference := some c.energy, lastChange := cycle }, [cycleNotice .confirmed c])

/-- R99: the step of a CLEAR cell. -/
def stepClear (k : Criteria) (cycle : BitVec 32) (active : Bool) (c : Cell) : Cell × List CellNotice :=
  if active then
    let c1 := { c with lock := 1, unlock := 0 }
    if k.lock ≤ 1 then c1.confirm cycle
    else ({ c1 with state := .suspect, lastChange := cycle }, [cycleNotice .suspect c1])
  else (c, [])

/-- R100: the step of a SUSPECT cell. -/
def stepSuspect (k : Criteria) (cycle : BitVec 32) (active : Bool) (c : Cell) : Cell × List CellNotice :=
  if active then
    let c1 := { c with lock := min 15 (c.lock + 1), unlock := 0 }
    if k.lock ≤ c1.lock then c1.confirm cycle else (c1, [])
  else
    let c1 := { c with unlock := min 15 (c.unlock + 1) }
    if k.drop ≤ c1.unlock then
      ({ c1 with state := .clear, lock := 0, unlock := 0, lastChange := cycle },
       [{ kind := .dropped, v1 := c1.totalEvents, v2 := c1.totalActive, v3 := c.lock }])
    else (c1, [])

/-- R101: the step of a CONFIRMED cell. -/
def stepConfirmed (k : Criteria) (cycle : BitVec 32) (active : Bool) (c : Cell) : Cell × List CellNotice :=
  if active then ({ c with unlock := 0 } : Cell).surgeAndUpdate k
  else
    let c1 := { c with unlock := min 15 (c.unlock + 1) }
    if k.fade ≤ c1.unlock then
      ({ c1 with state := .fading, lastChange := cycle },
       [{ kind := .fading, v1 := c1.reference.getD 0, v2 := c1.unlock, v3 := c1.totalActive }])
    else (c1, [])

/-- R102: the step of a FADING cell. -/
def stepFading (k : Criteria) (cycle : BitVec 32) (active : Bool) (c : Cell) : Cell × List CellNotice :=
  if active then
    let c1 : Cell := { c with state := .confirmed, unlock := 0, lastChange := cycle }
    let r := c1.surgeAndUpdate k
    (r.1, cycleNotice .reactivated c :: r.2)
  else ({ c with unlock := min 15 (c.unlock + 1) }, [])

/-- R95, step 1, for one cell: active test, history and totals, persistence step with its notices. -/
def Cell.judge (k : Criteria) (cycle : BitVec 32) (c : Cell) : Cell × List CellNotice :=
  let a := c.active k
  let c1 := c.record a
  match c1.state with
  | .clear => stepClear k cycle a c1
  | .suspect => stepSuspect k cycle a c1
  | .confirmed => stepConfirmed k cycle a c1
  | .fading => stepFading k cycle a c1

/-! ### Evaluating a cycle (R95, R96, R107 to R109) -/

/-- R108: the cells judged in the cycle compete for the highest energy in order of cell id; only a strictly greater
energy replaces the one held. -/
def competeEnergy (cells : List Cell) (start : Nat × Option Nat) : Nat × Option Nat :=
  (cells.zipIdx).foldl (fun acc x => if acc.1 < x.1.energy then (x.1.energy, some x.2) else acc) start

/-- R108: the summary totals after one evaluation. -/
def Totals.add (t : Totals) (x : Station) (r : CycleRecord) : Totals :=
  let hi := if r.incomplete then (t.energy, t.cell) else competeEnergy x.cells.toList (t.energy, t.cell)
  { t with located := sat16 t.located x.located, unlocated := sat16 t.unlocated x.unlocated,
           forced := satAdd 255 t.forced r.forced.toNat, incomplete := satAdd 255 t.incomplete r.incomplete.toNat,
           energy := hi.1, cell := hi.2 }

/-- The number of cells in a state. -/
def countCells (cells : List Cell) (st : CellState) : Nat := cells.countP fun c => decide (c.state = st)

/-- A crack-map notice of one evaluation: no lane, the record's cycle number and end (R95, R106). -/
def mapNotice (k : Fin 4) (r : CycleRecord) (kind : NoticeKind) (cell v1 v2 v3 : Nat) : Notice :=
  { kind := kind, station := k.val, lane := 255, cell := cell, cycle := r.number, time := r.finish.getD 0,
    v1 := BitVec.ofNat 32 v1, v2 := BitVec.ofNat 32 v2, v3 := BitVec.ofNat 32 v3 }

/-- The notices of the cells judged, by ascending cell id (R95, R106). -/
def cellNotices (k : Fin 4) (r : CycleRecord) (criteria : Criteria) (cells : Vector Cell 96) : List Notice :=
  cells.toList.zipIdx.flatMap fun x =>
    (x.1.judge criteria r.number).2.map fun n => mapNotice k r n.kind x.2 n.v1 n.v2 n.v3

/-- R107: the unlocated check. -/
def unlocatedNotices (k : Fin 4) (r : CycleRecord) (x : Station) : List Notice :=
  let limit := x.settings.unlocatedLimit
  if !r.incomplete && decide (limit ≠ 0) && decide (limit ≤ x.unlocated) then
    [mapNotice k r .unlocatedActivity 0xFFFF x.unlocated x.located limit]
  else []

/-- R109: the CYCLE_SUMMARY notice, with the cells as they stand after the evaluation. -/
def summaryNotice (k : Fin 4) (r : CycleRecord) (t : Totals) (cells : List Cell) (interval : Nat) : Notice :=
  mapNotice k r .cycleSummary (t.cell.getD 0xFFFF)
    (t.located + 65536 * t.unlocated)
    (t.outOfCycle + 65536 * t.forced + 16777216 * t.incomplete)
    (countCells cells .suspect + 256 * countCells cells .confirmed + 65536 * countCells cells .fading
      + 16777216 * interval)

/-- R108, R109: count the evaluation toward the summary; `x` carries the cycle's tallies, `cells` the cells after their
judgment. -/
def summarize (k : Fin 4) (r : CycleRecord) (x : Station) (cells : Vector Cell 96) : Station × List Notice :=
  let interval := x.settings.summaryInterval
  if interval = 0 then (x, [])
  else
    let t := x.totals.add x r
    let n := x.sumCounter - 1
    if n = 0 then ({ x with totals := .zero, sumCounter := interval }, [summaryNotice k r t cells.toList interval])
    else ({ x with totals := t, sumCounter := n }, [])

/-- R95: the evaluation of a record `r`, taken whole: cells (passed over for INCOMPLETE, R96), station check, summary,
tallies zeroed, head record removed. -/
def evaluateStation (k : Fin 4) (r : CycleRecord) (x : Station) : Station × List Notice :=
  let cells := if r.incomplete then x.cells else x.cells.map fun c => (c.judge x.criteria r.number).1
  let ns := if r.incomplete then [] else cellNotices k r x.criteria x.cells
  let (x1, sum) := summarize k r x cells
  let x2 := ({ x1 with cells := cells } : Station).zeroTallies
  ({ x2 with boundary := x.boundary.drop 1 }, ns ++ unlocatedNotices k r x ++ sum)

/-- Evaluate record `r` at the head of station `k`'s boundary queue and hand its notices on (R95). -/
def evaluate (s : State) (k : Fin 4) (r : CycleRecord) : State :=
  let e := evaluateStation k r (s.station k)
  handNotices (s.setStation k e.1) e.2

/-! ### Set Map Criteria (R92) -/

/-- R92: the tests and effect of Set Map Criteria. The command completes within its start (R147, R150), so that the
criteria act from its completion on. -/
def startSetMapCriteria (c : Cmd) (s : State) : State :=
  let l := c.bytes.toList
  match stationOf (u8 l 4) with
  | none => refuse s c.slot .badParam
  | some k =>
    let cr : Criteria :=
      { minEvents := clampNat 1 255 (u8 l 5), fraction := clampNat 0 16 (u8 l 6), minEnergy := u32 l 12,
        lock := clampNat 1 15 (u8 l 7), drop := clampNat 1 15 (u8 l 8), fade := clampNat 1 15 (u8 l 9),
        surge := clampNat 2 15 (u8 l 10) }
    let n := countClamped (u8 l 5) cr.minEvents + countClamped (u8 l 6) cr.fraction + countClamped (u8 l 7) cr.lock
      + countClamped (u8 l 8) cr.drop + countClamped (u8 l 9) cr.fade + countClamped (u8 l 10) cr.surge
    complete (s.onStation k fun x => { x with criteria := cr }) c.slot n

/-- SET_MAP_CRITERIA: replaces a station's seven crack-map criteria (R92). -/
def execSetMapCriteria (s : State) : Reply := startStep (· == 0x0A) startSetMapCriteria s

/-! ### Clear Cells (R110, R111) -/

/-- The cell id is named by a line code and a cell code, 0xFF being ALL (R111). -/
def clearNames (line cell id : Nat) : Bool :=
  (decide (line = 0xFF) || decide (id / 32 = line)) && (decide (cell = 0xFF) || decide (id % 32 = cell))

/-- R90, R111: the named cells take the values of a cleared cell. -/
def clearCells (cells : Vector Cell 96) (line cell : Nat) : Vector Cell 96 :=
  cells.mapIdx fun i c => if clearNames line cell i then .cleared else c

/-- R111: how many of the named cells were not CLEAR. -/
def countNamed (cells : Vector Cell 96) (line cell : Nat) : Nat :=
  cells.toList.zipIdx.countP fun x => clearNames line cell x.2 && decide (x.1.state ≠ .clear)

/-- R110, R111: the tests and effect of Clear Cells. -/
def startClearCells (c : Cmd) (s : State) : State :=
  let l := c.bytes.toList
  let line := u8 l 5
  let cell := u8 l 6
  match stationOf (u8 l 4) with
  | none => refuse s c.slot .badParam
  | some k =>
    if (line ≠ 0xFF ∧ 2 < line) ∨ (cell ≠ 0xFF ∧ 31 < cell) then refuse s c.slot .badParam
    else complete (s.onStation k fun x => { x with cells := clearCells x.cells line cell }) c.slot
      (countNamed (s.station k).cells line cell)

/-- CLEAR_CELLS: clears the named cells of a station's crack map (R110, R111). -/
def execClearCells (s : State) : Reply := startStep (· == 0x0B) startClearCells s

/-! ### Copy Map (R112 to R114) -/

/-- R112: the tests of Copy Map and its start: the destination enters the window table and the snapshot is taken. -/
def startCopyMap (c : Cmd) (s : State) : State :=
  let l := c.bytes.toList
  let dest := u32 l 8
  match stationOf (u8 l 4) with
  | none => refuse s c.slot .badParam
  | some k =>
    if dest % 4096 ≠ 0 then refuse s c.slot .badParam
    else if windowClash s dest 3072 (fun _ => false) (fun _ => false) then refuse s c.slot .overlap
    else
      let run : CopyRun := { slot := c.slot, dest := BitVec.ofNat 32 dest, snapshot := (s.station k).cells,
                             handed := 0, done := 0, stopped := false }
      let s1 := runCmd s c.slot
      { s1 with cmd := { s1.cmd with copies := s1.cmd.copies ++ [run] } }

/-- COPY_MAP: snapshots a station's 96 cell records, to be written to a destination as 24 own writes (R112). -/
def execCopyMap (s : State) : Reply := startStep (· == 0x0C) startCopyMap s

/-- R113: the 128 bytes of snapshot write `j`: cells 4j to 4j + 3. -/
def snapshotBytes (r : CopyRun) (j : Nat) : List Byte :=
  ((r.snapshot.toList.drop (4 * j)).take 4).flatMap cellBytes

/-- Change the Copy Map of a slot. -/
def onCopy (s : State) (slot : Fin 32) (f : CopyRun → CopyRun) : State :=
  { s with cmd := { s.cmd with copies := s.cmd.copies.map fun r => if r.slot = slot then f r else r } }

/-- SNAPSHOT_WRITE_HAND_ON: the crack map hands the next 128-byte snapshot write of a Copy Map to the own-write queue
when a place is free (R113). -/
def execSnapshotWriteHandOn (slot : Fin 32) (s : State) : Reply :=
  if mayHandOn s (.crackMap slot) then
    match s.cmd.copies.find? (fun r => decide (r.slot = slot)) with
    | some r =>
      let s1 := handOn s (.crackMap slot) (r.dest + BitVec.ofNat 32 (128 * r.handed))
        (beatsOf 16 (snapshotBytes r r.handed))
      .next (commit s (onCopy s1 slot fun r => { r with handed := r.handed + 1 }))
    | none => .next s
  else .next s

end Sys2Proof.Machine
end

