-- ==== Sys2Proof/Machine/Events.lean ====
section
/-! DEFINITION. The event former (chapter 4): hit pool, minimum horizon, forming pass, event formation, location,
cycle assignment, hold requests; phase on request (R64); and the command Set Location Line. -/

namespace Sys2Proof.Machine

/-! ### The hit pool and the horizon (R68, R69) -/

/-- Pool order: by arrival time, equal times by AE role (R68). -/
def poolBefore (a b : Hit) : Bool :=
  orderedBefore a.arrival b.arrival || (decide (a.arrival = b.arrival) && decide (a.role.val < b.role.val))

/-- R68: a hit placed in pool order, before the first hit it precedes (log 36). -/
def poolInsert (h : Hit) : List Hit → List Hit
  | [] => [h]
  | x :: rest => if poolBefore h x then h :: x :: rest else x :: poolInsert h rest

/-- The lane is in its station's horizon set: an AE lane in SETTLING or LIVE (R69). -/
def Lane.inHorizonSet (l : Lane) : Bool := l.isAE && (decide (l.state = .settling) || decide (l.state = .live))

/-- The earlier of two sample times (R69). -/
def earlierOf (a b : SampleTime) : SampleTime := if orderedBefore b a then b else a

/-- The horizons of the station's AE lanes in its horizon set. -/
def horizons (s : State) (k : Fin 4) : List (Option SampleTime) :=
  ((s.lanesOf k).filter fun i => (s.lane i).inHorizonSet).map fun i => (s.lane i).horizon

/-- The minimum of a list of present horizons, absent when one of them is (R69). Where the horizons stand cyclically and
none is the earliest, the result is the model's choice (log 36). -/
def minHorizon : List (Option SampleTime) → Option SampleTime
  | [] => none
  | [h] => h
  | h :: rest => match h, minHorizon rest with
    | some a, some b => some (earlierOf a b)
    | _, _ => none

/-- R69: "H has reached `t`": true with no lane in the set, false while a lane of the set has no horizon. -/
def reached (s : State) (k : Fin 4) (t : SampleTime) : Bool :=
  match horizons s k with
  | [] => true
  | hs => match minHorizon hs with
    | some h => atOrAfter h t
    | none => false

/-! ### Phase (R64) -/

/-- R64, step 1: the newest crossing not later than `t`, else the oldest. -/
def referenceCrossing (history : List SampleTime) (t : SampleTime) : Option SampleTime :=
  match history.reverse.find? (fun c => !later c t) with
  | some c => some c
  | none => history.head?

/-- R64: the phase bin of sample time `t`, 255 while the period is UNKNOWN or the history empty. -/
def phaseBin (x : Station) (t : SampleTime) : Nat :=
  match x.period, referenceCrossing x.history t with
  | some p, some c => (64 * ((signedDiff t c).emod (p : Int)).toNat) / p
  | _, _ => 255

/-! ### Location (R78 to R81) -/

/-- A line's result for an event: a cell, if the line locates it, and whether it clamped. -/
structure Located where
  cell    : Option Nat
  clamped : Bool
  deriving DecidableEq, Repr

/-- R80: the accumulated travel of argument `u` with segments of width `w`. -/
def travel (inc : Vector Nat 8) (w u : Nat) : Nat :=
  let k := min 7 (u / w)
  ((inc.toList.take k).map (· * w)).sum + inc.toList.getD k 0 * (u - k * w)

/-- R79 to R81: from a difference of arrivals to a cell on a line. -/
def locateDiff (l : Line) (dt : Int) : Located :=
  let t : Int := l.tmax
  let used := clampInt (-t) t dt
  let acc := travel l.increments (l.tmax / 4) (t - used).toNat
  let pos := acc / 256
  { cell := some (min 4095 pos / 128), clamped := decide (used ≠ dt) || decide (4095 < pos) }

/-- R78: the line locates the event when it is enabled and both its roles are among the members. -/
def locate (l : Line) (members : List Hit) : Located :=
  match l.form with
  | .disabled => { cell := none, clamped := false }
  | .linear | .table =>
    match members.find? (fun h => decide (h.role.val = l.roleA)), members.find? (fun h => decide (h.role.val = l.roleB)) with
    | some a, some b => locateDiff l (signedDiff b.arrival a.arrival)
    | _, _ => { cell := none, clamped := false }

/-! ### Forming an event (R71 to R75, R83 to R86) -/

/-- R71: the members of the event of `h0`: for every role its earliest pooled hit in the window, h0 for its own, in the
order of the roles. -/
def members (h0 : Hit) (pool : List Hit) (w : Nat) : List Hit :=
  (List.finRange 6).filterMap fun r =>
    if r = h0.role then some h0
    else pool.find? fun h => decide (h.role = r) && inWindow h.arrival h0.arrival w

/-- R83: the event of first arrival `t` is assigned to the head record. -/
def assigned (head : Option CycleRecord) (t : SampleTime) : Bool :=
  match head with
  | none => false
  | some r => orderedFrom t r.start && (match r.finish with | none => true | some e => !orderedBefore e t)

/-- R86: the cell state is covered by the hold policy. -/
def covers (p : HoldPolicy) (st : CellState) : Bool := match p, st with
  | .confirmed, .confirmed => true
  | .confirmed, .fading => true
  | .suspectUp, .suspect => true
  | .suspectUp, .confirmed => true
  | .suspectUp, .fading => true
  | _, _ => false

/-- The cell ids an event credits: line times 32 plus cell, in order of the lines (R85). -/
def cellIds (lines : Vector Line 3) (ms : List Hit) : List Nat :=
  lines.toList.zipIdx.filterMap fun x => (locate x.1 ms).cell.map fun c => x.2 * 32 + c

/-- The state of a cell by its id. -/
def cellState (x : Station) (id : Nat) : CellState := (x.cells.toList.getD id .cleared).state

/-- R85, R86: credit an assigned event and raise its hold requests, in the order of the members' roles. -/
def creditEvent (s : State) (k : Fin 4) (ids : List Nat) (ms : List Hit) (e : EventTally) : State :=
  let x := s.station k
  let s1 := s.setStation k (x.tally ids e)
  match ids.find? (fun id => covers x.settings.policy (cellState x id)) with
  | none => s1
  | some id => ms.foldl (fun s h => eventPin s id h.lane h.segment) s1

/-- R71, R74: form the event of `h0`, remove its members from the pool, locate it, assign it and work it through.
`early` marks a formation by R72. -/
def formEvent (s : State) (k : Fin 4) (h0 : Hit) (early : Bool) : State :=
  let x := s.station k
  let ms := members h0 x.pool x.settings.window
  let bin := phaseBin x h0.arrival
  let e : EventTally :=
    { energy := ms.foldl (fun a h => sat32 a h.energy) 0, peak := ms.foldl (fun a h => max a h.peak) 0,
      coherent := inTension x.settings.ws x.settings.we bin }
  let ids := cellIds x.lines ms
  let clamped := x.lines.toList.any fun l => (locate l ms).clamped
  let x1 := { x with pool := ms.foldl (fun p h => p.erase h) x.pool
                     early := sat16 x.early early.toNat
                     clamped := sat16 x.clamped clamped.toNat }
  if assigned x.boundary.head? h0.arrival then creditEvent (s.setStation k x1) k ids ms e
  else s.setStation k { x1.reportOutOfCycle with outOfCycle := sat32 x1.outOfCycle 1 }

/-! ### The forming pass (R70, R82) -/

/-- R82: the head record is handed for evaluation. -/
def closeCheck (s : State) (k : Fin 4) : Option CycleRecord :=
  let x := s.station k
  match x.boundary with
  | [] => none
  | r :: _ => match r.finish with
    | none => none
    | some e =>
      if reached s k (e + BitVec.ofNat 32 x.settings.window)
          && !x.pool.any (fun h => decide (h.arrival = e) || later e h.arrival) then some r
      else none

/-- R82: the close check, made again on each new head while it holds; `n` bounds the repetitions by the queue's
depth. -/
def closeHeads : Nat → State → Fin 4 → State
  | 0, s, _ => s
  | n + 1, s, k => match closeCheck s k with
    | some r => closeHeads n (evaluate s k r) k
    | none => s

/-- R70: the forming pass of station `k`; `n` bounds the repetitions by the pool's depth. -/
def passLoop : Nat → State → Fin 4 → State
  | 0, s, k => closeHeads (s.station k).boundary.length s k
  | n + 1, s, k =>
    let s1 := closeHeads (s.station k).boundary.length s k
    match (s1.station k).pool with
    | [] => s1
    | h0 :: _ =>
      if reached s1 k (h0.arrival + BitVec.ofNat 32 (s1.station k).settings.window) then
        passLoop n (formEvent s1 k h0 false) k
      else s1

/-- R70: the forming pass, taken whole. -/
def formingPass (s : State) (k : Fin 4) : State := passLoop (s.station k).pool.length s k

/-- R68, R72: a hit handed on enters the pool, an EARLY event being formed first when the pool is full; then the
forming pass runs. -/
def handHit (s : State) (k : Fin 4) (h : Hit) : State :=
  let s1 := match (s.station k).pool with
    | h0 :: _ => if Config.poolMax ≤ (s.station k).pool.length then formEvent s k h0 true else s
    | [] => s
  formingPass (s1.onStation k fun x => { x with pool := poolInsert h x.pool }) k

/-! ### Set Location Line (R77) -/

/-- R77: the increment of a LINEAR line. -/
def linearIncrement (tmax : Nat) : Nat := min 65535 (1048576 / (2 * tmax))

/-- R77: a line set by Set Location Line; for DISABLED the command gives no other field (log 22). -/
def lineFrom (form : LineForm) (old : Line) (l : List Byte) (tmax : Nat) : Line := match form with
  | .disabled => { old with form := .disabled }
  | .linear =>
    { form := .linear, roleA := u8 l 7, roleB := u8 l 8, tmax := tmax,
      increments := Vector.replicate 8 (linearIncrement tmax) }
  | .table =>
    { form := .table, roleA := u8 l 7, roleB := u8 l 8, tmax := tmax,
      increments := Vector.ofFn fun i : Fin 8 => u16 l (12 + 2 * i.val) }

/-- R77: role A and role B are in 0 to 5 and distinct, where the form has roles. -/
def rolesBad (form : LineForm) (l : List Byte) : Bool := match form with
  | .disabled => false
  | .linear | .table => decide (5 < u8 l 7 ∨ 5 < u8 l 8 ∨ u8 l 7 = u8 l 8)

/-- R77: the tests and effect of Set Location Line. -/
def startSetLocationLine (c : Cmd) (s : State) : State :=
  let l := c.bytes.toList
  match stationOf (u8 l 4), lineOf (u8 l 5), formOf (u8 l 6) with
  | some k, some n, some form =>
    if rolesBad form l then refuse s c.slot .badParam
    else if (s.station k).state ≠ .stopped then refuse s c.slot .stationRunning
    else
      let tmax := clampNat 4 4095 (u16 l 10)
      let detail := if form = .disabled then 0 else countClamped (u16 l 10) tmax
      complete (s.onStation k fun x =>
        { x with lines := x.lines.set n (lineFrom form (x.lines.get n) l tmax)
                 cells := clearCells x.cells n.val 0xFF }) c.slot detail
  | _, _, _ => refuse s c.slot .badParam

/-- SET_LOCATION_LINE: sets a location line's form, roles, Tmax and increments, and clears its cells (R77). -/
def execSetLocationLine (s : State) : Reply := startStep (· == 0x09) startSetLocationLine s

end Sys2Proof.Machine
end

