-- ==== Sys2Proof/Machine/Tracker.lean ====
section
/-! DEFINITION. The station tracker (chapter 3): cycles from the vibration blocks, the boundary queue, zero crossings
and the period, BLIND and its end, the quiet time-out. -/

namespace Sys2Proof.Machine

/-! ### Timers and notices (R54, R66) -/

/-- R54: the quiet time-out in seconds; 0 for none. -/
def quietSeconds (code : Nat) : Nat :=
  if code = 0 then 0
  else if code ≤ 100 then code
  else if code ≤ 190 then 100 + (code - 100) * 10
  else 1000 + (code - 190) * 60

/-- A notice of the station tracker (R66). -/
def stationNotice (s : State) (k : Fin 4) (kind : NoticeKind) (time : SampleTime) (v1 v2 v3 : Nat) : Notice :=
  { kind := kind, station := k.val, lane := (match s.vibrationLane k with | some i => i.val | none => 255),
    cell := 0xFFFF, cycle := (s.station k).cycle, time := time, v1 := BitVec.ofNat 32 v1, v2 := BitVec.ofNat 32 v2,
    v3 := BitVec.ofNat 32 v3 }

/-! ### Crossings and the period (R59 to R63) -/

/-- R60: a crossing appended to the history, the oldest removed first when it holds 8. -/
def pushCrossing (h : List SampleTime) (t : SampleTime) : List SampleTime :=
  (if Config.historyMax ≤ h.length then h.drop 1 else h) ++ [t]

/-- R62, R63: a period measurement offered to the period record. -/
def Station.measure (x : Station) (m : Int) : Station :=
  match x.period with
  | none => if 2000 ≤ m ∧ m ≤ 65535 then { x with period := some m.toNat, rejectRun := 0 } else x
  | some p =>
    if 1 ≤ m ∧ m ≤ 65535 ∧ (m - (p : Int)).natAbs * 4 ≤ p then
      { x with period := some ((3 * p + m.toNat) / 4), rejectRun := 0 }
    else if 4 ≤ x.rejectRun + 1 then { x with period := none, rejectRun := 0 }
    else { x with rejectRun := x.rejectRun + 1 }

/-- The station measures the period: COMPACTING or TAILING (R61). -/
def Station.measuring (x : Station) : Bool := decide (x.state = .compacting) || decide (x.state = .tailing)

/-- R59 to R61: a counted crossing at time `t`. -/
def Station.crossing (x : Station) (t : SampleTime) : Station :=
  let x1 := { x with primed := false, history := pushCrossing x.history t }
  if x1.measuring then
    let x2 := match x1.measureRef with | some r => x1.measure (signedDiff t r) | none => x1
    { x2 with measureRef := some t }
  else { x1 with measureRef := none }

/-- R59: one corrected vibration sample at time `t`. -/
def Station.sample (x : Station) (t : SampleTime) (v : Int) : Station :=
  let up := match x.prevSample with | some p => decide (p < 0) && decide (0 ≤ v) | none => false
  let x1 := if up && x.primed then x.crossing t else x
  let x2 := if v < -((x1.settings.stopLevel / 2 : Nat) : Int) then { x1 with primed := true } else x1
  { x2 with prevSample := some v }

/-- R59: the samples of a block scanned in order from time `t` on. -/
def Station.scan (x : Station) (t : SampleTime) : List Int → Station
  | [] => x
  | v :: rest => (x.sample t v).scan (t + 1) rest

/-- R55, R48, R49: the period, crossing and measurement records as the losses and restarts of a watch leave them. -/
def Station.forget (x : Station) : Station :=
  { x with period := none, rejectRun := 0, history := [], measureRef := none, prevSample := none, primed := false }

/-! ### Transitions by the block peak (R51 to R53) -/

/-- R57: the end of the tail record set, and its INCOMPLETE mark. -/
def closeTail (q : List CycleRecord) (e : SampleTime) (incomplete : Bool) : List CycleRecord :=
  match q.reverse with
  | [] => []
  | r :: rest => ({ r with finish := some e, incomplete := incomplete } :: rest).reverse

/-- R53: the end of a cycle at time `e`: the open record takes its end, the station enters WAITING and its quiet timer
starts; the forming pass runs when the record is the head (R70). -/
def endCycle (s : State) (k : Fin 4) (e : SampleTime) : State :=
  let s1 := s.onStation k fun x =>
    { x with boundary := closeTail x.boundary e false, state := .waiting, tail := 0, quietTimer := some 0,
             measureRef := none }
  if (s.station k).boundary.length = 1 then formingPass s1 k else s1

/-- R58: a queue of 4 records has its head evaluated FORCED and removed. -/
def forceHead (s : State) (k : Fin 4) : State := match (s.station k).boundary with
  | r :: _ =>
    if Config.boundaryMax ≤ (s.station k).boundary.length then evaluate s k { r with forced := true } else s
  | [] => s

/-- R51, R57, R58: a cycle starts with a block of trimmed first sample time `t` and peak `peak`. -/
def startCycle (s : State) (k : Fin 4) (t : SampleTime) (peak : Nat) : State :=
  let resumed := decide ((s.station k).state = .pressIdle)
  let s1 := s.onStation k fun x =>
    { x with quietTimer := none, cycle := x.cycle + 1, state := .compacting, tail := 0 }
  let forced := decide (Config.boundaryMax ≤ (s.station k).boundary.length)
  let s3 := (forceHead s1 k).onStation k fun x =>
    { x with boundary := x.boundary ++ [{ number := x.cycle, start := t, finish := none, incomplete := false,
                                          forced := false }] }
  let s4 := if resumed then
      handNotice s3 (stationNotice s3 k .pressResumed t peak ((s3.station k).period.getD 0) 0) else s3
  if forced then formingPass s4 k else s4

/-- R51 to R53: the transition that the block peak calls for. -/
def applyPeak (s : State) (k : Fin 4) (first last : SampleTime) (peak : Nat) : State :=
  let x := s.station k
  match x.state with
  | .waiting | .pressIdle => if x.settings.startLevel ≤ peak then startCycle s k first peak else s
  | .compacting =>
    if peak < x.settings.stopLevel then
      let s1 := s.onStation k fun x => { x with state := .tailing, tail := 1 }
      if x.settings.tailBlocks ≤ 1 then endCycle s1 k last else s1
    else s
  | .tailing =>
    if x.settings.startLevel ≤ peak then s.onStation k fun x => { x with state := .compacting, tail := 0 }
    else
      let s1 := s.onStation k fun x => { x with tail := x.tail + 1 }
      if x.settings.tailBlocks ≤ x.tail + 1 then endCycle s1 k last else s1
  | .stopped | .blind => s

/-- R50: the tracker takes a handed-on vibration block whole: break, crossings, peak. -/
def vibrationBlock (s : State) (k : Fin 4) (samples : List Int) (first : SampleTime) (brk : Bool) : State :=
  let s1 := s.onStation k fun x =>
    (if brk then { x with prevSample := none, measureRef := none } else x).scan first samples
  applyPeak s1 k first (first + 59) (samples.foldl (fun a v => max a (magnitude v)) 0)

/-! ### Loss and recovery of the vibration lane (R55, R56) -/

/-- R55: the end an open record takes when the vibration lane is lost. -/
def lostEnd (horizon : Option SampleTime) (start : SampleTime) : SampleTime := match horizon with
  | none => start
  | some h => if later start h then start else h

/-- R55: the station's vibration lane, of horizon `h` and fault reason `reason`, has entered FAULTED. -/
def goBlind (s : State) (k : Fin 4) (h : Option SampleTime) (reason : FaultReason) : State :=
  let x := s.station k
  match x.state with
  | .stopped | .blind => s
  | .waiting | .compacting | .tailing | .pressIdle =>
    let closing := x.measuring
    let start := match x.boundary.getLast? with | some r => r.start | none => 0
    let x1 : Station := ({ x with
      boundary := if closing then closeTail x.boundary (lostEnd h start) true else x.boundary
      state := .blind, quietTimer := none, tail := 0 } : Station).forget
    let s1 := s.setStation k x1
    let s2 := handNotice s1 (stationNotice s1 k .vibrationLost (h.getD 0) (reasonCode (some reason)) closing.toNat
      (x.period.getD 0))
    if closing && decide (x.boundary.length = 1) then formingPass s2 k else s2

/-- R56: the station's vibration lane has left FAULTED by recovery. -/
def leaveBlind (s : State) (k : Fin 4) : State :=
  if (s.station k).state = .blind then
    s.onStation k fun x => { x with state := .waiting, quietTimer := some 0, measureRef := none }
  else s

/-! ### The quiet time-out (R54) -/

/-- R54: the quiet timer has reached the time-out in WAITING. -/
def quietExpired (x : Station) : Bool :=
  decide (x.state = .waiting) && decide (0 < quietSeconds x.settings.quietCode)
    && (match x.quietTimer with
        | some n => decide (quietSeconds x.settings.quietCode * 1000000 ≤ n) | none => false)

/-- R66: the end of the newest cycle record, or 0 if the queue is empty. -/
def newestEnd (x : Station) : SampleTime := match x.boundary.getLast? with
  | some r => r.finish.getD 0
  | none => 0

/-- QUIET_TIMEOUT: the station enters PRESS_IDLE and hands on a PRESS_IDLE notice (R54). -/
def execQuietTimeout (k : Fin 4) (s : State) : Reply :=
  if !s.path.resetLow && quietExpired (s.station k) then
    let s1 := s.onStation k fun x => { x with state := .pressIdle, quietTimer := none }
    let x := s1.station k
    .next (commit s (handNotice s1
      (stationNotice s1 k .pressIdle (newestEnd x) (quietSeconds x.settings.quietCode) (x.period.getD 0) 0)))
  else .next s

end Sys2Proof.Machine
end

