-- ==== Sys2Proof/Machine/Detector.lean ====
section
/-! DEFINITION. Conditioning and detection on one lane (chapter 2): offset, noise window, threshold, the hit detector;
and the pattern generator of chapter 1. All of it is arithmetic on one lane's record. -/

namespace Sys2Proof.Machine

/-! ### The pattern generator (R21) -/

/-- R21: one step of the 15-bit generator; the new bit, bit 14 xor bit 13, is the step's output. -/
def genStep (r : BitVec 15) : BitVec 15 × Bool :=
  let b := r.getLsbD 14 ^^ r.getLsbD 13
  (r <<< 1 ||| (BitVec.ofBool b).setWidth 15, b)

/-- R21: `n` steps; outputs gathered with the first in the most significant place. -/
def genSteps : Nat → BitVec 15 → Nat → BitVec 15 × Nat
  | 0, r, acc => (r, acc)
  | n + 1, r, acc => let s := genStep r; genSteps n s.1 (2 * acc + s.2.toNat)

/-- R21: the sample predicted from the register. -/
def predicted (r : BitVec 15) : BitVec 16 := BitVec.ofNat 16 (genSteps 16 r 0).2

/-- R21: one received sample: seeding while unseeded, else compared; the register takes the predicted sample's low 15
bits. Answers the register and the errors added. -/
def checkSample (g : Option (BitVec 15)) (x : BitVec 16) : Option (BitVec 15) × Nat :=
  match g with
  | none => if x.setWidth 15 = 0 then (none, 0) else (some (x.setWidth 15), 0)
  | some r => let p := predicted r; (some (p.setWidth 15), if p = x then 0 else 1)

/-- R21: the samples of a flagged block checked in order. -/
def checkSamples : Option (BitVec 15) → List (BitVec 16) → Nat → Option (BitVec 15) × Nat
  | g, [], e => (g, e)
  | g, x :: rest, e => let r := checkSample g x; checkSamples r.1 rest (e + r.2)

/-! ### Offset (R26, R27) -/

/-- R26: the estimate after a block of raw samples under TRACK. -/
def trackOffset (e : Int) (range : Nat) (samples : List (BitVec 16)) : Int :=
  let mean := ((samples.map BitVec.toInt).sum).tdiv 60
  clampInt (-range) range (e + (mean - e).tdiv 16)

/-! ### Threshold (R33) -/

/-- R33: the threshold in use at a block's beginning. -/
def thresholdFor (d : DetectSettings) (noise : Nat) (valid : Bool) : Option Nat := match d.mode with
  | .manual => some (clampNat 16 32767 d.manual)
  | .auto => if valid then some (clampNat 16 32767 (noise * d.gain / 8 + d.thresholdOffset)) else none

/-! ### The hit detector (R36 to R42) -/

/-- What the detector needs of the block under analysis. -/
structure BlockContext where
  lane      : Fin 16
  role      : Fin 6
  threshold : Nat
  deadTime  : Nat
  rearmTime : Nat
  segment   : Nat
  overload  : Bool
  deriving DecidableEq, Repr

/-- The detector as it runs through a block, the hits closed so far and whether the block is hit-free (R30). -/
structure DetectRun where
  state   : DetectorState
  hit     : Option HitInProgress
  rearm   : Nat
  closed  : List Hit
  hitFree : Bool
  deriving DecidableEq, Repr

/-- (magnitude div 16) squared (R36). -/
def energyOf (mag : Nat) : Nat := (mag / 16) * (mag / 16)

/-- R39: the duration of a hit, last time less arrival plus 1. -/
def HitInProgress.duration (h : HitInProgress) : Int := signedDiff h.last h.arrival + 1

/-- R41: the rise of a hit record, peak time less arrival, stopping at 65535; a free value where that is negative
(log 21). -/
def HitInProgress.rise (h : HitInProgress) : Nat :=
  let d := signedDiff h.peakTime h.arrival
  if 0 ≤ d then min 65535 d.toNat else (Config.openSpan h.peakTime h.arrival).toNat

/-- R41: the duration of a hit record that is not LONG, at least 1; a free value where the last time lies before the
arrival (log 21). -/
def HitInProgress.span (h : HitInProgress) : Nat :=
  if 1 ≤ h.duration then h.duration.toNat else max 1 (Config.openSpan h.last h.arrival).toNat

/-- R41, R42: the hit record made from a hit in progress. -/
def HitInProgress.close (h : HitInProgress) (lane : Fin 16) (role : Fin 6) (truncated long : Bool) : Hit :=
  { lane := lane, role := role, arrival := h.arrival, peak := h.peak,
    rise := h.rise, duration := if long then 65535 else h.span,
    crossings := h.crossings, energy := h.energy, segment := h.segment, truncated := truncated, long := long,
    saturated := decide (h.peak = 32767) || h.overloadSeen }

/-- R37: a sample taken into the hit. -/
def HitInProgress.taken (h : HitInProgress) (t : SampleTime) (mag : Nat) : HitInProgress :=
  { h with energy := sat32 h.energy (energyOf mag), last := t,
           peak := max h.peak mag, peakTime := if h.peak < mag then t else h.peakTime }

/-- R38: the detector after a close, REARM or at once ARMED with a rearm time of 0. -/
def DetectRun.rearmed (r : DetectRun) (c : BlockContext) (h : Hit) : DetectRun :=
  { r with state := if c.rearmTime = 0 then .armed else .rearm, rearm := c.rearmTime, hit := none,
           closed := r.closed ++ [h] }

/-- R39: a hit that has taken a sample goes on OPEN, or closes LONG when its duration reaches 65535. -/
def DetectRun.keepOpen (r : DetectRun) (c : BlockContext) (h : HitInProgress) : DetectRun :=
  if 65535 ≤ h.duration then r.rearmed c (h.close c.lane c.role false true)
  else { r with state := .opened, hit := some h }

/-- R36: a hit opens. -/
def openHit (c : BlockContext) (t : SampleTime) (mag : Nat) : HitInProgress :=
  { arrival := t, peak := mag, peakTime := t, last := t, crossings := 1, energy := energyOf mag, pending := 0,
    below := 0, segment := c.segment, overloadSeen := c.overload }

/-- R36 to R39: one corrected magnitude at trimmed time `t`. -/
def detectStep (c : BlockContext) (r : DetectRun) (t : SampleTime) (mag : Nat) : DetectRun :=
  match r.state, r.hit with
  | .armed, _ =>
    if c.threshold ≤ mag then { r with state := .opened, hit := some (openHit c t mag) } else r
  | .opened, some h =>
    if c.threshold ≤ mag then r.keepOpen c (h.taken t mag)
    else { r with state := .trailing, hit := some { h with below := 1, pending := energyOf mag } }
  | .trailing, some h =>
    if c.threshold ≤ mag then
      r.keepOpen c { ({ h with crossings := satAdd 255 h.crossings 1, energy := sat32 h.energy h.pending } : HitInProgress).taken t mag
                     with pending := 0, below := 0 }
    else
      let h1 := { h with below := h.below + 1, pending := sat32 h.pending (energyOf mag) }
      if c.deadTime ≤ h1.below then r.rearmed c (h1.close c.lane c.role false false) else { r with hit := some h1 }
  | .rearm, _ =>
    if r.rearm ≤ 1 then { r with state := .armed, rearm := 0 } else { r with rearm := r.rearm - 1 }
  | .opened, none => r
  | .trailing, none => r

/-- One sample, noting whether the detector was ARMED for it (R30). -/
def detectSample (c : BlockContext) (r : DetectRun) (t : SampleTime) (mag : Nat) : DetectRun :=
  let r1 := detectStep c r t mag
  { r1 with hitFree := r.hitFree && decide (r.state = .armed) && decide (r1.state = .armed) }

/-- The samples of a block through the detector in order, from time `t` on. -/
def detectAll (c : BlockContext) (r : DetectRun) (t : SampleTime) : List Nat → DetectRun
  | [] => r
  | m :: rest => detectAll c (detectSample c r t m) (t + 1) rest

/-! ### The noise window (R30, R31) -/

/-- R30, R31: a block of level `level` added to the window; at W blocks the window ends. -/
def Lane.addToWindow (l : Lane) (quiet : Bool) (level : Nat) : Lane :=
  let blocks := l.winBlocks + 1
  let nq := l.winQuiet + quiet.toNat
  let sum := if quiet then sat32 l.winSum level else l.winSum
  if l.used.detect.windowLength ≤ blocks then
    if l.used.detect.windowLength ≤ 4 * nq then
      { l with winBlocks := 0, winQuiet := 0, winSum := 0, noise := sum / nq, noiseValid := true }
    else { l with winBlocks := 0, winQuiet := 0, winSum := 0 }
  else { l with winBlocks := blocks, winQuiet := nq, winSum := sum }

/-- The block level: the sum of its corrected magnitudes, div 60 (R30). -/
def blockLevel (mags : List Nat) : Nat := mags.sum / 60

/-- R30: a hit-free block is quiet under the source ANY, or when the station is STOPPED, WAITING or PRESS_IDLE. -/
def isQuiet (src : WindowSource) (hitFree : Bool) (st : StationState) : Bool :=
  hitFree && (match src, st with
    | .any, _ => true
    | .quiet, .stopped => true
    | .quiet, .waiting => true
    | .quiet, .pressIdle => true
    | .quiet, _ => false)

/-- R24: the hit detector reset, as Stop Station and the discarding events leave it. -/
def Lane.resetDetector (l : Lane) : Lane := { l with detector := .armed, hit := none, rearmCount := 0 }

/-- R40: the lane's AE role, when it has one. -/
def Lane.aeRole (l : Lane) : Option (Fin 6) := match l.mapping with
  | some m => (match m.role with | .ae r => some r | .vibration => none)
  | none => none

/-- R40: the TRUNCATED record of the hit in progress, if there is one. -/
def Lane.truncatedHit (l : Lane) (i : Fin 16) : Option Hit := match l.hit, l.aeRole with
  | some h, some r => some (h.close i r true false)
  | _, _ => none

end Sys2Proof.Machine
end

