-- ==== Sys2Proof/Machine/Lanes.lean ====
section
/-! DEFINITION. The lane channel (chapter 1 and 2.3): block checks, the analysis queue, the beginning and end of a
block's analysis, faults and recovery, the pattern test; and the events BLOCK_ANALYSIS_END, SILENCE_TIMEOUT and
TEST_TIMEOUT. -/

namespace Sys2Proof.Machine

/-! ### States (R12, R13) -/

/-- R12: the queue emptied; the next block to enter carries the break mark. -/
def Lane.discardQueue (l : Lane) : Lane := { l with queue := [], breakDue := true }

/-- R13: the station state of a lane: what the station calls for. -/
def Lane.stationState (l : Lane) (st : StationState) : LaneState :=
  if st = .stopped then .idle
  else if l.isVibration || decide (l.detect.mode = .manual) || l.noiseValid then .live
  else .settling

/-- R13, R15, R34: the lane enters its station state from outside SETTLING and LIVE. -/
def Lane.enterStationState (l : Lane) (st : StationState) : Lane :=
  let dst := l.stationState st
  { l with state := dst
           silenceTimer := if dst = .idle then none else some 0
           settleCount := if dst = .settling then 0 else l.settleCount
           liveDue := false }

/-- The state of the station the lane serves. -/
def laneStation (s : State) (l : Lane) : StationState := match l.stationOf with
  | some k => (s.station k).state
  | none => .stopped

/-- LANE_FAULT or LANE_RECOVERED (R17). -/
def laneNotice (s : State) (kind : NoticeKind) (i : Fin 16) (k : Fin 4) (reason : Option FaultReason) : Notice :=
  let l := s.lane i
  { kind := kind, station := k.val, lane := i.val, cell := 0xFFFF, cycle := (s.station k).cycle,
    time := l.horizon.getD 0, v1 := BitVec.ofNat 32 (reasonCode reason), v2 := BitVec.ofNat 32 l.badBlocks,
    v3 := BitVec.ofNat 32 l.skipped }

/-- Hand on a hit if there is one. -/
def handHit? (s : State) (k : Fin 4) (h : Option Hit) : State := match h with
  | some h => handHit s k h
  | none => s

/-- R16: the lane record on entering FAULTED. -/
def Lane.faulted (l : Lane) (reason : FaultReason) : Lane :=
  { l.discardQueue.resetDetector with state := .faulted, faultReason := some reason, continuity := none, badRun := 0,
                                      goodRun := 0, silenceTimer := none }

/-- R16, R17, R40, R88: the lane enters FAULTED. A hit in progress closes TRUNCATED and is handed on first; then the lane
leaves the horizon set, its notice is handed on, and its neighbours learn of it. -/
def faultLane (s : State) (i : Fin 16) (reason : FaultReason) : State :=
  let l := s.lane i
  match l.stationOf with
  | none => s
  | some k =>
    let s1 := handHit? (s.setLane i l.resetDetector) k (l.truncatedHit i)
    let s2 := s1.onLane i fun l => l.faulted reason
    let s3 := handNotice s2 (laneNotice s2 .laneFault i k (some reason))
    if l.isVibration then goBlind s3 k (s3.lane i).horizon reason
    else if l.inHorizonSet then formingPass s3 k
    else s3

/-- R16, R17: the good run has reached 16 and the lane leaves FAULTED for its station state. -/
def recoverLane (s : State) (i : Fin 16) : State :=
  let l := s.lane i
  match l.stationOf with
  | none => s
  | some k =>
    let s1 := s.setLane i (({ l with faultReason := none, goodRun := 0 } : Lane).enterStationState (laneStation s l))
    let s2 := handNotice s1 (laneNotice s1 .laneRecovered i k l.faultReason)
    if l.isVibration then leaveBlind s2 k else s2

/-! ### The pattern test (R22, R23) -/

/-- The outcome of a test's result (R23). -/
def TestResult.outcome : TestResult → Result
  | .none => .aborted | .pass => .pass | .fail => .fail | .timeout => .timeout | .aborted => .aborted

/-- R23: the lane record at the end of a test. -/
def Lane.afterTest (l : Lane) (r : TestRun) (result : TestResult) : Lane :=
  { l.discardQueue with lastTest := { result := result, errors := r.errors, counted := r.counted }, badRun := 0,
                        goodRun := 0, state := .idle, test := none }

/-- R23: the test ends with a result, and its command with the outcome; the detail counts the clamped fields for PASS
and FAIL. -/
def endTest (s : State) (i : Fin 16) (result : TestResult) : State :=
  match (s.lane i).test with
  | none => s
  | some r =>
    let detail := match result with
      | .pass | .fail => r.clampedFields
      | .none | .timeout | .aborted => 0
    decideCmd (s.onLane i fun l => l.afterTest r result) r.slot result.outcome (BitVec.ofNat 16 detail) []

/-- R23: the verdict, once N blocks are counted and the queue is analysed. -/
def testVerdict (s : State) (i : Fin 16) : State :=
  match (s.lane i).test with
  | none => s
  | some r =>
    if r.blocks ≤ r.counted ∧ (s.lane i).queue = [] then endTest s i (if r.errors ≤ r.limit then .pass else .fail)
    else s

/-- R22: `n` counted and `e` errors added, the error count stopping at 16,777,215. -/
def TestRun.count (r : TestRun) (n e : Nat) : TestRun :=
  { r with counted := r.counted + n, errors := satAdd Config.maxErrors r.errors e }

/-! ### The beginning of a block's analysis (R27, R29, R33 to R35, R40, R45) -/

/-- R45, R32: the window restarts when its length or source differs from the one the block before used. -/
def Lane.restartWindow (l : Lane) : Lane :=
  if l.detect.windowLength = l.used.detect.windowLength ∧ l.detect.source = l.used.detect.source then l
  else { l with winBlocks := 0, winQuiet := 0, winSum := 0 }

/-- R34, R35: the lane state at the beginning of a block. -/
def Lane.settleState (l : Lane) : LaneState :=
  let st := if l.state = .settling ∧ l.liveDue then .live else l.state
  if st = .live ∧ l.detect.mode = .auto ∧ l.noiseValid = false then .settling else st

/-- R27: the offset estimate at the beginning of a block. -/
def Lane.beginOffset (l : Lane) : Int := match l.offsetMode with
  | .fixed => l.fixedOffset
  | .track => clampInt (-l.offsetRange) l.offsetRange l.offset

/-- The settings and state a block begins with (R5, R29, R45). -/
def Lane.inForce (l : Lane) : InForce :=
  { state := l.state, trim := l.trim, offsetMode := l.offsetMode, offsetRange := l.offsetRange,
    fixedOffset := l.fixedOffset, detect := l.detect }

/-- R34, R35, R45: what an AE lane does at a block's beginning before its threshold is set. -/
def Lane.beginAE (l : Lane) : Lane :=
  let st := l.settleState
  let l1 := l.restartWindow
  { l1 with state := st
            settleCount := if l.detect.mode = .auto ∨ (st = .settling ∧ l.state = .live) then 0 else l.settleCount
            liveDue := false
            threshold := thresholdFor l.detect l.noise l.noiseValid }

/-- R37: a block with the overload flag begins while a hit is in progress. -/
def Lane.markOverload (l : Lane) (b : QueuedBlock) : Lane :=
  { l with hit := l.hit.map fun h => { h with overloadSeen := h.overloadSeen || b.overload } }

/-- The block's beginning resets the detector, closing a hit in progress TRUNCATED: by the break mark, or by a return to
SETTLING (R40). R40 does not name the return among the events that cancel a rearm; cancelling it there too is the model's
choice (log 37). -/
def Lane.beginTruncates (l : Lane) (b : QueuedBlock) : Bool :=
  b.breakMark || (l.isAE && decide (l.state = .live) && decide (l.settleState = .settling))

/-- The lane record as the block's analysis begins. A hit that the beginning closes TRUNCATED is closed first, so that
the block's own overload flag does not mark it (log 34). A rearm in progress is cancelled by the break mark (R40) and, by
the model's choice, by a return from LIVE to SETTLING, so that the lane is ARMED when it is LIVE again (log 37). -/
def Lane.beginBlock (l : Lane) (b : QueuedBlock) : Lane :=
  let l1 := if l.beginTruncates b then l.resetDetector else l
  let l2 := if l1.isAE then l1.beginAE else l1
  let l3 := { l2 with offset := l2.beginOffset }
  ({ l3 with used := l3.inForce } : Lane).markOverload b

/-- The analysis of the block at the head of lane `i`'s queue begins. A hit that this closes TRUNCATED is made before the
block's overload flag is looked at, so the flag does not make it SATURATED: the model's choice (log 34). So is the end of
a rearm at a return to SETTLING (log 37). -/
def beginBlock (s : State) (i : Fin 16) : State :=
  let l := s.lane i
  match l.queue, l.stationOf with
  | b :: _, some k => match l.state with
    | .test => s.setLane i { l with used := { l.used with state := .test } }
    | .idle | .settling | .live =>
      let h := if l.beginTruncates b then l.truncatedHit i else none
      handHit? (s.setLane i (l.beginBlock b)) k h
    | .unmapped | .faulted => s
  | _, _ => s

/-! ### The end of a block's analysis (R12, R19, R25 to R31, R34, R43) -/

/-- The detector run over the magnitudes of an AE lane's block; held ARMED unless the block began in LIVE (R29). -/
def Lane.detect? (l : Lane) (i : Fin 16) (role : Fin 6) (b : QueuedBlock) (mags : List Nat) : DetectRun :=
  let held : DetectRun := { state := l.detector, hit := l.hit, rearm := l.rearmCount, closed := [], hitFree := true }
  match l.used.state, l.threshold with
  | .live, some t =>
    detectAll { lane := i, role := role, threshold := t, deadTime := l.used.detect.deadTime,
                rearmTime := l.used.detect.rearmTime, segment := b.segment, overload := b.overload }
      held (shiftTime b.first l.used.trim) mags
  | _, _ => held

/-- R26: the offset estimate after the block. -/
def Lane.endOffset (l : Lane) (b : QueuedBlock) : Int := match l.used.offsetMode with
  | .track => trackOffset l.offset l.used.offsetRange b.samples
  | .fixed => l.offset

/-- R34: the settle count after the block. -/
def Lane.endSettleCount (l : Lane) : Nat :=
  if l.used.state = .settling ∧ l.used.detect.mode = .manual then min 16 (l.settleCount + 1) else l.settleCount

/-- R34: the condition for becoming LIVE at the next block, as it stands at a block's end (log 14). -/
def Lane.endLiveDue (l : Lane) : Bool :=
  decide (l.state = .settling) && (match l.used.detect.mode with
    | .auto => l.noiseValid
    | .manual => decide (l.settleCount = 16))

/-- The AE lane's record after a block: detector, offset, window, settling (R26, R30, R31, R34). -/
def Lane.endAE (l : Lane) (b : QueuedBlock) (run : DetectRun) (quiet : Bool) (level : Nat) : Lane :=
  let l1 := ({ l with detector := run.state, hit := run.hit, rearmCount := run.rearm
                      offset := l.endOffset b, settleCount := l.endSettleCount } : Lane).addToWindow quiet level
  { l1 with liveDue := l1.endLiveDue }

/-- R19: the horizon after a block of first sample time `first` under trim `trim`. -/
def newHorizon (old : Option SampleTime) (first : SampleTime) (trim : Int) : Option SampleTime :=
  let h := shiftTime (first + 59) trim
  match old with
  | none => some h
  | some o => if later h o then some h else some o

/-- R19, R70: the lane advances its horizon; the pass runs when the lane is in the horizon set and its horizon moved. -/
def advanceHorizon (s : State) (i : Fin 16) (k : Fin 4) (first : SampleTime) (trim : Int) : State :=
  let l := s.lane i
  let h := newHorizon l.horizon first trim
  let s1 := s.setLane i { l with horizon := h }
  if l.inHorizonSet ∧ h ≠ l.horizon then formingPass s1 k else s1

/-- R30 to R43: the analysis of an AE lane's block ends. -/
def endAE (s : State) (i : Fin 16) (k : Fin 4) (role : Fin 6) (b : QueuedBlock) (rest : List QueuedBlock) : State :=
  let l := s.lane i
  let mags := b.samples.map fun x => magnitude (corrected l.offset x)
  let run := l.detect? i role b mags
  let quiet := isQuiet l.used.detect.source run.hitFree (s.station k).state
  let s1 := s.setLane i { l.endAE b run quiet (blockLevel mags) with queue := rest }
  let s2 := run.closed.foldl (fun s h => handHit s k h) s1
  advanceHorizon s2 i k b.first l.used.trim

/-- R28, R50: the analysis of a vibration lane's block ends; in LIVE the tracker takes it. -/
def endVibration (s : State) (i : Fin 16) (k : Fin 4) (b : QueuedBlock) (rest : List QueuedBlock) : State :=
  let l := s.lane i
  let s1 := s.setLane i { l with offset := l.endOffset b, queue := rest }
  let s2 := if l.used.state = .live then
      vibrationBlock s1 k (b.samples.map (corrected l.offset)) (shiftTime b.first l.used.trim) b.breakMark else s1
  advanceHorizon s2 i k b.first l.used.trim

/-- R21, R22: the analysis of a flagged test block ends: its samples are checked. -/
def endTestBlock (s : State) (i : Fin 16) (r : TestRun) (b : QueuedBlock) (rest : List QueuedBlock) : State :=
  let g := if b.breakMark || b.unseed then none else r.generator
  let checked := checkSamples g b.samples 0
  let r1 := ({ r with generator := checked.1 } : TestRun).count 0 checked.2
  testVerdict (s.onLane i fun l => { l with queue := rest, test := some r1 }) i

/-- R12: the analysis of the block at the head of lane `i`'s queue ends, and the next one begins. -/
def endBlock (s : State) (i : Fin 16) : State :=
  let l := s.lane i
  match l.queue, l.mapping with
  | b :: rest, some m =>
    let s1 := match l.used.state, l.test with
      | .test, some r => endTestBlock s i r b rest
      | _, _ => match m.role with
        | .ae role => endAE s i m.station role b rest
        | .vibration => endVibration s i m.station b rest
    beginBlock s1 i
  | _, _ => s

/-- BLOCK_ANALYSIS_END: a lane finishes analysing the head block of its queue, hands on its results, advances its
horizon and removes the block; the next block's analysis begins (R12). -/
def execBlockAnalysisEnd (i : Fin 16) (s : State) : Reply :=
  if !s.path.resetLow && !(s.lane i).queue.isEmpty then .next (commit s (endBlock s i)) else .next s

/-! ### A write the lane sees (R7 to R11, R14, R16, R22) -/

/-- How a write's check ends (R7 to R9): `missing` blocks lie before a GAP block. -/
inductive Check where
  | good (d : BlockData) (missing : Nat)
  | bad (r : FaultReason)
  deriving DecidableEq, Repr

/-- R9: the sequence and time test. -/
def sequenceCheck (prev : Option (BitVec 16 × SampleTime)) (d : BlockData) : Check :=
  match prev with
  | none => .good d 0
  | some (sq, t) =>
    let n := (d.sequence - sq).toNat
    if n = 0 then .bad .slip
    else if d.first = t + BitVec.ofNat 32 (60 * n) then .good d (n - 1)
    else .bad .slip

/-- R7 to R9: the check of a lane-master write. -/
def checkWrite (i : Fin 16) (prev : Option (BitVec 16 × SampleTime)) (t : Transfer) : Check :=
  if !isBlock t then .bad .torn
  else
    let d := blockData (bytesOf (writeBeats t))
    if d.sync ≠ 0xA7 then .bad .sync
    else if d.laneId ≠ i.val then .bad .laneId
    else sequenceCheck prev d

/-- The queue entry a good block makes (R11). -/
def queueEntry (d : BlockData) (p : Nat) (breakMark unseed : Bool) : QueuedBlock :=
  { samples := d.samples, first := d.first, sequence := d.sequence, overload := d.overload, testFlag := d.testFlag,
    segment := p, breakMark := breakMark, unseed := unseed }

/-- R11: the queue has room for a block. -/
def Lane.hasRoom (l : Lane) : Bool := decide (l.queue.length < Config.analysisQueueMax)

/-- R11: a block enters the tail of the queue; its analysis begins when it is the head. -/
def enterQueue (s : State) (i : Fin 16) (d : BlockData) (gap : Bool) (p : Nat) (unseed : Bool) : State :=
  let l := s.lane i
  let s1 := s.setLane i { l with queue := l.queue ++ [queueEntry d p (gap || l.breakDue) unseed], breakDue := false }
  if l.queue.isEmpty then beginBlock s1 i else s1

/-- R11: a block is SKIPPED. -/
def Lane.skip (l : Lane) : Lane := { l with skipped := sat16 l.skipped 1, breakDue := true }

/-- R11: a good block offered to the analysis queue. -/
def offerBlock (s : State) (i : Fin 16) (d : BlockData) (gap : Bool) (p : Nat) : State :=
  if (s.lane i).hasRoom then enterQueue s i d gap p false else s.onLane i Lane.skip

/-- R22: a good block of a lane in TEST. -/
def testGood (s : State) (i : Fin 16) (r : TestRun) (d : BlockData) (missing : Nat) (p : Nat) : State :=
  let m := min missing (r.blocks - r.counted)
  let r1 := r.count m (60 * m)
  let put (r : TestRun) (s : State) : State := s.onLane i fun l => { l with test := some r }
  if r1.counted < r1.blocks then
    if d.testFlag then
      if (s.lane i).hasRoom then
        enterQueue (put { r1.count 1 0 with unseedDue := false } s) i d (decide (0 < missing)) p r1.unseedDue
      else (put (r1.count 1 60) s).onLane i Lane.skip
    else put { r1.count 1 60 with unseedDue := true } s
  else put r1 s

/-- R22: a bad block or torn write of a lane in TEST. -/
def testBad (s : State) (i : Fin 16) (r : TestRun) : State :=
  if r.counted < r.blocks then
    s.onLane i fun l => { l with test := some { r.count 1 60 with unseedDue := true } }
  else s

/-- R11, R22: a good block with `missing` blocks before it is offered to a full queue, and so SKIPPED. -/
def Lane.skips (l : Lane) (d : BlockData) (missing : Nat) : Bool :=
  !l.hasRoom && (match l.state, l.test with
    | .idle, _ | .settling, _ | .live, _ => true
    | .test, some r => d.testFlag && decide (r.counted + min missing (r.blocks - r.counted) < r.blocks)
    | _, _ => false)

/-- R10: the lane record once a good block has been checked: continuity record and bad run; a block that is SKIPPED does
not end the bad run (R11, R14; log 32). -/
def Lane.checkedGood (l : Lane) (d : BlockData) (missing : Nat) : Lane :=
  { l with continuity := some (d.sequence, d.first), badRun := if l.skips d missing then l.badRun else 0 }

/-- R10: a good block with `missing` blocks before it, forwarded into physical segment `p`. -/
def goodBlock (s : State) (i : Fin 16) (d : BlockData) (missing p : Nat) : State :=
  let s1 := s.onLane i fun l => l.checkedGood d missing
  let s2 := extendRange s1 i p d.first
  match (s2.lane i).state, (s2.lane i).test with
  | .faulted, _ =>
    let s3 := s2.onLane i fun l => { l with goodRun := l.goodRun + 1 }
    if Config.recoverAfter ≤ (s3.lane i).goodRun then recoverLane s3 i else s3
  | .test, some r => testVerdict (testGood s2 i r d missing p) i
  | .test, none => s2
  | .unmapped, _ => s2
  | _, _ => offerBlock s2 i d (decide (0 < missing)) p

/-- R10, R14: a bad block. -/
def badBlock (s : State) (i : Fin 16) (reason : FaultReason) : State :=
  let s1 := s.onLane i fun l => { l with badBlocks := sat16 l.badBlocks 1 }
  match (s1.lane i).state, (s1.lane i).test with
  | .faulted, _ => s1.onLane i fun l => { l with goodRun := 0 }
  | .test, some r => testVerdict (testBad s1 i r) i
  | .test, none => s1
  | .unmapped, _ => s1
  | _, _ =>
    let s2 := s1.onLane i fun l => { l with badRun := l.badRun + 1 }
    if Config.faultAfter ≤ (s2.lane i).badRun then faultLane s2 i reason else s2

/-- R6 to R10, R15: a write the lane sees, forwarded into physical segment `p`; it restarts the silence timer. -/
def laneSeesWrite (s : State) (i : Fin 16) (t : Transfer) (p : Nat) : State :=
  let s1 := s.onLane i fun l => { l with silenceTimer := l.silenceTimer.map fun _ => 0 }
  match checkWrite i (s1.lane i).continuity t with
  | .good d missing => goodBlock s1 i d missing p
  | .bad reason => badBlock s1 i reason

/-! ### Silence and test time-outs (R15, R23) -/

/-- R15: the silence timer of a SETTLING or LIVE lane has reached its nonzero limit. -/
def Lane.silent (l : Lane) : Bool :=
  (decide (l.state = .settling) || decide (l.state = .live)) && decide (0 < l.silenceLimit)
    && (match l.silenceTimer with | some n => decide (l.silenceLimit * 1000 ≤ n) | none => false)

/-- SILENCE_TIMEOUT: the lane enters FAULTED with reason SILENT (R15). -/
def execSilenceTimeout (i : Fin 16) (s : State) : Reply :=
  if !s.path.resetLow && (s.lane i).silent then .next (commit s (faultLane s i .silent)) else .next s

/-- R23: the test time-out has expired below N blocks. -/
def testExpired (l : Lane) : Bool := match l.state, l.test with
  | .test, some r => decide (r.counted < r.blocks) && decide (r.timeoutUs ≤ r.elapsed)
  | _, _ => false

/-- TEST_TIMEOUT: the pattern test ends TIMEOUT (R23). -/
def execTestTimeout (i : Fin 16) (s : State) : Reply :=
  if !s.path.resetLow && testExpired (s.lane i) then .next (commit s (endTest s i .timeout)) else .next s

end Sys2Proof.Machine
end

