-- ==== Sys2Proof/Machine/LaneCommands.lean ====
section
/-! DEFINITION. The lane commands: Map Lane, Unmap Lane, Set Lane Conditioning, Test Lane (chapter 1) and Set Detection
(chapter 2). -/

namespace Sys2Proof.Machine

/-! ### Map Lane (R2, R3) -/

/-- R2: blocks per segment. -/
def blocksOk (b : Nat) : Bool := [32, 64, 128, 256, 512, 1024].contains b

/-- R2, step 1: the parameters of Map Lane, absent when a structural field is out of range. -/
def mapParams (l : List Byte) : Option (Fin 16 × Mapping) :=
  match laneOf (u8 l 4), stationOf (u8 l 5), roleOf (u8 l 6), laneOf (u8 l 7) with
  | some lane, some station, some role, some master =>
    let m : Mapping := { station := station, role := role, master := master, base := BitVec.ofNat 32 (u32 l 8),
                         blocks := u16 l 12, logical := u8 l 14, spares := u8 l 15 }
    if master.val ≤ 14 ∧ u32 l 8 % 4096 = 0 ∧ blocksOk m.blocks ∧ 2 ≤ m.logical ∧ m.logical ≤ 12 ∧ m.spares ≤ 4
        ∧ m.logical + m.spares ≤ 16 ∧ u32 l 8 + m.windowSize ≤ 4294967296 then some (lane, m)
    else none
  | _, _, _, _ => none

/-- R2, step 4: another lane is mapped to the same station and role. -/
def roleTaken (s : State) (lane : Fin 16) (m : Mapping) : Bool :=
  (List.finRange 16).any fun i => decide (i ≠ lane) && (match (s.lane i).mapping with
    | some x => decide (x.station = m.station ∧ x.role = m.role)
    | none => false)

/-- R2, steps 2 to 5: the first test that fails. -/
def mapLaneTests (s : State) (lane : Fin 16) (m : Mapping) : Option Result :=
  if (s.lane lane).state = .test then some .laneBusy
  else if (s.station m.station).state ≠ .stopped ∨ laneStation s (s.lane lane) ≠ .stopped then some .stationRunning
  else if roleTaken s lane m then some .roleTaken
  else if windowClash s m.base.toNat m.windowSize (fun k => decide (k = .lane lane)) (fun _ => false) then some .overlap
  else none

/-- R1, third column: a lane as Map Lane sets it. -/
def Lane.mappedTo (m : Mapping) : Lane := { Lane.reset with state := .idle, mapping := some m }

/-- R3, R115, R129: Map Lane replaces anything the lane held. -/
def mapLaneEffect (s : State) (lane : Fin 16) (m : Mapping) : State :=
  discardHolds (s.setLane lane (Lane.mappedTo m)) lane
    { table := some (SegTable.mapped m.logical m.spares), held := 0, dropped := 0 }

/-- R2, R3: the tests and effect of Map Lane. -/
def startMapLane (c : Cmd) (s : State) : State :=
  match mapParams c.bytes.toList with
  | none => refuse s c.slot .badParam
  | some (lane, m) => match mapLaneTests s lane m with
    | some r => refuse s c.slot r
    | none => complete (mapLaneEffect s lane m) c.slot 0

/-- MAP_LANE: maps a physical lane to a station, role, master and ring geometry (R2, R3). -/
def execMapLane (s : State) : Reply := startStep (· == 0x01) startMapLane s

/-! ### Unmap Lane (R4) -/

/-- R4: the lane record after Unmap Lane: reset but for the three counters and the last-test record. -/
def Lane.unmapped (l : Lane) : Lane :=
  { Lane.reset with badBlocks := l.badBlocks, skipped := l.skipped, foreign := l.foreign, lastTest := l.lastTest }

/-- R4: the tests and effect of Unmap Lane. -/
def startUnmapLane (c : Cmd) (s : State) : State :=
  match laneOf (u8 c.bytes.toList 4) with
  | none => refuse s c.slot .badParam
  | some lane =>
    let l := s.lane lane
    if l.state = .test then refuse s c.slot .laneBusy
    else if laneStation s l ≠ .stopped then refuse s c.slot .stationRunning
    else if l.state = .unmapped then complete s c.slot 0
    else complete (discardHolds (s.setLane lane l.unmapped) lane .reset) c.slot 0

/-- UNMAP_LANE: returns a lane to UNMAPPED, removing its window, queue and holds (R4). -/
def execUnmapLane (s : State) : Reply := startStep (· == 0x02) startUnmapLane s

/-! ### Set Lane Conditioning (R5, R15, R168) -/

/-- The conditioning settings of R5. -/
structure Conditioning where
  mode    : OffsetMode
  range   : Nat
  fixed   : Int
  trim    : Int
  silence : Nat
  deriving DecidableEq, Repr

/-- R5, R168: the settings a record gives, clamped. -/
def conditioningOf (mode : OffsetMode) (l : List Byte) : Conditioning :=
  { mode := mode, range := clampNat 0 4095 (u16 l 6), fixed := clampInt (-4095) 4095 (s16 l 8),
    trim := clampInt (-31) 31 (trimGiven (u8 l 10)), silence := u8 l 11 }

/-- R5: how many of the fields were clamped. -/
def conditioningClamped (k : Conditioning) (l : List Byte) : Nat :=
  countClamped (u16 l 6) k.range + countClampedInt (s16 l 8) k.fixed + countClampedInt (trimGiven (u8 l 10)) k.trim

/-- R5: the settings stored in the lane record. -/
def Lane.condition (l : Lane) (k : Conditioning) : Lane :=
  { l with offsetMode := k.mode, offsetRange := k.range, fixedOffset := k.fixed, trim := k.trim,
           silenceLimit := k.silence }

/-- R15: a new limit already reached faults the lane at the command's completion. -/
def silenceCheck (s : State) (i : Fin 16) : State := if (s.lane i).silent then faultLane s i .silent else s

/-- R5, R15: the tests and effect of Set Lane Conditioning. The command completes within its start (R147, R150), so that
the settings and the silence limit act from its completion on. -/
def startSetLaneConditioning (c : Cmd) (s : State) : State :=
  let l := c.bytes.toList
  match laneOf (u8 l 4), offsetModeOf (u8 l 5) with
  | some lane, some mode =>
    if (s.lane lane).state = .unmapped then refuse s c.slot .notReady
    else
      let k := conditioningOf mode l
      silenceCheck (complete (s.onLane lane fun x => x.condition k) c.slot (conditioningClamped k l)) lane
  | _, _ => refuse s c.slot .badParam

/-- SET_LANE_CONDITIONING: replaces a lane's offset mode, range, fixed offset, trim and silence limit (R5). -/
def execSetLaneConditioning (s : State) : Reply := startStep (· == 0x03) startSetLaneConditioning s

/-! ### Test Lane (R20) -/

/-- R20: the test a record asks for, its values clamped. -/
def testRunOf (slot : Fin 32) (l : List Byte) : TestRun :=
  let n := clampNat 1 65535 (u16 l 6)
  let e := clampNat 0 16777215 (u32 l 8)
  let t := clampNat 1 60 (u8 l 12)
  { slot := slot, blocks := n, limit := e, timeoutUs := t * 1000000, elapsed := 0, errors := 0, counted := 0,
    generator := none, unseedDue := false,
    clampedFields := countClamped (u16 l 6) n + countClamped (u32 l 8) e + countClamped (u8 l 12) t }

/-- R20: the lane enters TEST. -/
def Lane.enterTest (l : Lane) (r : TestRun) : Lane :=
  { l.discardQueue with state := .test, badRun := 0, goodRun := 0, faultReason := none, silenceTimer := none,
                        test := some r }

/-- R20: the tests and effect of Test Lane; the command stays RUNNING. -/
def startTestLane (c : Cmd) (s : State) : State :=
  let l := c.bytes.toList
  match laneOf (u8 l 4) with
  | none => refuse s c.slot .badParam
  | some lane =>
    let x := s.lane lane
    if x.state = .unmapped ∨ laneStation s x ≠ .stopped then refuse s c.slot .notReady
    else if x.state = .test then refuse s c.slot .laneBusy
    else (runCmd s c.slot).onLane lane fun x => x.enterTest (testRunOf c.slot l)

/-- TEST_LANE: puts a lane into TEST and starts a pattern test (R20). -/
def execTestLane (s : State) : Reply := startStep (· == 0x04) startTestLane s

/-! ### Set Detection (R44) -/

/-- R44: the settings a record gives, the tuning fields clamped. -/
def detectionOf (mode : ThresholdMode) (src : WindowSource) (l : List Byte) : DetectSettings :=
  { mode := mode, gain := clampNat 8 255 (u8 l 7), thresholdOffset := clampNat 0 4095 (u16 l 12),
    manual := clampNat 16 32767 (u16 l 10), deadTime := clampNat 8 4095 (u16 l 14),
    rearmTime := clampNat 0 4095 (u16 l 16), windowLength := u16 l 8, source := src }

/-- R44: how many of the five tuning fields were clamped. -/
def detectionClamped (d : DetectSettings) (l : List Byte) : Nat :=
  countClamped (u8 l 7) d.gain + countClamped (u16 l 12) d.thresholdOffset + countClamped (u16 l 10) d.manual
    + countClamped (u16 l 14) d.deadTime + countClamped (u16 l 16) d.rearmTime

/-- R44: the window lengths there are. -/
def windowLengthOk (w : Nat) : Bool := [128, 256, 512, 1024].contains w

/-- R44: the tests and effect of Set Detection. The command completes within its start (R147, R150), so that the settings
act from its completion on (R45). -/
def startSetDetection (c : Cmd) (s : State) : State :=
  let l := c.bytes.toList
  match laneOf (u8 l 4), thresholdModeOf (u8 l 5), sourceOf (u8 l 6) with
  | some lane, some mode, some src =>
    if !windowLengthOk (u16 l 8) then refuse s c.slot .badParam
    else if (s.lane lane).state = .unmapped then refuse s c.slot .notReady
    else
      let d := detectionOf mode src l
      complete (s.onLane lane fun x => { x with detect := d }) c.slot (detectionClamped d l)
  | _, _, _ => refuse s c.slot .badParam

/-- SET_DETECTION: replaces a lane's eight detection settings (R44). -/
def execSetDetection (s : State) : Reply := startStep (· == 0x05) startSetDetection s

end Sys2Proof.Machine
end

