-- ==== Sys2Proof/Machine/StationCommands.lean ====
section
/-! DEFINITION. The station commands of chapter 3: Set Station, Start Station, Stop Station. -/

namespace Sys2Proof.Machine

/-! ### Set Station (R47) -/

/-- R47, step 3: the settings a record gives, clamped. -/
def settingsOf (policy : HoldPolicy) (l : List Byte) : StationSettings :=
  { startLevel := clampNat 1 32767 (u16 l 8), stopLevel := clampNat 1 32767 (u16 l 10),
    tailBlocks := clampNat 1 4095 (u16 l 12), quietCode := u8 l 6, window := clampNat 1 8191 (u16 l 14),
    ws := clampNat 0 63 (u8 l 16), we := clampNat 0 63 (u8 l 17), unlocatedLimit := u16 l 18,
    summaryInterval := u8 l 7, policy := policy }

/-- R47: how many fields were clamped. -/
def settingsClamped (x : StationSettings) (l : List Byte) : Nat :=
  countClamped (u16 l 8) x.startLevel + countClamped (u16 l 10) x.stopLevel + countClamped (u16 l 12) x.tailBlocks
    + countClamped (u16 l 14) x.window + countClamped (u8 l 16) x.ws + countClamped (u8 l 17) x.we

/-- R47: the tests and effect of Set Station. -/
def startSetStation (c : Cmd) (s : State) : State :=
  let l := c.bytes.toList
  match stationOf (u8 l 4), policyOf (u8 l 5) with
  | some k, some policy =>
    if (s.station k).state ≠ .stopped then refuse s c.slot .stationRunning
    else
      let x := settingsOf policy l
      if x.startLevel ≤ x.stopLevel then refuse s c.slot .badParam
      else complete (s.onStation k fun y => { y with settings := x }) c.slot (settingsClamped x l)
  | _, _ => refuse s c.slot .badParam

/-- SET_STATION: replaces the ten settings of a STOPPED station (R47). -/
def execSetStation (s : State) : Reply := startStep (· == 0x06) startSetStation s

/-! ### Start Station (R48) -/

/-- R48, step 3: the lanes allow a start: a vibration lane, at least two AE lanes, none in TEST. -/
def lanesReady (s : State) (k : Fin 4) : Bool :=
  (s.vibrationLane k).isSome && decide (2 ≤ ((s.lanesOf k).filter fun i => (s.lane i).isAE).length)
    && (s.lanesOf k).all fun i => decide ((s.lane i).state ≠ .test)

/-- R13: at Start Station an IDLE lane of the station moves to its station state. -/
def Lane.atStart (l : Lane) (st : StationState) : Lane := if l.state = .idle then l.enterStationState st else l

/-- R48: the state the station enters: BLIND when its vibration lane is FAULTED. -/
def startState (s : State) (k : Fin 4) : StationState := match s.vibrationLane k with
  | some i => if (s.lane i).state = .faulted then .blind else .waiting
  | none => .waiting

/-- R48, R108: the station record at Start Station. -/
def Station.started (x : Station) (st : StationState) : Station :=
  { x.forget with state := st, tail := 0, quietTimer := if st = .waiting then some 0 else none,
                  sumCounter := x.settings.summaryInterval, totals := .zero }

/-- R13: change every lane of station `k` by `f`. -/
def onLanesOf (s : State) (k : Fin 4) (f : Lane → Lane) : State :=
  { s with lanes := s.lanes.map fun l => if l.serves k then f l else l }

/-- R48: the tests and effect of Start Station. -/
def startStartStation (c : Cmd) (s : State) : State :=
  match stationOf (u8 c.bytes.toList 4) with
  | none => refuse s c.slot .badParam
  | some k =>
    if (s.station k).state ≠ .stopped then refuse s c.slot .stationRunning
    else if !lanesReady s k then refuse s c.slot .notReady
    else
      let st := startState s k
      complete (onLanesOf (s.onStation k fun x => x.started st) k fun l => l.atStart st) c.slot 0

/-- START_STATION: starts a STOPPED station (R48). -/
def execStartStation (s : State) : Reply := startStep (· == 0x07) startStartStation s

/-! ### Stop Station (R49) -/

/-- R13, R24: a lane at Stop Station of its station. -/
def Lane.atStop (l : Lane) : Lane :=
  match l.state with
  | .settling | .live =>
    { l.discardQueue.resetDetector with state := .idle, silenceTimer := none, settleCount := 0, liveDue := false }
  | .faulted =>
    { l.discardQueue.resetDetector with state := .idle, silenceTimer := none, settleCount := 0, liveDue := false,
                                        faultReason := none, badRun := 0, goodRun := 0 }
  | .unmapped | .idle | .test => l

/-- R49, R67, R94: the station record at Stop Station. -/
def Station.stopped (x : Station) : Station :=
  { x.forget.zeroTallies with state := .stopped, quietTimer := none, tail := 0, boundary := [], pool := [] }

/-- R49: the tests and effect of Stop Station. -/
def startStopStation (c : Cmd) (s : State) : State :=
  match stationOf (u8 c.bytes.toList 4) with
  | none => refuse s c.slot .badParam
  | some k =>
    if (s.station k).state = .stopped then complete s c.slot 0
    else complete (onLanesOf (s.onStation k Station.stopped) k Lane.atStop) c.slot 0

/-- STOP_STATION: stops a watching station (R49). -/
def execStopStation (s : State) : Reply := startStep (· == 0x08) startStopStation s

end Sys2Proof.Machine
end

