-- ==== Sys2Proof/Machine/Reports.lean ====
section
/-! DEFINITION. The notice writer and the status writer (chapter 9): the ring, consumption, Set Notice Ring; the status
write, Set Status Block, Write Status. -/

namespace Sys2Proof.Machine

/-! ### The ring (R158, R159) -/

/-- R159: the OVERRUN notice the writer makes of its discarded counts. -/
def overrunNotice (w : NoticeWriter) : Notice :=
  { kind := .overrun, station := 255, lane := 255, cell := 0xFFFF, cycle := 0, time := 0,
    v1 := BitVec.ofNat 32 w.discarded, v2 := BitVec.ofNat 32 w.discardedAlarms, v3 := w.sequence }

/-- R158, R159: the notice written next: OVERRUN while discards are unreported, else the head of the queue. -/
def nextNotice (w : NoticeWriter) : Option Notice :=
  if 0 < w.discarded then some (overrunNotice w) else w.queue.head?

/-- An index of the ring advanced by 1, returning to 0 after N - 1 (R158). -/
def ringNext (i entries : Nat) : Nat := if i + 1 = entries then 0 else i + 1

/-- R158, R159: the writer after handing on notice `n` at moment `stamp`. -/
def NoticeWriter.written (w : NoticeWriter) (r : Ring) (n : Notice) (stamp : Nat) : NoticeWriter :=
  let ovr := decide (0 < w.discarded)
  { w with
    sequence := w.sequence + 1
    queue := if ovr then w.queue else w.queue.drop 1
    discarded := 0, discardedAlarms := if ovr then 0 else w.discardedAlarms
    unconsumed := w.unconsumed ++ [{ alarm := n.kind.alarm, overrun := ovr, stamp := stamp }]
    p := ringNext w.p r.entries, u := w.u + 1 }

/-- NOTICE_WRITE_HAND_ON: the writer numbers the next notice and hands on its write (R158). -/
def execNoticeWriteHandOn (s : State) : Reply :=
  if mayHandOn s .noticeWriter then
    match s.notices.ring, nextNotice s.notices with
    | some r, some n =>
      let s1 := handOn s (.noticeWriter true) (r.base + BitVec.ofNat 32 (32 * s.notices.p))
        (beatsOf 4 (noticeBytes (s.notices.sequence + 1) n))
      .next (commit s { s1 with notices := s.notices.written r n s.path.now })
    | _, _ => .next s
  else .next s

/-! ### Consumption (R160) -/

/-- R160: the read with these ring offsets covers entry `j`: one of its beats is the entry's beat 3. -/
def coversEntry (offsets : List Nat) (j : Nat) : Bool := offsets.any fun o => decide (o = 32 * j + 24)

/-- R160: how many entries are consumed: up to the one furthest from c that the read covers, among those handed on
before the read was accepted. -/
def consumedCount (w : NoticeWriter) (entries : Nat) (offsets : List Nat) (accepted : Nat) : Nat :=
  w.unconsumed.zipIdx.foldl (fun acc x =>
    if coversEntry offsets ((w.c + x.2) % entries) && decide (x.1.stamp < accepted) then x.2 + 1 else acc) 0

/-- R160: the first `n` unconsumed entries are consumed. -/
def NoticeWriter.consume (w : NoticeWriter) (entries n : Nat) : NoticeWriter :=
  if n = 0 then w
  else
    { w with unconsumed := w.unconsumed.drop n, u := w.u - n, c := (w.c + n) % entries
             overrun := w.overrun && !((w.unconsumed.take n).any (·.overrun) && decide (w.discarded = 0)) }

/-- R160: the report of a read that memory answered DONE. -/
def reportRead (s : State) (offsets : List Nat) (accepted : Nat) : State :=
  match s.notices.ring with
  | none => s
  | some r => { s with notices := s.notices.consume r.entries (consumedCount s.notices r.entries offsets accepted) }

/-! ### Set Notice Ring (R161) -/

/-- R161, step 1: the ring a record gives, absent when a structural field is out of range. -/
def ringOf (l : List Byte) : Option Ring :=
  let base := u32 l 4
  let n := u16 l 8
  if base % 4096 = 0 ∧ n % 16 = 0 ∧ 16 ≤ n ∧ n ≤ 4096 ∧ base + n * 32 ≤ 4294967296 then
    some { base := BitVec.ofNat 32 base, entries := n, info := decide (u8 l 10 ≠ 0) }
  else none

/-- R161: the writer with a new ring. -/
def NoticeWriter.setRing (w : NoticeWriter) (r : Ring) : NoticeWriter :=
  { w with ring := some r, p := 0, c := 0, u := 0, unconsumed := [], state := .writing
           overrun := w.overrun && decide (w.discarded ≠ 0) }

/-- A notice write or status part handed on before the placing command no longer acts on its writer (R162, R164). -/
def OwnWrite.stale (c : Client) (w : OwnWrite) : OwnWrite := match w.producer, c with
  | .noticeWriter _, .noticeWriter => { w with producer := .noticeWriter false }
  | .statusWriter _, .statusWriter => { w with producer := .statusWriter false }
  | _, _ => w

/-- Mark the own writes of a writer as handed on before its latest placing command. -/
def staleWrites (s : State) (c : Client) : State :=
  { s with path := { s.path with own := s.path.own.map (OwnWrite.stale c) } }

/-- R161: the tests and effect of Set Notice Ring. -/
def startSetNoticeRing (c : Cmd) (s : State) : State :=
  match ringOf c.bytes.toList with
  | none => refuse s c.slot .badParam
  | some r =>
    if windowClash s r.base.toNat (r.entries * 32) (fun k => decide (k = .ring))
        (fun p => decide (p.client = .noticeWriter)) then refuse s c.slot .overlap
    else
      let s1 := staleWrites s .noticeWriter
      complete { s1 with notices := s1.notices.setRing r } c.slot 0

/-- SET_NOTICE_RING: places the notice ring, resets its indices and puts the writer in WRITING (R161). -/
def execSetNoticeRing (s : State) : Reply := startStep (· == 0x11) startSetNoticeRing s

/-! ### The status write (R165) -/

/-- R165: a SCHEDULED write is due. -/
def scheduledDue (w : StatusWriter) : Bool :=
  w.change && (match w.timer, w.place with
    | some n, some b => decide (b.period * 1000 ≤ n)
    | _, _ => false)

/-- R165: a status write starts: generation, snapshot, change flag, timer, served commands, WRITING. -/
def startStatusWrite (s : State) : State :=
  { s with status :=
    { s.status with
      generation := s.status.generation + 1
      write := some { shown := shown s, generation := s.status.generation + 1, handed := 0, answered := 0, done := 0,
                      faulted := false, cut := false, scheduled := scheduledDue s.status,
                      served := s.status.waiting }
      change := false, timer := some 0, waiting := [], state := .writing } }

/-- STATUS_WRITE_START: in IDLE, with a SCHEDULED write due or a Write Status waiting, a status write starts
(R165). -/
def execStatusWriteStart (s : State) : Reply :=
  if !s.path.resetLow && !draining s && decide (s.status.state = .idle)
      && (scheduledDue s.status || !s.status.waiting.isEmpty) then .next (commit s (startStatusWrite s))
  else .next s

/-- R165: the 128 bytes of part `k` of a status write. -/
def partBytes (w : StatusWrite) (k : Nat) : List Byte := ((statusBytes w.generation w.shown).drop (128 * k)).take 128

/-- STATUS_PART_HAND_ON: the status writer hands the next 128-byte part to the own-write queue (R165). -/
def execStatusPartHandOn (s : State) : Reply :=
  if mayHandOn s .statusWriter then
    match s.status.write, s.status.place with
    | some w, some b =>
      let s1 := handOn s (.statusWriter true) (b.base + BitVec.ofNat 32 (128 * w.handed)) (beatsOf 16 (partBytes w w.handed))
      .next (commit s { s1 with status := { s.status with write := some { w with handed := w.handed + 1 } } })
    | _, _ => .next s
  else .next s

/-- The parts of writes cut by Set Status Block that were handed on a Write Status command's account and are not
answered (R164, R166; log 18). -/
def carriedIds (s : State) (slot : Fin 32) : List Nat :=
  (s.status.carried.filter fun x => decide (x.1 = slot)).map (·.2)

/-- Decide the same outcome for the commands in a list of slots, in order (the order is the model's choice, log 35); one
carried from a cut write first awaits the parts of that write (R150; log 18). -/
def decideAll (s : State) (slots : List (Fin 32)) (r : Result) (detail : Nat) : State :=
  slots.foldl (fun s k => decideCmd s k r (BitVec.ofNat 16 detail) (carriedIds s k)) s

/-- R165, R166: the write in progress hands no further part and all its parts are answered. -/
def StatusWrite.ended (w : StatusWrite) : Bool :=
  (decide (Config.statusParts ≤ w.handed) || w.faulted || w.cut) && decide (w.handed ≤ w.answered)

/-- R165, R166: the end of a status write, when it is over. -/
def settleStatusWrite (s : State) : State :=
  match s.status.write with
  | none => s
  | some w =>
    if !w.ended then s
    else if w.faulted then
      decideAll { s with status := { s.status with state := .stopped, write := none, timer := none } } w.served .fault
        w.done
    else decideAll { s with status := { s.status with state := .idle, write := none } } w.served .done 0

/-- R165: a part of the write in progress is answered. -/
def statusPartAnswered (s : State) (r : Response) : State :=
  match s.status.write with
  | none => s
  | some w =>
    let w1 := { w with answered := w.answered + 1, done := w.done + (if r = .done then 1 else 0),
                       faulted := w.faulted || decide (r = .fault) }
    settleStatusWrite { s with status := { s.status with write := some w1 } }

/-! ### Set Status Block (R164) and Write Status (R166) -/

/-- R164: the status writer with a new block; the commands a cut write served wait for the next write, and the parts of
the cut write that are unanswered, `parts`, stay on their account (R166; log 18). -/
def StatusWriter.setPlace (w : StatusWriter) (b : StatusPlace) (parts : List Nat) : StatusWriter :=
  let served := (w.write.map (·.served)).getD []
  { w with place := some b, waiting := served ++ w.waiting, write := none, change := true, timer := some 0, state := .idle
           carried := w.carried ++ served.flatMap fun k => parts.map fun id => (k, id) }

/-- R140, R164: the answer to a part of a cut write does not act on the writer; no command awaits it any more. -/
def cutPartAnswered (s : State) (id : Nat) : State :=
  { s with status := { s.status with carried := s.status.carried.filter fun x => decide (x.2 ≠ id) } }

/-- R164: the tests and effect of Set Status Block; a write starts at once if a Write Status waits. -/
def startSetStatusBlock (c : Cmd) (s : State) : State :=
  let l := c.bytes.toList
  let base := u32 l 4
  let period := clampNat 1 1000 (u16 l 8)
  if base % 1024 ≠ 0 then refuse s c.slot .badParam
  else if windowClash s base 1024 (fun k => decide (k = .status)) (fun p => decide (p.client = .statusWriter)) then
    refuse s c.slot .overlap
  else
    let s1 := staleWrites s .statusWriter
    let block : StatusPlace := { base := BitVec.ofNat 32 base, period := period }
    let s2 := complete { s1 with status := s1.status.setPlace block (ownIds s (.statusWriter true)) } c.slot
      (countClamped (u16 l 8) period)
    if s2.status.waiting.isEmpty then s2 else startStatusWrite s2

/-- SET_STATUS_BLOCK: places the status block and period, and puts the status writer in IDLE (R164). -/
def execSetStatusBlock (s : State) : Reply := startStep (· == 0x12) startSetStatusBlock s

/-- R166: the test and start of Write Status: it waits for the next write. -/
def startWriteStatus (c : Cmd) (s : State) : State :=
  match s.status.state with
  | .unset | .stopped => refuse s c.slot .notReady
  | .idle | .writing =>
    let s1 := runCmd s c.slot
    { s1 with status := { s1.status with waiting := s1.status.waiting ++ [c.slot] } }

/-- WRITE_STATUS: waits for the next status write and completes when that write ends (R166). -/
def execWriteStatus (s : State) : Reply := startStep (· == 0x13) startWriteStatus s

/-- R166: an Abort of a RUNNING Write Status: it awaits the parts handed on its account and not answered, those of the
write that serves it and those of writes cut before (log 18). -/
def abortWriteStatus (s : State) (slot : Fin 32) : State :=
  if s.status.waiting.contains slot then
    decideCmd { s with status := { s.status with waiting := s.status.waiting.erase slot } } slot .aborted 0
      (carriedIds s slot)
  else match s.status.write with
    | none => decideCmd s slot .aborted 0 (carriedIds s slot)
    | some w =>
      let w1 := { w with served := w.served.erase slot }
      let cutNow := !w1.scheduled && w1.served.isEmpty
      let s1 := decideCmd s slot .aborted 0 (ownIds s (.statusWriter true) ++ carriedIds s slot)
      let s2 := { s1 with status := { s1.status with write := some { w1 with cut := w1.cut || cutNow },
                                                     change := s1.status.change || cutNow } }
      if cutNow then settleStatusWrite s2 else s2

end Sys2Proof.Machine
end

