-- ==== Sys2Proof/Machine/Commands.lean ====
section
/-! DEFINITION. The command unit (chapter 8): slot capture, submission, COMPLETION, BAD_KIND, Abort, Restart and its
clearing. -/

namespace Sys2Proof.Machine

/-! ### Capture and submission (R143 to R145, R155) -/

/-- R143: byte `i` of a slot's shadow after a beat at byte offset `o` within the slot. -/
def captureByte (b : Beat) (o i : Nat) (old : Byte) : Byte :=
  if o ≤ i ∧ i < o + 8 ∧ b.strobes.toList.getD (i - o) false then byteAt b.bytes.toList (i - o) else old

/-- R143: a beat at byte offset `o` of the command window applied to the shadows. -/
def captureBeat (shadows : Vector (Vector Byte 64) 32) (o : Nat) (b : Beat) : Vector (Vector Byte 64) 32 :=
  shadows.mapIdx fun n sh => if n = o / 64 then sh.mapIdx fun i old => captureByte b (o % 64) i old else sh

/-- The beats of a write that lie in a window of base `base` and size `size`, with their offsets in it (R136). -/
def beatsIn (addr base size : Nat) (beats : List Beat) : List (Nat × Beat) :=
  beats.zipIdx.filterMap fun x =>
    let a := addr + 8 * x.2
    if base ≤ a ∧ a < base + size then some (a - base, x.1) else none

/-- R144: the slot a beat submits: byte 56 with its strobe set and a nonzero value. -/
def submits (x : Nat × Beat) : Option (Fin 32) :=
  if h : x.1 / 64 < 32 then
    if x.1 % 64 = 56 ∧ x.2.strobes.toList.getD 0 false ∧ byteAt x.2.bytes.toList 0 ≠ 0 then some ⟨x.1 / 64, h⟩ else none
  else none

/-- Bytes 0 to 55 of a slot's shadow (R144). -/
def recordOf (sh : Vector Byte 64) : CmdBytes := Vector.ofFn fun i : Fin 56 => byteAt sh.toList i.val

/-- R145: a command occupies the slot: it is QUEUED, RUNNING or FINISHING. -/
def occupied (s : State) (slot : Fin 32) : Bool :=
  s.cmd.queue.any (fun c => decide (c.slot = slot)) || s.cmd.completions.any (fun c => decide (c.slot = slot))

/-- R145: a command of the queue carries the tag (log 16). -/
def tagInUse (s : State) (tag : Nat) : Bool := s.cmd.queue.any fun c => decide (tagOf c.bytes = tag)

/-- R145, R155: a submission of a slot. -/
def submit (s : State) (slot : Fin 32) : State :=
  if s.cmd.restart.isSome then s
  else if occupied s slot then { s with cmd := { s.cmd with ignored := sat16 s.cmd.ignored 1 } }
  else
    let r := recordOf (s.cmd.shadows.get slot)
    if tagInUse s (tagOf r) then
      { s with cmd := { s.cmd with completions := s.cmd.completions ++ [{ slot := slot, bytes := r, result := .tagInUse,
                                                                          detail := 0 }] } }
    else { s with cmd := { s.cmd with queue := s.cmd.queue ++ [{ slot := slot, bytes := r, state := .queued }] } }

/-- R143, R144: the beats of one write into the command window: all applied, then its submissions in slot order. -/
def captureWrite (s : State) (beats : List (Nat × Beat)) : State :=
  let s1 := { s with cmd := { s.cmd with shadows := beats.foldl (fun sh x => captureBeat sh x.1 x.2) s.cmd.shadows } }
  (beats.filterMap submits).foldl submit s1

/-! ### Completion (R149, R150) -/

/-- COMPLETION: the head of the completion list completes (R149, R150). -/
def execCompletion (s : State) : Reply :=
  if mayHandOn s .commandUnit then
    match s.cmd.completions with
    | h :: rest => .next (commit s (completeHead s h rest))
    | [] => .next s
  else .next s

/-! ### Bad kind (R147) -/

/-- R147: the kind code names none of the nineteen kinds. -/
def badKindCode (k : Nat) : Bool := decide (k < 1 ∨ 19 < k)

/-- R147, step 1: refused with BAD_KIND and detail 0. -/
def startBadKind (c : Cmd) (s : State) : State := decideCmd s c.slot .badKind 0 []

/-- BAD_KIND: a started command whose kind code names no kind is refused (R147). -/
def execBadKind (s : State) : Reply := startStep badKindCode startBadKind s

/-! ### Abort (R152) -/

/-- The lane whose running test belongs to a slot. -/
def testLaneOf (s : State) (slot : Fin 32) : Option (Fin 16) :=
  (List.finRange 16).find? fun i => match (s.lane i).test with
    | some r => decide (r.slot = slot)
    | none => false

/-- R114, R152: an Abort of a RUNNING Copy Map: no further snapshot write, and it waits for those handed on. -/
def abortCopy (s : State) (slot : Fin 32) : State :=
  decideCmd (onCopy s slot fun r => { r with stopped := true }) slot .aborted 0 (ownIds s (.crackMap slot))

/-- R152: the effect of an Abort or a Restart on one target. -/
def abortTarget (s : State) (c : Cmd) : State :=
  match c.state with
  | .queued => decideCmd s c.slot .aborted 0 []
  | .running => match kindCode c.bytes with
    | 0x04 => (match testLaneOf s c.slot with | some i => endTest s i .aborted | none => s)
    | 0x0C => abortCopy s c.slot
    | 0x13 => abortWriteStatus s c.slot
    | _ => s
  | .finishing _ _ _ => s

/-- The command is QUEUED or RUNNING. -/
def Cmd.live (c : Cmd) : Bool := match c.state with
  | .queued => true | .running => true | .finishing _ _ _ => false

/-- R152: the targets of an Abort in `slot`: target code 0xFFFF is ALL. -/
def abortTargets (s : State) (slot : Fin 32) (target : Nat) : List Cmd :=
  s.cmd.queue.filter fun c => decide (c.slot ≠ slot) && c.live && (decide (target = 0xFFFF) || decide (tagOf c.bytes = target))

/-- R152: the test and effect of Abort. -/
def startAbort (c : Cmd) (s : State) : State :=
  let target := u16 c.bytes.toList 4
  if 255 < target ∧ target ≠ 0xFFFF then refuse s c.slot .badParam
  else
    let ts := abortTargets s c.slot target
    if ts = [] ∧ target ≠ 0xFFFF then decideCmd s c.slot .notFound 0 []
    else complete (ts.foldl abortTarget s) c.slot ts.length

/-- ABORT: ends queued or running commands carrying a tag, or all of them, with the outcome ABORTED (R152). -/
def execAbort (s : State) : Reply := startStep (· == 0x0F) startAbort s

/-! ### Restart (R154) and its clearing (R142) -/

/-- R154, step 1: every other command is ended; from now on the notice writer, the status writer and the crack map hand
no new own write. -/
def startRestart (c : Cmd) (s : State) : State :=
  let s1 := (abortTargets s c.slot 0xFFFF).foldl abortTarget (runCmd s c.slot)
  { s1 with cmd := { s1.cmd with restart := some { slot := c.slot, bytes := c.bytes, cleared := false } } }

/-- RESTART: ends every other command and stops new own writes, so that the own-write queue drains (R154). -/
def execRestart (s : State) : Reply := startStep (· == 0x10) startRestart s

/-- R154, step 2: the draining has ended. -/
def drained (s : State) : Option RestartRun :=
  match s.cmd.restart with
  | some r => if !s.path.resetLow && !r.cleared && s.path.own.isEmpty && s.path.waits.isEmpty && s.cmd.completions.isEmpty
      then some r else none
  | none => none

/-- R142, R154, step 3: every block takes its Restart values; the command window, the forwarded transfers, local time
and Restart's own slot are kept, and Restart's outcome is decided. -/
def clearPart (s : State) (r : RestartRun) : State :=
  { State.reset with
    path := { s.path with starvation := 0, refusedCount := 0 }
    cmd := { CommandUnit.reset with
      restart := some { r with cleared := true }
      completions := [{ slot := r.slot, bytes := r.bytes, result := .done, detail := 0 }] }
    localTime := s.localTime, freeIndex := s.freeIndex, pending := s.pending }

/-- QUEUE_DRAINED: once the own-write queue and the completion list are empty during Restart, every block is cleared
(R142, R154). -/
def execQueueDrained (s : State) : Reply := match drained s with
  | some r => .next (clearPart s r)
  | none => .next s

end Sys2Proof.Machine
end

