-- ==== Sys2Proof/Machine/PathUnit.lean ====
section
/-! DEFINITION. The memory path (chapter 7): arrival, acceptance, issue and response of forwarded transfers, issue and
response of own writes, RESET_N; and the passing of local time. -/

namespace Sys2Proof.Machine

/-! ### Arrival and acceptance (R131, R132, R139) -/

/-- TRANSFER_ARRIVAL: a master presents a transfer at the master-side port (R131). -/
def execTransferArrival (t : Transfer) (s : State) : Reply :=
  if t.wf then
    .next { s with path := { s.path with arrived := s.path.arrived ++ [{ id := s.path.now, t := t }],
                                         now := s.path.now + 1 } }
  else .refused .illFormedTransfer

/-- R132: the path unit refuses the transfer. -/
def refusedTransfer (t : Transfer) : Bool :=
  decide (t.master.val = 15) || decide (t.addr.toNat % 8 ≠ 0) || decide (4096 < t.addr.toNat % 4096 + spanOf t)

/-- R139: the own writes in the queue whose span the transfer meets. -/
def overlapping (s : State) (t : Transfer) : List Nat :=
  (s.path.own.filter fun w => spansMeet t.addr.toNat (spanOf t) w.addr.toNat w.span).map (·.id)

/-- R131: a transfer of the master is held, so that no later one of it is accepted. -/
def masterHeld (s : State) (m : Fin 16) : Bool :=
  s.path.accepted.any fun a => decide (a.t.master = m) && (match a.phase with | .held _ => true | _ => false)

/-- The oldest entry of a master's order record (R133). -/
def oldestOf (s : State) (m : Fin 16) : Option Accepted :=
  s.path.accepted.find? fun a => decide (a.t.master = m)

/-- R131, step 4, and R136: the response is returned to the master, then its response-time effect is taken. -/
def returnResponse (s : State) (a : Accepted) (ans : Answer) (ring : List Nat) : State :=
  let s1 := { s with path :=
    { s.path with accepted := s.path.accepted.filter fun x => decide (x.id ≠ a.id)
                  masterPort := s.path.masterPort ++ [{ id := a.id, master := a.t.master, answer := ans }] } }
  if ans.resp = .done then reportRead s1 ring a.stamp else s1

/-- R133: return the responses of a master in order, as far as they are there; `n` bounds them by the number of
accepted transfers. -/
def deliver : Nat → State → Fin 16 → State
  | 0, s, _ => s
  | n + 1, s, m => match oldestOf s m with
    | none => s
    | some a => match a.phase with
      | .answered ans ring => deliver n (returnResponse s a ans ring) m
      | .ready => s
      | .held _ => s
      | .issued _ => s

/-- Return what can be returned to a master (R133). -/
def deliverAll (s : State) (m : Fin 16) : State := deliver s.path.accepted.length s m

/-- R131, R132, R139: the phase a transfer enters at acceptance. -/
def acceptedPhase (s : State) (t : Transfer) : Phase :=
  if refusedTransfer t then .answered (refusedAnswer t) []
  else match overlapping s t with
    | [] => .ready
    | ids => .held ids

/-- R131, step 2: the acceptance of an arrived transfer. -/
def acceptTransfer (s : State) (x : Arrived) : State :=
  let s1 := { s with path :=
    { s.path with
      arrived := s.path.arrived.filter fun y => decide (y.id ≠ x.id)
      accepted := s.path.accepted ++ [{ id := x.id, t := x.t, stamp := s.path.now, phase := acceptedPhase s x.t }]
      refusedCount := if refusedTransfer x.t then sat16 s.path.refusedCount 1 else s.path.refusedCount
      now := s.path.now + 1 } }
  deliverAll s1 x.t.master

/-- TRANSFER_ACCEPTANCE: the path unit takes the next arrived transfer of a master, refuses it or makes the overlap
test (R131). -/
def execTransferAcceptance (m : Fin 16) (s : State) : Reply :=
  match s.path.arrived.find? (fun x => decide (x.t.master = m)) with
  | some x => if !s.path.resetLow && !masterHeld s m then .next (commit s (acceptTransfer s x)) else .next s
  | none => .next s

/-! ### Issue of a forwarded transfer (R136, R138, R117) -/

/-- The ready transfer that arrived first (R138). -/
def firstReady (s : State) : Option Accepted :=
  s.path.accepted.foldl (fun best a =>
    if a.phase = .ready then (match best with
      | some b => if a.id < b.id then some a else some b
      | none => some a)
    else best) none

/-- The mapped lane whose window the transfer lies in (R136). -/
def laneAt (s : State) (addr : Nat) : Option (Fin 16 × Mapping) :=
  (List.finRange 16).findSome? fun i => match (s.lane i).mapping with
    | some m => if m.base.toNat ≤ addr ∧ addr < m.base.toNat + m.windowSize then some (i, m) else none
    | none => none

/-- R117: the logical segment of an address in a lane's window. -/
def logicalOf (m : Mapping) (addr : Nat) : Nat := (addr - m.base.toNat) / m.segSize

/-- R117: the redirected address in physical segment `p`. -/
def redirect (m : Mapping) (p addr : Nat) : Addr :=
  BitVec.ofNat 32 (m.base.toNat + p * m.segSize + (addr - m.base.toNat) % m.segSize)

/-- R6: the lane counts a foreign write. -/
def Lane.countForeign (l : Lane) : Lane := { l with foreign := sat16 l.foreign 1 }

/-- R6, R117, R130: the issue-time effect of a write in a lane window and the address it is forwarded to. -/
def laneWrite (s : State) (i : Fin 16) (m : Mapping) (t : Transfer) : State × Addr :=
  let addr := t.addr.toNat
  let k := logicalOf m addr
  if t.master = m.master ∧ k < m.logical then
    let s1 := reportWrite s i m k
    let p := mapOf s1 i k
    (laneSeesWrite s1 i t p, redirect m p addr)
  else (s.onLane i Lane.countForeign, t.addr)

/-- R136: the ring offsets of a read's beats that lie in the notice ring. -/
def ringOffsets (s : State) (t : Transfer) : List Nat :=
  match t.payload, s.notices.ring with
  | .read n, some r => (List.range n).filterMap fun j =>
      let a := t.addr.toNat + 8 * j
      if r.base.toNat ≤ a ∧ a < r.base.toNat + r.entries * 32 then some (a - r.base.toNat) else none
  | _, _ => []

/-- R136: the effects of a write at issue, and the address it is forwarded to. -/
def writeEffects (s : State) (t : Transfer) : State × Addr :=
  match laneAt s t.addr.toNat with
  | some (i, m) => laneWrite s i m t
  | none => match s.path.cmdBase with
    | some v => (captureWrite s (beatsIn t.addr.toNat (cmdWindowBase v) 2048 (writeBeats t)), t.addr)
    | none => (s, t.addr)

/-- Set the phase of an accepted transfer. -/
def setPhase (s : State) (id : Nat) (ph : Phase) : State :=
  { s with path := { s.path with accepted := s.path.accepted.map fun a => if a.id = id then { a with phase := ph } else a } }

/-- Put a transfer out at the memory-side port. -/
def putOut (s : State) (x : PortIssue) : State := { s with path := { s.path with memPort := s.path.memPort ++ [x] } }

/-- R131, step 3: the issue of a ready forwarded transfer: starvation count, decoding and effects, the port. -/
def issueForwarded (s : State) (a : Accepted) : State :=
  let s0 := { s with path := { s.path with starvation := if (waitingOwn s).isSome then s.path.starvation + 1 else 0 } }
  let e := if isWrite a.t then writeEffects s0 a.t else (s0, a.t.addr)
  putOut (setPhase e.1 a.id (.issued (ringOffsets s a.t)))
    { own := false, id := a.id, master := a.t.master, addr := e.2, payload := a.t.payload }

/-- FORWARDED_ISSUE: the memory-side port issues the ready forwarded transfer that arrived first (R136, R138). -/
def execForwardedIssue (s : State) : Reply :=
  match firstReady s with
  | some a =>
    if !s.path.resetLow && ((waitingOwn s).isNone || decide (s.path.starvation < Config.starvationMax)) then
      .next (commit s (issueForwarded s a))
    else .next s
  | none => .next s

/-! ### Response to a forwarded transfer (R133) -/

/-- The ring offsets of a transfer that is issued and not answered. -/
def issuedRing (s : State) (id : Nat) : Option (Accepted × List Nat) :=
  s.path.accepted.findSome? fun a => match a.phase with
    | .issued ring => if a.id = id then some (a, ring) else none
    | _ => none

/-- FORWARDED_RESPONSE: memory answers an issued forwarded transfer, and the response is returned in its master's order
(R131, R133). An answer for no issued transfer is discarded (R140). -/
def execForwardedResponse (id : Nat) (ans : Answer) (s : State) : Reply :=
  if ans.wf then
    match issuedRing s id with
    | some (a, ring) =>
      if s.path.resetLow then .next s
      else .next (commit s (deliverAll (setPhase s id (.answered ans ring)) a.t.master))
    | none => .next s
  else .refused .illFormedAnswer

/-! ### Own writes at the port (R138, R139, R140) -/

/-- An own write becomes ISSUED and goes out as master 15 (R137, R138). -/
def issueOwn (s : State) (w : OwnWrite) : State :=
  let s1 := { s with path :=
    { s.path with own := s.path.own.map fun x => if x.id = w.id then { x with issued := true } else x, starvation := 0 } }
  putOut s1 { own := true, id := w.id, master := 15, addr := w.addr, payload := .write w.beats }

/-- OWN_WRITE_ISSUE: the port issues the oldest queued own write, when no forwarded transfer is ready or the starvation
count stands at 8 (R138). -/
def execOwnWriteIssue (s : State) : Reply :=
  match waitingOwn s with
  | some w =>
    if !s.path.resetLow && ((firstReady s).isNone || decide (Config.starvationMax ≤ s.path.starvation)) then
      .next (commit s (issueOwn s w))
    else .next s
  | none => .next s

/-- R139: a held transfer no longer waits on own write `id`; with none left it becomes ready. -/
def Accepted.release (id : Nat) (a : Accepted) : Accepted := match a.phase with
  | .held ids =>
    let left := ids.filter fun i => decide (i ≠ id)
    { a with phase := if left.isEmpty then .ready else .held left }
  | .ready => a
  | .issued _ => a
  | .answered _ _ => a

/-- R114: a snapshot write of a Copy Map is answered. -/
def copyAnswered (s : State) (slot : Fin 32) (r : Response) : State :=
  match r with
  | .done =>
    let s1 := onCopy s slot fun x => { x with done := x.done + 1 }
    match s1.cmd.copies.find? (fun x => decide (x.slot = slot)), s1.cmdAt slot with
    | some x, some c =>
      if x.done = Config.snapshotWrites ∧ c.state = .running then decideCmd s1 slot .done 24 [] else s1
    | _, _ => s1
  | .fault =>
    let s1 := onCopy s slot fun x => { x with stopped := true }
    match s1.cmdAt slot with
    | some c => if c.state = .running then decideCmd s1 slot .fault 0 (ownIds s1 (.crackMap slot)) else s1
    | none => s1

/-- R140: the response to an own write is reported to its producer. -/
def reportOwn (s : State) (w : OwnWrite) (r : Response) : State :=
  match w.producer with
  | .commandUnit => if r = .fault then { s with cmd := { s.cmd with outcomeFaults := sat16 s.cmd.outcomeFaults 1 } } else s
  | .noticeWriter current =>
    if current && decide (r = .fault) then { s with notices := { s.notices with state := .writeFault } } else s
  | .statusWriter current => if current then statusPartAnswered s r else cutPartAnswered s w.id
  | .crackMap slot => copyAnswered s slot r

/-- R139, R140, R150: the response to an own write: the entry leaves the queue, transfers it held are released, its
producer hears of it, and commands that awaited it alone join the completion list, after those its producer decides
(log 35). -/
def answerOwn (s : State) (w : OwnWrite) (r : Response) : State :=
  let s1 := { s with path :=
    { s.path with own := s.path.own.filter fun x => decide (x.id ≠ w.id)
                  accepted := s.path.accepted.map (Accepted.release w.id) } }
  settleAwaiting (reportOwn s1 w r) w.id

/-- OWN_WRITE_RESPONSE: memory answers an issued own write (R140). An answer for none is discarded. -/
def execOwnWriteResponse (id : Nat) (r : Response) (s : State) : Reply :=
  match s.path.own.find? (fun w => decide (w.id = id) && w.issued) with
  | some w => if s.path.resetLow then .next s else .next (commit s (answerOwn s w r))
  | none => .next s

/-- STRAY_RESPONSE: a response for no issued transfer is discarded (R140). -/
def execStrayResponse (ans : Answer) (s : State) : Reply :=
  if ans.wf then .next s else .refused .illFormedAnswer

/-! ### RESET_N (R141, R169) -/

/-- R141: the part at the assertion of RESET_N; what lies outside it (transfers the masters present, what the ports have
carried) stands. -/
def assertReset (s : State) : State :=
  { State.reset with
    path := { Path.reset with arrived := s.path.arrived, memPort := s.path.memPort, masterPort := s.path.masterPort,
                              now := s.path.now }
    freeIndex := s.freeIndex, pending := s.pending }

/-- RESET_N_ASSERTION: every block takes its hardware-reset values (R141). -/
def execResetNAssertion (s : State) : Reply := .next (if s.path.resetLow then s else assertReset s)

/-- RESET_N_RELEASE: the straps are sampled, the command window is placed and the port begins accepting (R169). -/
def execResetNRelease (straps : BitVec 8) (s : State) : Reply :=
  .next (if s.path.resetLow then { s with path := { s.path with resetLow := false, cmdBase := some straps }, localTime := 0 }
    else s)

/-! ### Local time (00, 4; log 2) -/

/-- One microsecond passes for a running timer. -/
def tickTimer (t : Option Nat) : Option Nat := t.map (· + 1)

/-- One microsecond passes on a lane: its silence timer and its test time-out (R15, R23). -/
def Lane.tick (l : Lane) : Lane :=
  { l with silenceTimer := tickTimer l.silenceTimer, test := l.test.map fun r => { r with elapsed := r.elapsed + 1 } }

/-- One microsecond passes on a station: its quiet timer (R54). -/
def Station.tick (x : Station) : Station := { x with quietTimer := tickTimer x.quietTimer }

/-- One microsecond of local time passes; none while RESET_N is low. -/
def tick (s : State) : State :=
  if s.path.resetLow then s
  else
    { s with localTime := s.localTime + 1, lanes := s.lanes.map Lane.tick, stations := s.stations.map Station.tick,
             status := { s.status with timer := tickTimer s.status.timer } }

end Sys2Proof.Machine
end

