-- ==== Sys2Proof/Machine/Dispatch.lean ====
section
/-! DEFINITION. One arm per command: each command has its meaning. -/

namespace Sys2Proof.Machine

def exec (i : Instr) (s : State) : Host.Outcome State Fault Refusal :=
  match i with
  | .transferArrival t => Sys2Proof.Machine.execTransferArrival t s
  | .transferAcceptance m => Sys2Proof.Machine.execTransferAcceptance m s
  | .forwardedIssue => Sys2Proof.Machine.execForwardedIssue s
  | .forwardedResponse id a => Sys2Proof.Machine.execForwardedResponse id a s
  | .ownWriteIssue => Sys2Proof.Machine.execOwnWriteIssue s
  | .ownWriteResponse id r => Sys2Proof.Machine.execOwnWriteResponse id r s
  | .strayResponse a => Sys2Proof.Machine.execStrayResponse a s
  | .resetNAssertion => Sys2Proof.Machine.execResetNAssertion s
  | .resetNRelease straps => Sys2Proof.Machine.execResetNRelease straps s
  | .silenceTimeout lane => Sys2Proof.Machine.execSilenceTimeout lane s
  | .blockAnalysisEnd lane => Sys2Proof.Machine.execBlockAnalysisEnd lane s
  | .testTimeout lane => Sys2Proof.Machine.execTestTimeout lane s
  | .quietTimeout station => Sys2Proof.Machine.execQuietTimeout station s
  | .noticeWriteHandOn => Sys2Proof.Machine.execNoticeWriteHandOn s
  | .statusWriteStart => Sys2Proof.Machine.execStatusWriteStart s
  | .statusPartHandOn => Sys2Proof.Machine.execStatusPartHandOn s
  | .snapshotWriteHandOn slot => Sys2Proof.Machine.execSnapshotWriteHandOn slot s
  | .completion => Sys2Proof.Machine.execCompletion s
  | .badKind => Sys2Proof.Machine.execBadKind s
  | .mapLane => Sys2Proof.Machine.execMapLane s
  | .unmapLane => Sys2Proof.Machine.execUnmapLane s
  | .setLaneConditioning => Sys2Proof.Machine.execSetLaneConditioning s
  | .testLane => Sys2Proof.Machine.execTestLane s
  | .setDetection => Sys2Proof.Machine.execSetDetection s
  | .setStation => Sys2Proof.Machine.execSetStation s
  | .startStation => Sys2Proof.Machine.execStartStation s
  | .stopStation => Sys2Proof.Machine.execStopStation s
  | .setLocationLine => Sys2Proof.Machine.execSetLocationLine s
  | .setMapCriteria => Sys2Proof.Machine.execSetMapCriteria s
  | .clearCells => Sys2Proof.Machine.execClearCells s
  | .copyMap => Sys2Proof.Machine.execCopyMap s
  | .holdSegment => Sys2Proof.Machine.execHoldSegment s
  | .releaseHold => Sys2Proof.Machine.execReleaseHold s
  | .abort => Sys2Proof.Machine.execAbort s
  | .restart => Sys2Proof.Machine.execRestart s
  | .queueDrained => Sys2Proof.Machine.execQueueDrained s
  | .setNoticeRing => Sys2Proof.Machine.execSetNoticeRing s
  | .setStatusBlock => Sys2Proof.Machine.execSetStatusBlock s
  | .writeStatus => Sys2Proof.Machine.execWriteStatus s

end Sys2Proof.Machine
end

