-- ==== Sys2Proof/Safety.lean ====
section
/-! DEFINITION. What statements speak of: the laws a state keeps, the premises of a command's start, and what the end of
every step may do. -/

namespace Sys2Proof.Safety

open Sys2Proof.Machine

/-! ### Capacities (00, 3) -/

/-- No lane queues more than 4 blocks (R11). -/
def LaneQueueLaw (s : State) : Prop := ∀ i, (s.lane i).queue.length ≤ 4

/-- The own-write queue holds at most 8 writes (R137). -/
def OwnQueueLaw (s : State) : Prop := s.path.own.length ≤ 8

/-- The starvation count runs from 0 to 8 (R138). -/
def StarvationLaw (s : State) : Prop := s.path.starvation ≤ 8

/-- The internal queue holds at most 64 notices (R157). -/
def NoticeQueueLaw (s : State) : Prop := s.notices.queue.length ≤ 64

/-- A station pools at most 64 hits (R68). -/
def PoolLaw (s : State) : Prop := ∀ k, (s.station k).pool.length ≤ 64

/-- The hold list holds at most 64 entries (R120). -/
def HoldListLaw (s : State) : Prop := s.holds.length ≤ 64

/-! ### The boundary queue (R57) -/

/-- The cycle numbers of a queue rise by 1 and end at `last`. -/
def NumbersTo (last : BitVec 32) : List CycleRecord → Prop
  | [] => True
  | r :: rest => r.number = last - BitVec.ofNat 32 rest.length ∧ NumbersTo last rest

/-- The boundary queue of one station: at most 4 records, numbered one after another up to the cycle number; while the
press compacts the tail record alone is open, otherwise none is (R57). -/
def Station.BoundaryLaw (x : Station) : Prop :=
  x.boundary.length ≤ 4 ∧ NumbersTo x.cycle x.boundary ∧ (∀ r ∈ x.boundary.dropLast, r.finish.isSome)
    ∧ (x.state = .compacting ∨ x.state = .tailing → ∃ r, x.boundary.getLast? = some r ∧ r.finish = none)
    ∧ (x.state ≠ .compacting → x.state ≠ .tailing → ∀ r ∈ x.boundary, r.finish.isSome)

/-- R57 for every station. -/
def BoundaryLaw (s : State) : Prop := ∀ k, Station.BoundaryLaw (s.station k)

/-! ### Segments and holds (R115, R116, R120) -/

/-- The HELD segments of a lane, in list order. -/
def heldOf (s : State) (i : Fin 16) : List Nat :=
  (s.holds.filter fun h => decide (h.lane = i ∧ h.state = .held)).map (·.segment)

/-- A lane with a mapping: the mapped, free and held segments are its L + S segments, each once, and PENDING holds wait
on the segment their logical segment maps to (R116, R120). -/
def MappedSegments (s : State) (i : Fin 16) (m : Mapping) : Prop :=
  ∃ t, (s.seg i).table = some t ∧ t.map.length = m.logical ∧ t.ranges.length = m.logical + m.spares
    ∧ (t.map ++ t.free ++ heldOf s i).Perm (List.range (m.logical + m.spares))
    ∧ (s.seg i).held = (heldOf s i).length ∧ t.free.Pairwise (· < ·)
    ∧ ∀ h ∈ s.holds, h.lane = i → h.state = .pending → t.map[h.logical]? = some h.segment

/-- A lane without a mapping has no segment record and no hold (R115, R129). -/
def UnmappedSegments (s : State) (i : Fin 16) : Prop :=
  (s.seg i).table = none ∧ (s.seg i).held = 0 ∧ ∀ h ∈ s.holds, h.lane ≠ i

/-- R116 and R120 for every lane; no two holds name the same segment of the same lane. -/
def SegmentLaw (s : State) : Prop :=
  (s.holds.map fun h => (h.lane, h.segment)).Nodup
    ∧ ∀ i, (match (s.lane i).mapping with | some m => MappedSegments s i m | none => UnmappedSegments s i)

/-! ### Commands and slots (R145, R146) -/

/-- No two commands of the queue share a slot or a tag, and the Copy Maps under way belong to started commands, one to
each (R145, R146, R112). -/
def CommandLaw (s : State) : Prop :=
  (s.cmd.queue.map (·.slot)).Nodup ∧ (s.cmd.queue.map fun c => tagOf c.bytes).Nodup
    ∧ (s.cmd.copies.map (·.slot)).Nodup ∧ ∀ r ∈ s.cmd.copies, ∃ c ∈ s.cmd.queue, c.slot = r.slot ∧ c.state ≠ .queued

/-! ### The notice ring (R156, R158, R160) -/

/-- The unconsumed entries are those from c up to p, and never more than the ring's entries (R158). -/
def RingLaw (s : State) : Prop :=
  s.notices.u = s.notices.unconsumed.length ∧
  match s.notices.ring with
  | none => s.notices.p = 0 ∧ s.notices.c = 0 ∧ s.notices.u = 0
  | some r => 0 < r.entries ∧ s.notices.u ≤ r.entries ∧ s.notices.c < r.entries
      ∧ s.notices.p = (s.notices.c + s.notices.u) % r.entries

/-! ### Speaking of steps -/

/-- Command `c` of the queue is the one that starts next, and its kind code is `kind` (R147). -/
def Starts (s : State) (c : Cmd) (kind : Nat) : Prop := nextStart s = some c ∧ kindCode c.bytes = kind

/-- The command unit once the outcome of command `c` is decided: `c` is FINISHING and at the tail of the completion
list (R150). -/
def ended (u : CommandUnit) (c : Cmd) (r : Result) (detail : BitVec 16) : CommandUnit :=
  { u with queue := setCmdState u.queue c.slot (.finishing r detail [])
           completions := u.completions ++ [{ slot := c.slot, bytes := c.bytes, result := r, detail := detail }] }

/-- The command unit once command `c` has become RUNNING (R147). -/
def running (u : CommandUnit) (c : Cmd) : CommandUnit := { u with queue := setCmdState u.queue c.slot .running }

/-- The answer of a step that refuses command `c` with an outcome for which no chapter gives a detail: the detail is a
free value (log 5), and `c` completes within its start (R147; CommandCompletes says how). -/
def refused (s : State) (c : Cmd) (r : Result) : Reply :=
  .next (commit s (completeStarted c
    { s with cmd := ended s.cmd c r (Config.openDetail s.freeIndex), freeIndex := s.freeIndex + 1 }))

/-- The station a lane is mapped to, if it is mapped, is STOPPED. -/
def StationStopped (s : State) (lane : Fin 16) : Prop :=
  ∀ m, (s.lane lane).mapping = some m → (s.station m.station).state = .stopped

/-- The path unit once an own write has joined the tail of its queue: its producer no longer waits for that place
(R137). -/
def handed (p : Path) (w : Producer) (addr : Addr) (beats : List Beat) : Path :=
  { p with own := p.own ++ [{ id := p.now, producer := w, addr := addr, beats := beats, issued := false }]
           waits := p.waits.filter fun x => decide (x.1 ≠ w.client)
           now := p.now + 1 }

/-- The path unit once memory has answered own write `w`: the entry has left, and the transfers it held alone are
ready (R139, R140). -/
def answered (p : Path) (w : OwnWrite) : Path :=
  { p with
    own := p.own.filter fun x => decide (x.id ≠ w.id)
    accepted := p.accepted.map fun a => match a.phase with
      | .held ids => { a with phase := if (ids.filter fun i => decide (i ≠ w.id)) = [] then .ready
                                        else .held (ids.filter fun i => decide (i ≠ w.id)) }
      | _ => a }

/-- A RESET_N that is not low. -/
def OutOfReset (s : State) : Prop := s.path.resetLow = false

/-- The transfers that have arrived or been accepted and the own writes carry distinct numbers below the present moment,
and no master's oldest accepted transfer has an answer that was not returned (R131, R133, R137; log 9). -/
def PathLaw (s : State) : Prop :=
  (s.path.arrived.map (·.id) ++ s.path.accepted.map (·.id)).Nodup ∧ (s.path.own.map (·.id)).Nodup
    ∧ (∀ x ∈ s.path.arrived, x.id < s.path.now) ∧ (∀ a ∈ s.path.accepted, a.id < s.path.now ∧ a.stamp < s.path.now)
    ∧ (∀ w ∈ s.path.own, w.id < s.path.now)
    ∧ ∀ m a, oldestOf s m = some a → a.unanswered = true

end Sys2Proof.Safety
end

