-- ==== Sys2Proof/Certificates/Slice0/Obligations.lean ====
section
/-! DEFINITION. The statements for the provers. `commit s u` is the state `u` at the end of a step from `s`: what it
adds to `u` is said by EndOfStepFrame, so an equation with `commit` gives the whole next state, and every field that its
record update does not name is as before. -/

open Sys2Proof Sys2Proof.Machine Sys2Proof.Safety

/-! ### Steps -/

/-- The task's form of a block's step: the command at the front of the queue acts on the state with the queue's rest. -/
def Obligations.StepRunsFrontCommand : Prop :=
  ∀ (c : Instr) (rest : List Instr) (s : State), step { s with pending := c :: rest } = exec c { s with pending := rest }

/-- 00, 4: with no command waiting one microsecond of local time passes for every timer, none while RESET_N is low (the
model's choice, log 2). -/
def Obligations.IdleStepPassesTime : Prop :=
  ∀ s : State, s.pending = [] →
    step s = .next (if s.path.resetLow then s else
      { s with
        localTime := s.localTime + 1
        lanes := s.lanes.map fun l => { l with
          silenceTimer := l.silenceTimer.map (· + 1), test := l.test.map fun r => { r with elapsed := r.elapsed + 1 } }
        stations := s.stations.map fun x => { x with quietTimer := x.quietTimer.map (· + 1) }
        status := { s.status with timer := s.status.timer.map (· + 1) } })

/-- No command touches the queue of waiting commands (the model's queue, log 1). -/
def Obligations.CommandsKeepQueue : Prop :=
  ∀ (c : Instr) (s t : State), exec c s = .next t → t.pending = s.pending

/-- Every command term that names an event has a next state in every state; a transfer without 1 to 16 beats and an
answer of more than 16 beats are refused by name (07 7.1). Both are the model's choices: an event whose condition does
not hold changes nothing and answers next (log 4), and a term that is no transfer or answer is refused (log 26). -/
def Obligations.OnlyIllFormedTermsStop : Prop :=
  ∀ (c : Instr) (s : State),
    (WellFormed c = true → ∃ t, exec c s = .next t) ∧
    (WellFormed c = false →
      exec c s = .refused .illFormedTransfer ∧ (∃ t, c = .transferArrival t)
      ∨ exec c s = .refused .illFormedAnswer ∧ ((∃ id a, c = .forwardedResponse id a) ∨ ∃ a, c = .strayResponse a))

/-- What the end of a step adds: the change flag is set when an item of the status block has changed (R164; log 20); the
starvation count returns to 0 when no waiting own write is present (R138); a producer without a write no longer waits,
and on a full own-write queue those that have one begin to, together, each running Copy Map by itself (R137; the moment
and the Copy Maps are the model's reading, log 23). Said too: when no own write is waiting (R138, R139), which producers
have a write (R137, R113, R150, R154, R158, R159, R165, R166), and for which of them a place is free: for any when none
waits, else for those that began to wait first (R137); the others hand on nothing, and no completion is taken. -/
def Obligations.EndOfStepFrame : Prop :=
  ∀ s u : State,
    let kept := u.path.waits.filter fun w => clientReady u w.1
    let all : List Client := [.commandUnit, .noticeWriter, .statusWriter] ++ u.cmd.copies.map fun r => .crackMap r.slot
    let new := all.filter fun c => clientReady u c && !kept.any fun w => decide (w.1 = c)
    commit s u = { u with
      path := { u.path with
        waits := if u.path.own.length < 8 then kept else kept ++ new.map fun c => (c, u.path.now)
        starvation := if waitingOwn u = none then 0 else u.path.starvation
        now := if u.path.own.length < 8 then u.path.now else u.path.now + 1 }
      status := { u.status with change := if shown s = shown u then u.status.change else true } }
    ∧ (waitingOwn u = none ↔ ∀ front w back, u.path.own = front ++ w :: back → (∀ x ∈ front, x.issued = true) →
        w.issued = false → ∃ a ∈ u.path.accepted, a.unanswered = true ∧ a.stamp < w.id
          ∧ w.addr.toNat < a.t.addr.toNat + 8 * a.t.payload.beats ∧ a.t.addr.toNat < w.addr.toNat + 8 * w.beats.length)
    ∧ (∀ c, clientReady u c = true ↔ match c with
      | .commandUnit => u.cmd.completions ≠ []
      | .noticeWriter => u.notices.state = .writing ∧ (∃ r, u.notices.ring = some r ∧ u.notices.u < r.entries)
          ∧ (u.notices.queue ≠ [] ∨ 0 < u.notices.discarded) ∧ ∀ r, u.cmd.restart = some r → r.cleared = true
      | .statusWriter => u.status.state = .writing
          ∧ (∃ w, u.status.write = some w ∧ w.handed < 8 ∧ w.faulted = false ∧ w.cut = false)
          ∧ ∀ r, u.cmd.restart = some r → r.cleared = true
      | .crackMap slot => ∃ r ∈ u.cmd.copies, r.slot = slot ∧ r.stopped = false ∧ r.handed < 24)
    ∧ (∀ c, placeFor u c = true ↔ u.path.own.length < 8 ∧ (u.path.waits = [] ∨ ∃ front back n,
        u.path.waits = front ++ (c, n) :: back ∧ (∀ w ∈ front, w.1 ≠ c) ∧ ∀ w ∈ u.path.waits, n ≤ w.2))
    ∧ (placeFor u .commandUnit = false → exec .completion u = .next u)
    ∧ (placeFor u .noticeWriter = false → exec .noticeWriteHandOn u = .next u)
    ∧ (placeFor u .statusWriter = false → exec .statusPartHandOn u = .next u)
    ∧ ∀ slot, placeFor u (.crackMap slot) = false → exec (.snapshotWriteHandOn slot) u = .next u

/-! ### The memory path (chapter 7) -/

/-- R131, step 1: a presented transfer joins those that have arrived. -/
def Obligations.TransferArrives : Prop :=
  ∀ (t : Transfer) (s : State), 1 ≤ t.payload.beats → t.payload.beats ≤ 16 →
    exec (.transferArrival t) s = .next { s with path := { s.path with
      arrived := s.path.arrived ++ [{ id := s.path.now, t := t }], now := s.path.now + 1 } }

/-- R132, R133: a transfer of master 15, at an address that is no multiple of 8, or across a 4 KiB boundary is counted and
answered FAULT, at once when its master has no other transfer accepted, and else when those before it have been answered:
it takes its place in the master's order with the answer it will get (ResponseReturnedInOrder releases it). -/
def Obligations.RefusedTransferAnswered : Prop :=
  ∀ (m : Fin 16) (s : State) (x : Arrived), PathLaw s → OutOfReset s →
    s.path.arrived.find? (fun y => decide (y.t.master = m)) = some x →
    (x.t.master = 15 ∨ x.t.addr.toNat % 8 ≠ 0 ∨ 4096 < x.t.addr.toNat % 4096 + 8 * x.t.payload.beats) →
    let fault : Answer :=
      { resp := .fault, data := match x.t.payload with | .read n => List.replicate n (Vector.replicate 8 0) | .write _ => [] }
    let counted : Path := { s.path with
      arrived := s.path.arrived.filter fun y => decide (y.id ≠ x.id)
      refusedCount := min 65535 (s.path.refusedCount + 1)
      now := s.path.now + 1 }
    ((∀ a ∈ s.path.accepted, a.t.master ≠ m) →
      exec (.transferAcceptance m) s = .next (commit s { s with path := { counted with
        masterPort := s.path.masterPort ++ [{ id := x.id, master := m, answer := fault }] } }))
    ∧ ((∃ a ∈ s.path.accepted, a.t.master = m) → (∀ a ∈ s.path.accepted, a.t.master = m → ∀ ids, a.phase ≠ .held ids) →
      exec (.transferAcceptance m) s = .next (commit s { s with path := { counted with
        accepted := s.path.accepted ++ [{ id := x.id, t := x.t, stamp := s.path.now, phase := .answered fault [] }] } }))

/-- R131, step 2, and R139: an accepted transfer is held behind the queued own writes whose span it meets, and ready
when there is none. R133: while a transfer of a master is held, no later one of it is accepted. -/
def Obligations.AcceptedTransferReadyOrHeld : Prop :=
  (∀ (m : Fin 16) (s : State) (x : Arrived), PathLaw s → OutOfReset s →
    s.path.arrived.find? (fun y => decide (y.t.master = m)) = some x →
    x.t.master ≠ 15 → x.t.addr.toNat % 8 = 0 → x.t.addr.toNat % 4096 + 8 * x.t.payload.beats ≤ 4096 →
    (∀ a ∈ s.path.accepted, a.t.master = m → ∀ ids, a.phase ≠ .held ids) →
    let ids := (s.path.own.filter fun w => decide (x.t.addr.toNat < w.addr.toNat + 8 * w.beats.length
      ∧ w.addr.toNat < x.t.addr.toNat + 8 * x.t.payload.beats)).map (·.id)
    exec (.transferAcceptance m) s = .next (commit s { s with path := { s.path with
      arrived := s.path.arrived.filter fun y => decide (y.id ≠ x.id)
      accepted := s.path.accepted ++ [{ id := x.id, t := x.t, stamp := s.path.now,
                                        phase := if ids = [] then .ready else .held ids }]
      now := s.path.now + 1 } }))
  ∧ ∀ (m : Fin 16) (s : State), (∃ a ∈ s.path.accepted, a.t.master = m ∧ ∃ ids, a.phase = .held ids) →
    exec (.transferAcceptance m) s = .next s

/-- R131, step 3, R136 and R138: the ready transfer that arrived first is issued at its own address when it is a read, or
a write outside the lane windows and the command window; a read remembers which of its beats lie in the notice ring.
R133, R138: `firstReady` is the ready transfer of the smallest number, the first to arrive, and so never one behind another
of its master that is not issued. R136: `laneAt` names the lane whose window, (L + S) segments of B blocks from its base, an
address lies in. -/
def Obligations.PlainTransferIssued : Prop :=
  (∀ (s : State) (a : Accepted), OutOfReset s → firstReady s = some a →
    (waitingOwn s = none ∨ s.path.starvation < 8) →
    ((∃ n, a.t.payload = .read n) ∨ (∃ bs, a.t.payload = .write bs ∧ laneAt s a.t.addr.toNat = none ∧
      ∀ v, s.path.cmdBase = some v → beatsIn a.t.addr.toNat (cmdWindowBase v) 2048 bs = [])) →
    exec .forwardedIssue s = .next (commit s { s with path := { s.path with
      starvation := if waitingOwn s = none then 0 else s.path.starvation + 1
      accepted := s.path.accepted.map (fun x => if x.id = a.id then { x with phase := .issued (ringOffsets s a.t) } else x)
      memPort := s.path.memPort ++
        [{ own := false, id := a.id, master := a.t.master, addr := a.t.addr, payload := a.t.payload }] } }))
  ∧ (∀ s : State, PathLaw s → ∀ a, firstReady s = some a ↔ a ∈ s.path.accepted ∧ a.phase = .ready
    ∧ ∀ b ∈ s.path.accepted, b.phase = .ready → a.id ≤ b.id)
  ∧ ∀ (s : State) (addr : Nat),
    let inWindow (i : Fin 16) (m : Mapping) : Prop := (s.lane i).mapping = some m ∧ m.base.toNat ≤ addr
      ∧ addr < m.base.toNat + (m.logical + m.spares) * (m.blocks * 128)
    (laneAt s addr = none ↔ ∀ i m, ¬inWindow i m)
    ∧ (∀ i m, laneAt s addr = some (i, m) → inWindow i m)
    ∧ ∀ i m, inWindow i m → (∀ j x, inWindow j x → j = i) → laneAt s addr = some (i, m)

/-- R117, R118, R131: a write of a lane's master into its logical area goes out unchanged but for its address, which
lies at the same offset of the physical segment its logical segment maps to once the report (EntryServesHold) is taken;
no other lane is touched. What it does to its lane (R7 to R11, R14, R16) and so to the machine: a bad block is counted
and adds to the bad run, the eighth in a row faulting the lane (SilenceFaultsLane says what that does, R17); a good one
extends its segment's range (R119), sets the continuity record, ends the bad run and enters a queue with room with its
break mark, beginning its analysis when the queue was empty (IdleLaneAnalysis), or is SKIPPED by a full one, the bad run
standing (R11, R14: the model's reading, log 32); in FAULTED it adds to the good run, the sixteenth in a row bringing the
lane to its station state with LANE_RECOVERED and, for a vibration lane, a BLIND station to WAITING (R17, R56). In TEST it
is counted toward N, never beyond it (R22), the test ending when N is reached with the queue empty (R23, TestTimesOut);
that a block or GAP not offered leaves the generator unseeded from the next flagged block on is DEDUCED (log 15). Where the
fields of a block lie is that of 10.2, least significant byte first. -/
def Obligations.LaneWriteRedirected : Prop :=
  (∀ (s : State) (a : Accepted) (i : Fin 16) (m : Mapping) (bs : List Beat), SegmentLaw s → OutOfReset s →
    firstReady s = some a → (waitingOwn s = none ∨ s.path.starvation < 8) →
    a.t.payload = .write bs → laneAt s a.t.addr.toNat = some (i, m) → a.t.master = m.master →
    (a.t.addr.toNat - m.base.toNat) / (m.blocks * 128) < m.logical →
    let k := (a.t.addr.toNat - m.base.toNat) / (m.blocks * 128)
    ∃ t tb p, exec .forwardedIssue s = .next t ∧ (t.seg i).table = some tb ∧ tb.map[k]? = some p ∧ tb.position = some k
      ∧ t.path.memPort = s.path.memPort ++ [
          { own := false, id := a.id, master := m.master, payload := .write bs
            addr := BitVec.ofNat 32
              (m.base.toNat + p * (m.blocks * 128) + (a.t.addr.toNat - m.base.toNat) % (m.blocks * 128)) }]
      ∧ t.path.own = s.path.own ∧ t.path.arrived = s.path.arrived ∧ ∀ j, j ≠ i → t.lane j = s.lane j)
  ∧ (∀ (l : List Byte) (i : Nat), u8 l i = (l.getD i 0).toNat ∧ u16 l i = u8 l i + 256 * u8 l (i + 1)
    ∧ u32 l i = u16 l i + 65536 * u16 l (i + 2))
  ∧ (∀ l : List Byte, let d := blockData l
    d.sync = u8 l 0 ∧ d.laneId = u8 l 1 % 16 ∧ (d.overload = true ↔ u8 l 1 / 16 % 2 = 1)
    ∧ (d.testFlag = true ↔ u8 l 1 / 32 % 2 = 1) ∧ d.sequence.toNat = u16 l 2 ∧ d.first.toNat = u32 l 4
    ∧ d.samples.length = 60 ∧ ∀ n < 60, d.samples[n]? = some (BitVec.ofNat 16 (u16 l (8 + 2 * n))))
  ∧ ∀ (s : State) (a : Accepted) (i : Fin 16) (m : Mapping) (bs : List Beat), SegmentLaw s → OutOfReset s →
    firstReady s = some a → (waitingOwn s = none ∨ s.path.starvation < 8) →
    a.t.payload = .write bs → laneAt s a.t.addr.toNat = some (i, m) → a.t.master = m.master →
    let k := (a.t.addr.toNat - m.base.toNat) / (m.blocks * 128)
    k < m.logical →
    let d := blockData (bs.flatMap fun b => b.bytes.toList)
    let l := s.lane i
    let l0 : Lane := { l with silenceTimer := l.silenceTimer.map fun _ => 0 }
    let taken : Lane := { l0 with continuity := some (d.sequence, d.first), badRun := 0 }
    let counted : Lane := { l0 with badBlocks := min 65535 (l.badBlocks + 1) }
    let whole := bs.length = 16 ∧ a.t.addr.toNat % 128 = 0 ∧ ∀ b ∈ bs, ∀ x ∈ b.strobes.toList, x = true
    let named := whole ∧ d.sync = 0xA7 ∧ d.laneId = i.val
    let bad (r : FaultReason) : Prop := match r with
      | .torn => ¬whole
      | .sync => whole ∧ d.sync ≠ 0xA7
      | .laneId => whole ∧ d.sync = 0xA7 ∧ d.laneId ≠ i.val
      | .slip => named ∧ ∃ q f, l.continuity = some (q, f)
          ∧ (d.sequence = q ∨ d.first ≠ f + BitVec.ofNat 32 (60 * (d.sequence - q).toNat))
      | .silent => False
    let good (missing : Nat) : Prop := named ∧ (l.continuity = none ∧ missing = 0 ∨ ∃ q f, l.continuity = some (q, f)
      ∧ (d.sequence - q).toNat = missing + 1 ∧ d.first = f + BitVec.ofNat 32 (60 * (missing + 1)))
    let rep := reportWrite s i m k
    ∃ tb p, (rep.seg i).table = some tb ∧ tb.map[k]? = some p ∧ ((∃ r, bad r) ∨ ∃ g, good g) ∧
    let entry (missing : Nat) (unseed : Bool) : QueuedBlock :=
      { samples := d.samples, first := d.first, sequence := d.sequence, overload := d.overload, testFlag := d.testFlag,
        segment := p, breakMark := decide (0 < missing) || l.breakDue, unseed := unseed }
    let refused (x : Lane) : State := { rep with lanes := s.lanes.set i x }
    let stored (x : Lane) : State := { rep with
      lanes := s.lanes.set i x
      segs := rep.segs.set i { rep.seg i with table := some { tb with
        ranges := tb.ranges.set p (some (match tb.ranges.getD p none with
          | none => (d.first, d.first + 59)
          | some (b, _) => (b, d.first + 59))) } } }
    let issued (w : State) : Reply := .next (commit s { w with path := { s.path with
      starvation := if waitingOwn s = none then 0 else s.path.starvation + 1
      accepted := s.path.accepted.map (fun x => if x.id = a.id then { x with phase := .issued [] } else x)
      memPort := s.path.memPort ++ [
        { own := false, id := a.id, master := m.master, payload := .write bs
          addr := BitVec.ofNat 32
            (m.base.toNat + p * (m.blocks * 128) + (a.t.addr.toNat - m.base.toNat) % (m.blocks * 128)) }] } })
    let begun (x : Lane) : State := if l.queue = [] then beginBlock (stored x) i else stored x
    (l.state = .idle ∨ l.state = .settling ∨ l.state = .live →
      (∀ r, bad r → l.badRun + 1 < 8 →
        exec .forwardedIssue s = issued (refused { counted with badRun := l.badRun + 1 }))
      ∧ (∀ r, bad r → 8 ≤ l.badRun + 1 →
        exec .forwardedIssue s = issued (faultLane (refused { counted with badRun := l.badRun + 1 }) i r))
      ∧ (∀ g, good g → l.queue.length < 4 →
        exec .forwardedIssue s = issued (begun { taken with queue := l.queue ++ [entry g false], breakDue := false }))
      ∧ (∀ g, good g → 4 ≤ l.queue.length → exec .forwardedIssue s = issued (stored { taken with
          badRun := l.badRun, skipped := min 65535 (l.skipped + 1), breakDue := true })))
    ∧ (l.state = .faulted →
      (∀ r, bad r → exec .forwardedIssue s = issued (refused { counted with goodRun := 0 }))
      ∧ (∀ g, good g → l.goodRun + 1 < 16 →
        exec .forwardedIssue s = issued (stored { taken with goodRun := l.goodRun + 1 }))
      ∧ (∀ g, good g → 16 ≤ l.goodRun + 1 →
          let x := s.station m.station
          let st : LaneState := if x.state = .stopped then .idle
            else if m.role = .vibration ∨ l.detect.mode = .manual ∨ l.noiseValid = true then .live else .settling
          exec .forwardedIssue s = issued { stored { taken with
              goodRun := 0, faultReason := none, state := st, silenceTimer := if st = .idle then none else some 0
              settleCount := if st = .settling then 0 else l.settleCount, liveDue := false } with
            stations := if m.role = .vibration ∧ x.state = .blind then
              s.stations.set m.station { x with state := .waiting, quietTimer := some 0, measureRef := none }
              else s.stations
            notices := rep.notices.take
              { kind := .laneRecovered, station := m.station.val, lane := i.val, cell := 0xFFFF, cycle := x.cycle,
                time := l.horizon.getD 0, v1 := BitVec.ofNat 32 (reasonCode l.faultReason),
                v2 := BitVec.ofNat 32 l.badBlocks, v3 := BitVec.ofNat 32 l.skipped } }))
    ∧ ∀ x, l.state = .test → l.test = some x →
      let missed (g : Nat) : TestRun := { x with
        counted := x.counted + min g (x.blocks - x.counted)
        errors := min 16777215 (x.errors + 60 * min g (x.blocks - x.counted)) }
      let one (y : TestRun) (e : Nat) : TestRun := { y with counted := y.counted + 1, errors := min 16777215 (y.errors + e) }
      (∀ r, bad r → exec .forwardedIssue s = issued (testVerdict (refused { counted with
          test := some (if x.counted < x.blocks then { one x 60 with unseedDue := true } else x) }) i))
      ∧ (∀ g, good g → x.blocks ≤ x.counted + g →
        exec .forwardedIssue s = issued (testVerdict (stored { taken with test := some (missed g) }) i))
      ∧ (∀ g, good g → x.counted + g < x.blocks → d.testFlag = false → exec .forwardedIssue s =
        issued (testVerdict (stored { taken with test := some { one (missed g) 60 with unseedDue := true } }) i))
      ∧ (∀ g, good g → x.counted + g < x.blocks → d.testFlag = true → l.queue.length < 4 → exec .forwardedIssue s =
        issued (begun { taken with
          queue := l.queue ++ [entry g x.unseedDue], breakDue := false
          test := some { one (missed g) 0 with unseedDue := false } }))
      ∧ (∀ g, good g → x.counted + g < x.blocks → d.testFlag = true → 4 ≤ l.queue.length → exec .forwardedIssue s =
        issued (stored { taken with
          badRun := l.badRun, skipped := min 65535 (l.skipped + 1), breakDue := true, test := some (one (missed g) 60) }))

/-- R6, R130: a write into a lane window from another master, or from the lane's master into the spare area, goes out at
its own address and raises the foreign count, which stops at 65535. -/
def Obligations.ForeignWriteCounted : Prop :=
  ∀ (s : State) (a : Accepted) (i : Fin 16) (m : Mapping) (bs : List Beat), OutOfReset s →
    firstReady s = some a → (waitingOwn s = none ∨ s.path.starvation < 8) →
    a.t.payload = .write bs → laneAt s a.t.addr.toNat = some (i, m) →
    (a.t.master ≠ m.master ∨ m.logical ≤ (a.t.addr.toNat - m.base.toNat) / (m.blocks * 128)) →
    exec .forwardedIssue s = .next (commit s { s with
      lanes := s.lanes.set i { s.lane i with foreign := min 65535 ((s.lane i).foreign + 1) }
      path := { s.path with
        starvation := if waitingOwn s = none then 0 else s.path.starvation + 1
        accepted := s.path.accepted.map (fun x => if x.id = a.id then { x with phase := .issued [] } else x)
        memPort := s.path.memPort ++
          [{ own := false, id := a.id, master := a.t.master, addr := a.t.addr, payload := a.t.payload }] } })

/-- R117, R118: a report of a write into the logical segment of the write position changes nothing; one into another
logical segment is an entry: the write position becomes that segment, and the range of the segment written next is
restarted. R124, R125: an entry on which a PENDING hold waits swaps the lowest free segment in and makes the hold HELD
with its range frozen, or, with no free segment, loses the hold; either way one notice is handed on, with the fields of
R126. The issue of a
lane's write takes this report first, and holds, segments and notices are then as it leaves them but for what the block
does to its lane: LaneWriteRedirected gives that whole next state, and it is said here for a write that the lane refuses
below its eighth bad block in a row, and for a good one that finds a block queued (R119). -/
def Obligations.EntryServesHold : Prop :=
  (∀ (s : State) (i : Fin 16) (m : Mapping) (k : Nat) (t : SegTable), SegmentLaw s →
    (s.lane i).mapping = some m → (s.seg i).table = some t → k < m.logical →
    (t.position = some k → reportWrite s i m k = s)
    ∧ (∀ p, t.position ≠ some k → t.map[k]? = some p → (∀ h ∈ s.holds, h.lane = i → h.logical = k → h.state ≠ .pending) →
      reportWrite s i m k = { s with segs := s.segs.set i { s.seg i with
        table := some { t with position := some k, ranges := t.ranges.set p none } } })
    ∧ ∀ h, t.position ≠ some k → h ∈ s.holds → h.lane = i → h.logical = k → h.state = .pending →
      (∀ q free, t.free = q :: free →
        reportWrite s i m k = { s with
          segs := s.segs.set i { s.seg i with
            table := some { map := t.map.set k q, free := free, position := some k, ranges := t.ranges.set q none }
            held := (s.seg i).held + 1 }
          holds := s.holds.map (fun x => if x = h then { h with state := .held, range := t.ranges.getD h.segment none } else x)
          notices := s.notices.take (holdNotice s .holdTaken i m h h.segment (t.ranges.getD h.segment none)) })
      ∧ (t.free = [] →
        reportWrite s i m k = { s with
          segs := s.segs.set i { s.seg i with
            table := some { t with position := some k, ranges := t.ranges.set h.segment none } }
          holds := s.holds.filter fun x => decide (x ≠ h)
          notices := s.notices.take (holdNotice s .holdLost i m h h.segment (t.ranges.getD h.segment none)) }))
  ∧ (∀ (s : State) (kind : NoticeKind) (i : Fin 16) (m : Mapping) (h : HoldEntry) (p : Nat)
    (range : Option (SampleTime × SampleTime)),
    holdNotice s kind i m h p range =
      { kind := kind, station := m.station.val, lane := i.val, cycle := (s.station m.station).cycle
        time := (s.lane i).horizon.getD 0
        cell := match h.reason with | .event cell => cell | .command => 0xFFFF
        v1 := BitVec.ofNat 32 (m.base.toNat + p * (m.blocks * 128))
        v2 := match range with | some (first, _) => first | none => 0
        v3 := match range with | some (_, last) => last | none => 0 })
  ∧ ∀ (s : State) (a : Accepted) (i : Fin 16) (m : Mapping) (bs : List Beat), SegmentLaw s → OutOfReset s →
    firstReady s = some a → (waitingOwn s = none ∨ s.path.starvation < 8) →
    a.t.payload = .write bs → laneAt s a.t.addr.toNat = some (i, m) → a.t.master = m.master →
    let k := (a.t.addr.toNat - m.base.toNat) / (m.blocks * 128)
    k < m.logical → (s.lane i).state = .idle ∨ (s.lane i).state = .settling ∨ (s.lane i).state = .live →
    let u := reportWrite s i m k
    let d := blockData (bs.flatMap fun b => b.bytes.toList)
    ∃ t, exec .forwardedIssue s = .next t
      ∧ (bs.length ≠ 16 → (s.lane i).badRun < 7 → t.segs = u.segs ∧ t.holds = u.holds ∧ t.notices = u.notices)
      ∧ (bs.length = 16 → a.t.addr.toNat % 128 = 0 → (∀ b ∈ bs, ∀ x ∈ b.strobes.toList, x = true) → d.sync = 0xA7 → d.laneId = i.val → (s.lane i).continuity = none → (s.lane i).queue ≠ [] →
        t.holds = u.holds ∧ t.notices = u.notices ∧ (∀ j, j ≠ i → t.seg j = u.seg j)
        ∧ ∀ tb p, (u.seg i).table = some tb → tb.map[k]? = some p → t.seg i = { u.seg i with table := some { tb with
            ranges := tb.ranges.set p (some (match tb.ranges.getD p none with
              | none => (d.first, d.first + 59)
              | some (b, _) => (b, d.first + 59))) } })

/-- R131, step 4, R133 and R160: memory's answer to the oldest accepted transfer of a master is returned at once, and with
it, in order, the answers that wait behind it up to the first transfer that has none; each DONE read of the notice ring
consumes as it is returned (log 10, DEDUCED). Behind an earlier transfer that is not answered a response waits. R160: of the
unconsumed entries that the read covers by its beat 3, at ring offset 32j + 24, and whose writes were handed on before the
read was accepted, the one furthest from c and every entry before it are consumed, none when there is no such entry; c
and u follow, and the overrun flag clears when an OVERRUN is among them and the discarded count is 0. -/
def Obligations.ResponseReturnedInOrder : Prop :=
  (∀ (s : State) (id : Nat) (ans : Answer) (a : Accepted) (ring : List Nat), PathLaw s → OutOfReset s →
    ans.data.length ≤ 16 → a ∈ s.path.accepted → a.id = id → a.phase = .issued ring →
    (∀ (behind : List (Accepted × Answer × List Nat)) (rest : List Accepted),
      (s.path.accepted.filter fun x => decide (x.t.master = a.t.master)) = a :: behind.map (·.1) ++ rest →
      (∀ x ∈ behind, x.1.phase = .answered x.2.1 x.2.2) → (∀ y ∈ rest.head?, y.unanswered = true) →
      let returned := (a, ans, ring) :: behind
      exec (.forwardedResponse id ans) s = .next (commit s { s with
        path := { s.path with
          accepted := s.path.accepted.filter fun x => !returned.any fun y => decide (y.1.id = x.id)
          masterPort := s.path.masterPort ++
            returned.map fun x => { id := x.1.id, master := a.t.master, answer := x.2.1 } }
        notices := returned.foldl (fun w x => match x.2.1.resp, w.ring with
          | .done, some r => w.consume r.entries (consumedCount w r.entries x.2.2 x.1.stamp)
          | _, _ => w) s.notices }))
    ∧ (∀ b, oldestOf s a.t.master = some b → b.id ≠ id →
      exec (.forwardedResponse id ans) s = .next (commit s { s with path := { s.path with
        accepted := s.path.accepted.map fun x => if x.id = id then { x with phase := .answered ans ring } else x } })))
  ∧ (∀ (w : NoticeWriter) (entries : Nat) (offsets : List Nat) (accepted : Nat),
    let n := consumedCount w entries offsets accepted
    let covered (j : Nat) : Prop :=
      ∃ e, w.unconsumed[j]? = some e ∧ e.stamp < accepted ∧ 32 * ((w.c + j) % entries) + 24 ∈ offsets
    (∀ j, covered j → j < n) ∧ (n = 0 ∨ covered (n - 1)))
  ∧ ∀ (w : NoticeWriter) (entries n : Nat),
    w.consume entries 0 = w
    ∧ (0 < n → w.consume entries n = { w with
      unconsumed := w.unconsumed.drop n, u := w.u - n, c := (w.c + n) % entries
      overrun := if (∃ e ∈ w.unconsumed.take n, e.overrun = true) ∧ w.discarded = 0 then false else w.overrun })

/-- R138: with no ready forwarded transfer, or with the starvation count at 8, the waiting own write goes out as
master 15 and is ISSUED, and the starvation count returns to 0. -/
def Obligations.OwnWriteIssued : Prop :=
  ∀ (s : State) (w : OwnWrite), OutOfReset s → waitingOwn s = some w → (firstReady s = none ∨ s.path.starvation = 8) →
    exec .ownWriteIssue s = .next (commit s { s with path := { s.path with
      own := s.path.own.map (fun x => if x.id = w.id then { x with issued := true } else x)
      starvation := 0
      memPort := s.path.memPort ++ [{ own := true, id := w.id, master := 15, addr := w.addr, payload := .write w.beats }] } })

/-- R140, R150, R162: the response to a trailer or to a notice write removes the entry and releases the transfers it
held; a FAULT counts a failed outcome write, or puts the notice writer in WRITE_FAULT when the write was handed on since
the latest Set Notice Ring. R150: after any own write's response a FINISHING command no longer awaits it, and one that
awaited it alone joins the completion list, a Copy Map with the count of its writes answered DONE (R114); the order of
several is the model's choice (log 35). -/
def Obligations.OwnWriteAnswered : Prop :=
  (∀ (s : State) (w : OwnWrite) (r : Response), PathLaw s → OutOfReset s → w ∈ s.path.own → w.issued = true →
    (w.producer = .commandUnit →
      exec (.ownWriteResponse w.id r) s = .next (commit s (settleAwaiting { s with
        path := answered s.path w
        cmd := { s.cmd with outcomeFaults :=
          if r = .fault then min 65535 (s.cmd.outcomeFaults + 1) else s.cmd.outcomeFaults } } w.id)))
    ∧ (∀ current, w.producer = .noticeWriter current →
      exec (.ownWriteResponse w.id r) s = .next (commit s (settleAwaiting { s with
        path := answered s.path w
        notices := { s.notices with
          state := if current = true ∧ r = .fault then .writeFault else s.notices.state } } w.id))))
  ∧ ∀ (u : State) (id : Nat),
    let detail (slot : Fin 32) (given : BitVec 16) : BitVec 16 :=
      match u.cmd.copies.find? (fun x => decide (x.slot = slot)) with
      | some x => BitVec.ofNat 16 x.done
      | none => given
    settleAwaiting u id = { u with cmd := { u.cmd with
      queue := u.cmd.queue.map fun c => match c.state with
        | .finishing r d ids => { c with state := .finishing r d (ids.filter fun n => decide (n ≠ id)) }
        | _ => c
      completions := u.cmd.completions ++ u.cmd.queue.filterMap fun c => match c.state with
        | .finishing r d ids => if id ∈ ids ∧ ∀ n ∈ ids, n = id then
            some { slot := c.slot, bytes := c.bytes, result := r, detail := detail c.slot d } else none
        | _ => none } }

/-- R140: a response for no issued transfer is discarded. -/
def Obligations.StrayResponseDiscarded : Prop :=
  ∀ (a : Answer) (s : State), a.data.length ≤ 16 → exec (.strayResponse a) s = .next s

/-- R141, R134, R169: at the assertion of RESET_N every block takes its hardware-reset values; what the masters present,
the record of the ports, the moment, the free index and the queue of commands are kept (logs 1, 5, 8, 9). At its release
the straps are sampled and place the 2 KiB command window at their value times 16 MiB, below 2^32; local time starts
from 0. -/
def Obligations.ResetPin : Prop :=
  (∀ s : State, OutOfReset s →
    exec .resetNAssertion s = .next { State.reset with
      path := { Path.reset with arrived := s.path.arrived, memPort := s.path.memPort, masterPort := s.path.masterPort,
                                now := s.path.now }
      freeIndex := s.freeIndex, pending := s.pending })
  ∧ ∀ (straps : BitVec 8) (s : State), s.path.resetLow = true →
    exec (.resetNRelease straps) s = .next { s with path := { s.path with resetLow := false, cmdBase := some straps }, localTime := 0 }
    ∧ cmdWindowBase straps = straps.toNat * 16777216 ∧ cmdWindowBase straps + 2048 < 4294967296

/-- R145, R155: a submission into a FREE slot queues the shadow's bytes 0 to 55, or is refused TAG_IN_USE with detail 0
when a command of the queue carries the tag; into an occupied slot it is ignored and counted; during a Restart it is
ignored and not counted. -/
def Obligations.SubmissionTaken : Prop :=
  ∀ (s : State) (slot : Fin 32),
    let r : CmdBytes := Vector.ofFn fun i : Fin 56 => (s.cmd.shadows.get slot).toList.getD i.val 0
    let busy := (∃ c ∈ s.cmd.queue, c.slot = slot) ∨ (∃ c ∈ s.cmd.completions, c.slot = slot)
    let tagged := ∃ c ∈ s.cmd.queue, tagOf c.bytes = tagOf r
    (s.cmd.restart = none → ¬busy → ¬tagged →
      submit s slot = { s with cmd := { s.cmd with queue := s.cmd.queue ++ [{ slot := slot, bytes := r, state := .queued }] } })
    ∧ (s.cmd.restart = none → ¬busy → tagged →
      submit s slot = { s with cmd := { s.cmd with completions := s.cmd.completions ++
        [{ slot := slot, bytes := r, result := .tagInUse, detail := 0 }] } })
    ∧ (s.cmd.restart = none → busy →
      submit s slot = { s with cmd := { s.cmd with ignored := min 65535 (s.cmd.ignored + 1) } })
    ∧ (s.cmd.restart ≠ none → submit s slot = s)

/-- R131, R143, R144: a one-beat write into slot `n` of the command window goes out at its own address, its strobed bytes
enter the slot's shadow, and it submits the slot when it carries byte 56 with a nonzero value. A write of any number of
beats outside the lane windows applies each beat that lies in the window before its submissions are taken, which go in
ascending slot order; beats beyond the window do nothing here. -/
def Obligations.CommandWindowCaptured : Prop :=
  (∀ (s : State) (a : Accepted) (v : BitVec 8) (n : Fin 32) (j : Fin 8) (b : Beat), OutOfReset s →
    firstReady s = some a → (waitingOwn s = none ∨ s.path.starvation < 8) →
    a.t.payload = .write [b] → laneAt s a.t.addr.toNat = none → s.path.cmdBase = some v →
    a.t.addr.toNat = cmdWindowBase v + 64 * n.val + 8 * j.val →
    let u : State := { s with
      cmd := { s.cmd with shadows := s.cmd.shadows.set n ((s.cmd.shadows.get n).mapIdx fun i old =>
        if 8 * j.val ≤ i ∧ i < 8 * j.val + 8 ∧ b.strobes.toList.getD (i - 8 * j.val) false = true then
          b.bytes.toList.getD (i - 8 * j.val) 0 else old) }
      path := { s.path with
        starvation := if waitingOwn s = none then 0 else s.path.starvation + 1
        accepted := s.path.accepted.map (fun x => if x.id = a.id then { x with phase := .issued [] } else x)
        memPort := s.path.memPort ++
          [{ own := false, id := a.id, master := a.t.master, addr := a.t.addr, payload := a.t.payload }] } }
    exec .forwardedIssue s = .next (commit s
      (if j.val = 7 ∧ b.strobes.toList.getD 0 false = true ∧ b.bytes.toList.getD 0 0 ≠ 0 then submit u n else u)))
  ∧ ∀ (s : State) (a : Accepted) (v : BitVec 8) (bs : List Beat), OutOfReset s → firstReady s = some a →
    (waitingOwn s = none ∨ s.path.starvation < 8) → a.t.payload = .write bs → laneAt s a.t.addr.toNat = none →
    s.path.cmdBase = some v → a.t.addr.toNat % 8 = 0 →
    let place (n i : Nat) : Nat := cmdWindowBase v + 64 * n + 8 * (i / 8)
    ∃ shadows : Vector (Vector Byte 64) 32,
      (∀ (n : Fin 32) (i : Fin 64),
        (∀ j b, bs[j]? = some b → a.t.addr.toNat + 8 * j = place n.val i.val → (shadows.get n).get i =
          if b.strobes.toList.getD (i % 8) false = true then b.bytes.toList.getD (i % 8) 0 else (s.cmd.shadows.get n).get i)
        ∧ ((∀ j, j < bs.length → a.t.addr.toNat + 8 * j ≠ place n.val i.val) →
          (shadows.get n).get i = (s.cmd.shadows.get n).get i))
      ∧ exec .forwardedIssue s = .next (commit s (((List.finRange 32).filter fun n : Fin 32 => (List.range bs.length).any fun j =>
          decide (a.t.addr.toNat + 8 * j = place n.val 56) && (match bs[j]? with
            | some b => b.strobes.toList.getD 0 false && decide (b.bytes.toList.getD 0 0 ≠ 0)
            | none => false)).foldl submit
        { s with
          cmd := { s.cmd with shadows := shadows }
          path := { s.path with
            starvation := if waitingOwn s = none then 0 else s.path.starvation + 1
            accepted := s.path.accepted.map (fun x => if x.id = a.id then { x with phase := .issued [] } else x)
            memPort := s.path.memPort ++
              [{ own := false, id := a.id, master := a.t.master, addr := a.t.addr, payload := a.t.payload }] } }))

/-! ### Lanes (chapters 1 and 2) -/

/-- R12, R19, R26, R30, R31: the end of the analysis of an IDLE AE lane's only queued block: offset, noise window and
horizon advance, the block leaves the queue, no hit is found. R29, R34, R36 to R43: in SETTLING or LIVE the same, a block
that began in LIVE going through the detector (HitRecordRanges) under the threshold set at its beginning; the hits that
close are handed on in order before the horizon moves, and the forming pass runs if it does (R70). That the block is
judged for becoming LIVE by the threshold mode in force for it is DEDUCED (log 14). With blocks behind it the next
analysis begins, and a beginning does this (R27, R33 to R35, R37, R40, R45): state, settle count, window, threshold,
offset and the settings in force are set, and a hit cut by the break mark or by a return to SETTLING closes TRUNCATED and
is handed on, before the block's overload flag acts (the model's choice, log 34); such a return also ends a rearm (the
model's choice, log 37), and neither it nor a rise to LIVE restarts the silence timer (DEDUCED, log 13). When the block
analysed was the queue's only one, no analysis begins. A vibration lane's block begins with its offset and settings
alone, a block of a lane in TEST with the lane's state. -/
def Obligations.IdleLaneAnalysis : Prop :=
  (∀ (s : State) (i : Fin 16) (m : Mapping) (r : Fin 6) (b : QueuedBlock) (rest : List QueuedBlock), OutOfReset s →
    (s.lane i).mapping = some m → m.role = .ae r → (s.lane i).queue = b :: rest → (s.lane i).used.state ≠ .test →
    let k := m.station
    let l := s.lane i
    let mags := b.samples.map fun x => min 32767 (clampInt (-32768) 32767 (x.toInt - l.offset)).natAbs
    let level := mags.sum / 60
    let offset := match l.used.offsetMode with
      | .track => clampInt (-l.used.offsetRange) l.used.offsetRange
          (l.offset + (((b.samples.map BitVec.toInt).sum.tdiv 60) - l.offset).tdiv 16)
      | .fixed => l.offset
    let still := l.used.detect.source = .any ∨ (s.station k).state = .stopped
      ∨ (s.station k).state = .waiting ∨ (s.station k).state = .pressIdle
    let h := b.first + 59 + BitVec.ofInt 32 l.used.trim
    let horizon := match l.horizon with
      | none => h
      | some o => if 1 ≤ (h - o).toNat ∧ (h - o).toNat ≤ 2147483647 then h else o
    let after (hitFree : Bool) : Lane :=
      let quiet := hitFree = true ∧ still
      let nq := l.winQuiet + if quiet then 1 else 0
      let sum := if quiet then min 4294967295 (l.winSum + level) else l.winSum
      let full := l.used.detect.windowLength ≤ l.winBlocks + 1
      let valid := full ∧ l.used.detect.windowLength ≤ 4 * nq
      { l with
        queue := rest, liveDue := false, offset := offset
        winBlocks := if full then 0 else l.winBlocks + 1
        winQuiet := if full then 0 else nq
        winSum := if full then 0 else sum
        noise := if valid then sum / nq else l.noise
        noiseValid := if valid then true else l.noiseValid }
    (l.state = .idle → l.used.state = .idle → exec (.blockAnalysisEnd i) s = .next (commit s
      (beginBlock { s with lanes := s.lanes.set i { after true with horizon := some horizon } } i)))
    ∧ (l.state = .settling ∨ l.state = .live →
      let held : DetectRun := { state := l.detector, hit := l.hit, rearm := l.rearmCount, closed := [], hitFree := true }
      let run : DetectRun := match l.threshold with
        | some t => if l.used.state = LaneState.live then
            detectAll { lane := i, role := r, threshold := t, deadTime := l.used.detect.deadTime,
                        rearmTime := l.used.detect.rearmTime, segment := b.segment, overload := b.overload }
              held (b.first + BitVec.ofInt 32 l.used.trim) mags else held
        | none => held
      let settle := if l.used.state = .settling ∧ l.used.detect.mode = .manual then min 16 (l.settleCount + 1)
        else l.settleCount
      let l1 : Lane := { after run.hitFree with
        detector := run.state, hit := run.hit, rearmCount := run.rearm, settleCount := settle }
      let l2 : Lane := { l1 with
        liveDue := decide (l.state = .settling) && (match l.used.detect.mode with
          | .auto => l1.noiseValid
          | .manual => decide (settle = 16)) }
      let u := run.closed.foldl (fun s h => handHit s k h) { s with lanes := s.lanes.set i l2 }
      let v : State := { u with lanes := u.lanes.set i { l2 with horizon := some horizon } }
      exec (.blockAnalysisEnd i) s = .next (commit s
        (beginBlock (if some horizon = l.horizon then v else formingPass v k) i))))
  ∧ (∀ (s : State) (i : Fin 16), (s.lane i).queue = [] → beginBlock s i = s)
  ∧ (∀ (s : State) (i : Fin 16) (m : Mapping) (r : Fin 6) (b : QueuedBlock) (rest : List QueuedBlock),
    (s.lane i).mapping = some m → m.role = .ae r → (s.lane i).queue = b :: rest →
    ((s.lane i).state = .idle ∨ (s.lane i).state = .settling ∨ (s.lane i).state = .live) →
    let l := s.lane i
    let risen : LaneState := if l.state = .settling ∧ l.liveDue = true then .live else l.state
    let st : LaneState := if risen = .live ∧ l.detect.mode = .auto ∧ l.noiseValid = false then .settling else risen
    let same := l.detect.windowLength = l.used.detect.windowLength ∧ l.detect.source = l.used.detect.source
    let cut := b.breakMark = true ∨ l.state = .live ∧ st = .settling
    let l1 : Lane := { l with
      state := st, liveDue := false
      settleCount := if l.detect.mode = .auto ∨ st = .settling ∧ l.state = .live then 0 else l.settleCount
      winBlocks := if same then l.winBlocks else 0
      winQuiet := if same then l.winQuiet else 0
      winSum := if same then l.winSum else 0
      threshold := match l.detect.mode with
        | .manual => some (max 16 (min 32767 l.detect.manual))
        | .auto => if l.noiseValid = true then
            some (max 16 (min 32767 (l.noise * l.detect.gain / 8 + l.detect.thresholdOffset))) else none
      offset := match l.offsetMode with
        | .fixed => l.fixedOffset
        | .track => clampInt (-l.offsetRange) l.offsetRange l.offset
      used := { state := st, trim := l.trim, offsetMode := l.offsetMode, offsetRange := l.offsetRange,
                fixedOffset := l.fixedOffset, detect := l.detect }
      detector := if cut then .armed else l.detector
      hit := if cut then none else l.hit.map fun h => { h with overloadSeen := h.overloadSeen || b.overload }
      rearmCount := if cut then 0 else l.rearmCount }
    beginBlock s i = (match l.hit with
      | some h => if cut then handHit { s with lanes := s.lanes.set i l1 } m.station (h.close i r true false)
          else { s with lanes := s.lanes.set i l1 }
      | none => { s with lanes := s.lanes.set i l1 }))
  ∧ ∀ (s : State) (i : Fin 16) (m : Mapping) (b : QueuedBlock) (rest : List QueuedBlock),
    (s.lane i).mapping = some m → (s.lane i).queue = b :: rest →
    let l := s.lane i
    (l.state = .test → beginBlock s i = { s with lanes := s.lanes.set i { l with used := { l.used with state := .test } } })
    ∧ (m.role = .vibration → l.state = .idle ∨ l.state = .settling ∨ l.state = .live →
      beginBlock s i = { s with lanes := s.lanes.set i { l with
        offset := match l.offsetMode with
          | .fixed => l.fixedOffset
          | .track => clampInt (-l.offsetRange) l.offsetRange l.offset
        used := { state := l.state, trim := l.trim, offsetMode := l.offsetMode, offsetRange := l.offsetRange,
                  fixedOffset := l.fixedOffset, detect := l.detect }
        detector := if b.breakMark = true then .armed else l.detector
        hit := if b.breakMark = true then none else l.hit.map fun h => { h with overloadSeen := h.overloadSeen || b.overload }
        rearmCount := if b.breakMark = true then 0 else l.rearmCount } })

/-- R36 to R41: whatever the samples of a block, a hit record that the detector closes by dead time or by length names
the lane and role, is not TRUNCATED, and has its peak, rise, duration, crossings and energy in the ranges of R41, the
duration being 65535 for a LONG hit alone and the rise never more than the duration. A hit in progress at the block's
beginning has its times in order: arrival, peak time, last time, the block's first sample. What one sample does: in ARMED
it opens a hit when its magnitude reaches the threshold (R36); in OPEN it is taken, or begins the trail with its energy
pending; in TRAILING it reopens the hit, the pending energy joining, or counts below and closes the hit at the dead time
(R37, R38); a taken sample that brings the duration to 65535 closes it LONG (R39); a close begins the rearm, each sample
of which counts down to ARMED, at once for a rearm time of 0 (R38). A block is hit-free when it was ARMED for all of them
(R30). The record made at a close is SATURATED at a peak of 32767 or after an overload flag (R42). -/
def Obligations.HitRecordRanges : Prop :=
  (∀ (c : BlockContext) (r : DetectRun) (t : SampleTime) (mags : List Nat) (x : Hit),
    16 ≤ c.threshold → mags.length ≤ 60 → (∀ m ∈ mags, m ≤ 32767) → r.closed = [] →
    (∀ h, r.hit = some h → 16 ≤ h.peak ∧ h.peak ≤ 32767 ∧ 1 ≤ h.crossings ∧ h.crossings ≤ 255 ∧ 1 ≤ h.energy
      ∧ h.energy ≤ 4294967295 ∧ 0 ≤ signedDiff h.peakTime h.arrival
      ∧ signedDiff h.peakTime h.arrival ≤ signedDiff h.last h.arrival ∧ signedDiff h.last h.arrival + 1 < 65535
      ∧ 1 ≤ signedDiff t h.last ∧ signedDiff t h.last ≤ 65535) →
    x ∈ (detectAll c r t mags).closed →
    x.lane = c.lane ∧ x.role = c.role ∧ x.truncated = false ∧ 16 ≤ x.peak ∧ x.peak ≤ 32767 ∧ 1 ≤ x.crossings
      ∧ x.crossings ≤ 255 ∧ 1 ≤ x.energy ∧ x.energy ≤ 4294967295 ∧ 0 ≤ x.rise ∧ x.rise ≤ 65535 ∧ 1 ≤ x.duration
      ∧ x.duration ≤ 65535 ∧ x.rise ≤ x.duration ∧ (x.long = true ↔ x.duration = 65535))
  ∧ (∀ (c : BlockContext) (r : DetectRun) (t : SampleTime) (m : Nat) (rest : List Nat),
    let e := (m / 16) * (m / 16)
    let took (h : HitInProgress) (energy : Nat) : HitInProgress := { h with
      energy := min 4294967295 (energy + e), last := t, peak := max h.peak m
      peakTime := if h.peak < m then t else h.peakTime }
    let closing (x : Hit) : DetectRun := { r with
      state := if c.rearmTime = 0 then .armed else .rearm, rearm := c.rearmTime, hit := none
      closed := r.closed ++ [x], hitFree := false }
    let held (st : DetectorState) (h : HitInProgress) : DetectRun := { r with state := st, hit := some h, hitFree := false }
    detectAll c r t (m :: rest) = detectAll c (detectSample c r t m) (t + 1) rest
    ∧ (r.state = .armed → m < c.threshold → detectSample c r t m = r)
    ∧ (r.state = .armed → c.threshold ≤ m → detectSample c r t m = held .opened
        { arrival := t, peak := m, peakTime := t, last := t, crossings := 1, energy := e, pending := 0, below := 0,
          segment := c.segment, overloadSeen := c.overload })
    ∧ (∀ h, r.state = .opened → r.hit = some h →
      (c.threshold ≤ m → signedDiff t h.arrival + 1 < 65535 → detectSample c r t m = held .opened (took h h.energy))
      ∧ (c.threshold ≤ m → 65535 ≤ signedDiff t h.arrival + 1 →
        detectSample c r t m = closing ((took h h.energy).close c.lane c.role false true))
      ∧ (m < c.threshold → detectSample c r t m = held .trailing { h with below := 1, pending := e }))
    ∧ (∀ h, r.state = .trailing → r.hit = some h →
      let again : HitInProgress := { took h (min 4294967295 (h.energy + h.pending)) with
        crossings := min 255 (h.crossings + 1), pending := 0, below := 0 }
      (c.threshold ≤ m → signedDiff t h.arrival + 1 < 65535 → detectSample c r t m = held .opened again)
      ∧ (c.threshold ≤ m → 65535 ≤ signedDiff t h.arrival + 1 →
        detectSample c r t m = closing (again.close c.lane c.role false true))
      ∧ (m < c.threshold → h.below + 1 < c.deadTime → detectSample c r t m = held .trailing
          { h with below := h.below + 1, pending := min 4294967295 (h.pending + e) })
      ∧ (m < c.threshold → c.deadTime ≤ h.below + 1 →
        detectSample c r t m = closing (h.close c.lane c.role false false)))
    ∧ (r.state = .rearm → detectSample c r t m = { r with
        state := if r.rearm ≤ 1 then .armed else .rearm, rearm := r.rearm - 1, hitFree := false }))
  ∧ ∀ (h : HitInProgress) (lane : Fin 16) (role : Fin 6) (truncated long : Bool),
    0 ≤ signedDiff h.peakTime h.arrival → 0 ≤ signedDiff h.last h.arrival →
    h.close lane role truncated long =
      { lane := lane, role := role, arrival := h.arrival, peak := h.peak
        rise := min 65535 (signedDiff h.peakTime h.arrival).toNat
        duration := if long = true then 65535 else (signedDiff h.last h.arrival + 1).toNat
        crossings := h.crossings, energy := h.energy, segment := h.segment, truncated := truncated, long := long
        saturated := decide (h.peak = 32767 ∨ h.overloadSeen = true) }

/-- R15, R16, R17, R40, R55: a SETTLING or LIVE lane whose silence timer has reached its nonzero limit enters FAULTED with
the reason SILENT, and no other lane changes. What entering FAULTED does, for any reason: the lane record is reset as R16
gives and LANE_FAULT is handed on. An AE lane first closes a hit in progress TRUNCATED and hands it on, and its leaving
the horizon set runs the forming pass (R70). A vibration lane takes its WAITING or PRESS_IDLE station to BLIND,
LANE_FAULT handed on before VIBRATION_LOST; in COMPACTING or TAILING the open cycle also ends INCOMPLETE, at the lane's
horizon or, where that is absent or earlier, at its own start, and the forming pass runs when it is the queue's head; a
STOPPED or BLIND station stays as it is. The spec orders LANE_FAULT and VIBRATION_LOST alone; their order against the crack
map's notices, of the hit handed on or of the forming pass, is the model's choice (log 19). -/
def Obligations.SilenceFaultsLane : Prop :=
  (∀ (s : State) (i : Fin 16) (m : Mapping) (n : Nat), OutOfReset s → (s.lane i).mapping = some m →
    ((s.lane i).state = .settling ∨ (s.lane i).state = .live) → 0 < (s.lane i).silenceLimit →
    (s.lane i).silenceTimer = some n → (s.lane i).silenceLimit * 1000 ≤ n →
    let t := commit s (faultLane s i .silent)
    exec (.silenceTimeout i) s = .next t
    ∧ t.lane i = { s.lane i with
        state := .faulted, faultReason := some .silent, continuity := none, badRun := 0, goodRun := 0,
        silenceTimer := none, queue := [], breakDue := true, detector := .armed, hit := none, rearmCount := 0 }
    ∧ (∀ j, j ≠ i → t.lane j = s.lane j) ∧ t.path.own = s.path.own ∧ t.cmd = s.cmd)
  ∧ ∀ (s : State) (i : Fin 16) (m : Mapping) (reason : FaultReason), (s.lane i).mapping = some m →
    let k := m.station
    let l0 := s.lane i
    let still : Lane := { l0 with detector := .armed, hit := none, rearmCount := 0 }
    let l : Lane := { still with
      state := .faulted, faultReason := some reason, continuity := none, badRun := 0, goodRun := 0,
      silenceTimer := none, queue := [], breakDue := true }
    let code : BitVec 32 := match reason with | .sync => 1 | .laneId => 2 | .slip => 3 | .torn => 4 | .silent => 5
    let fault (u : State) : Notice :=
      { kind := .laneFault, station := k.val, lane := i.val, cell := 0xFFFF, cycle := (u.station k).cycle,
        time := l0.horizon.getD 0, v1 := code, v2 := BitVec.ofNat 32 l0.badBlocks, v3 := BitVec.ofNat 32 l0.skipped }
    let told (u : State) : State := { u with lanes := u.lanes.set i l, notices := u.notices.take (fault u) }
    (∀ r, m.role = .ae r →
      let left (u : State) : State :=
        if l0.state = .settling ∨ l0.state = .live then formingPass (told u) k else told u
      (l0.hit = none → faultLane s i reason = left s)
      ∧ (∀ h, l0.hit = some h → faultLane s i reason =
          left (handHit { s with lanes := s.lanes.set i still } k (h.close i r true false)))
      ∧ (l0.hit = none → (s.station k).pool = [] → (s.station k).boundary = [] → faultLane s i reason = told s))
    ∧ (m.role = .vibration →
      let x := s.station k
      let lost (closing : Nat) : Notice :=
        { kind := .vibrationLost, station := k.val, cell := 0xFFFF, cycle := x.cycle, time := l0.horizon.getD 0,
          lane := match s.vibrationLane k with | some v => v.val | none => 255
          v1 := code, v2 := BitVec.ofNat 32 closing, v3 := BitVec.ofNat 32 (x.period.getD 0) }
      let blind (boundary : List CycleRecord) (closing : Nat) : State := { told s with
        stations := s.stations.set k { x with
          state := .blind, quietTimer := none, tail := 0, period := none, rejectRun := 0, history := [],
          measureRef := none, prevSample := none, primed := false, boundary := boundary }
        notices := (s.notices.take (fault s)).take (lost closing) }
      (x.state = .stopped ∨ x.state = .blind → faultLane s i reason = told s)
      ∧ (x.state = .waiting ∨ x.state = .pressIdle → faultLane s i reason = blind x.boundary 0)
      ∧ (∀ front r, x.state = .compacting ∨ x.state = .tailing → x.boundary = front ++ [r] →
        let e := match l0.horizon with | none => r.start | some h => if later r.start h = true then r.start else h
        let u := blind (front ++ [{ r with finish := some e, incomplete := true }]) 1
        faultLane s i reason = if front = [] then formingPass u k else u))

/-- R23: a pattern test below its N blocks whose time-out has run out ends TIMEOUT: the last-test record takes its
counts, the lane is IDLE with its queue discarded, and the command is decided with detail 0. R21, R22: the end of the
analysis of a flagged block checks its samples, from an unseeded generator after a break or where one is due, the moment
of the latter being DEDUCED (in the order of the stream: log 15); with N blocks counted and none left in the queue the
test ends PASS, or FAIL above its threshold, with the clamped fields as the detail, and otherwise goes on with the errors
added, the next block's analysis beginning. The verdict is the same wherever it is made (R22). An unseeded generator takes
the first sample whose low 15 bits are not zero; a seeded one counts an error for a sample that it does not predict, and
its register takes the low 15 bits of the predicted one. R21: a prediction is the output of sixteen steps, the first in
the most significant place; a step's output, bit 14 xor bit 13, is shifted in at bit 0. -/
def Obligations.TestTimesOut : Prop :=
  (∀ (s : State) (i : Fin 16) (r : TestRun) (c : Cmd), CommandLaw s → OutOfReset s →
    (s.lane i).state = .test → (s.lane i).test = some r → r.counted < r.blocks → r.timeoutUs ≤ r.elapsed →
    c ∈ s.cmd.queue → c.slot = r.slot → (∀ x ∈ s.cmd.copies, x.slot ≠ r.slot) →
    exec (.testTimeout i) s = .next (commit s { s with
      lanes := s.lanes.set i { s.lane i with
        state := .idle, test := none, queue := [], breakDue := true, badRun := 0, goodRun := 0,
        lastTest := { result := .timeout, errors := r.errors, counted := r.counted } }
      cmd := ended s.cmd c .timeout 0 }))
  ∧ (∀ (s : State) (i : Fin 16) (m : Mapping) (r : TestRun) (b : QueuedBlock) (rest : List QueuedBlock), OutOfReset s →
    (s.lane i).mapping = some m → (s.lane i).used.state = .test → (s.lane i).test = some r →
    (s.lane i).queue = b :: rest →
    let g := checkSamples (if b.breakMark = true ∨ b.unseed = true then none else r.generator) b.samples 0
    let e := min 16777215 (r.errors + g.2)
    (r.counted < r.blocks ∨ rest ≠ [] → exec (.blockAnalysisEnd i) s = .next (commit s (beginBlock { s with
      lanes := s.lanes.set i { s.lane i with queue := rest, test := some { r with generator := g.1, errors := e } } } i)))
    ∧ ∀ c, CommandLaw s → r.blocks ≤ r.counted → rest = [] → c ∈ s.cmd.queue → c.slot = r.slot →
      (∀ x ∈ s.cmd.copies, x.slot ≠ r.slot) →
      exec (.blockAnalysisEnd i) s = .next (commit s { s with
        lanes := s.lanes.set i { s.lane i with
          state := .idle, test := none, queue := [], breakDue := true, badRun := 0, goodRun := 0,
          lastTest := { result := if e ≤ r.limit then .pass else .fail, errors := e, counted := r.counted } }
        cmd := ended s.cmd c (if e ≤ r.limit then .pass else .fail) (BitVec.ofNat 16 r.clampedFields) }))
  ∧ (∀ (s : State) (i : Fin 16) (r : TestRun) (c : Cmd), CommandLaw s → (s.lane i).test = some r →
    (r.counted < r.blocks ∨ (s.lane i).queue ≠ [] → testVerdict s i = s)
    ∧ (r.blocks ≤ r.counted → (s.lane i).queue = [] → c ∈ s.cmd.queue → c.slot = r.slot →
      (∀ x ∈ s.cmd.copies, x.slot ≠ r.slot) →
      testVerdict s i = { s with
        lanes := s.lanes.set i { s.lane i with
          state := .idle, test := none, breakDue := true, badRun := 0, goodRun := 0,
          lastTest := { result := if r.errors ≤ r.limit then .pass else .fail, errors := r.errors, counted := r.counted } }
        cmd := ended s.cmd c (if r.errors ≤ r.limit then .pass else .fail) (BitVec.ofNat 16 r.clampedFields) }))
  ∧ (∀ g : BitVec 15, ∃ (reg : Nat → BitVec 15) (out : Nat → Bool), reg 0 = g ∧
    (∀ j, out j = ((reg j).getLsbD 14 ^^ (reg j).getLsbD 13)
      ∧ reg (j + 1) = ((reg j) <<< 1 ||| if out j = true then 1 else 0))
    ∧ ∀ j < 16, (predicted g).getLsbD (15 - j) = out j)
  ∧ ∀ (x : BitVec 16) (xs : List (BitVec 16)) (e : Nat),
    (x.setWidth 15 = 0 → checkSamples none (x :: xs) e = checkSamples none xs e)
    ∧ (x.setWidth 15 ≠ 0 → checkSamples none (x :: xs) e = checkSamples (some (x.setWidth 15)) xs e)
    ∧ ∀ g : BitVec 15, checkSamples (some g) (x :: xs) e
        = checkSamples (some ((predicted g).setWidth 15)) xs (if x = predicted g then e else e + 1)

/-! ### Stations, events and the crack map (chapters 3 to 5) -/

/-- R51 to R53, R57: what the peak of a vibration block does to a station. From WAITING or PRESS_IDLE a peak at the
start level opens a cycle with the next number, PRESS_IDLE also handing on PRESS_RESUMED; with 4 records queued the head
is first evaluated FORCED (R58) and the forming pass runs. Below the stop level COMPACTING turns to TAILING with a tail
count of 1; in TAILING a peak at the start level returns to COMPACTING, and one below it raises the tail count; the block
that reaches the tail blocks, the first one when they are 1, ends the cycle at its last sample, and the forming pass runs
when the record is the queue's head. BLIND and STOPPED take no peak. R12, R19, R28, R50: the end of the analysis of a
vibration lane's block keeps its offset and horizon, and when the block began in LIVE its corrected samples are scanned, a
break first clearing the previous sample and the measure reference, and its peak acts as said. R59 to R61: a sample counts
a crossing when it is 0 or above, the one before below 0 and the mark primed; the history takes it, and a compacting press
measures from the measure reference. At a FORCED start the place of PRESS_RESUMED among the crack map's notices, after those
of the evaluation and before those of the forming pass, is the model's choice (log 19). -/
def Obligations.TrackerFollowsPress : Prop :=
  (∀ (s : State) (k : Fin 4) (first last : SampleTime) (peak : Nat),
    let x := s.station k
    let finished (front : List CycleRecord) (r : CycleRecord) : State :=
      let u : State := { s with stations := s.stations.set k { x with
        state := .waiting, tail := 0, quietTimer := some 0, measureRef := none
        boundary := front ++ [{ r with finish := some last, incomplete := false }] } }
      if front = [] then formingPass u k else u
    ((x.state = .waiting ∨ x.state = .pressIdle) → x.settings.startLevel ≤ peak → x.boundary.length < 4 →
      applyPeak s k first last peak = { s with
        stations := s.stations.set k { x with
          state := .compacting, quietTimer := none, tail := 0, cycle := x.cycle + 1
          boundary := x.boundary ++
            [{ number := x.cycle + 1, start := first, finish := none, incomplete := false, forced := false }] }
        notices := if x.state = .waiting then s.notices else s.notices.take
          { kind := .pressResumed, station := k.val, cell := 0xFFFF, cycle := x.cycle + 1, time := first
            lane := match s.vibrationLane k with | some v => v.val | none => 255
            v1 := BitVec.ofNat 32 peak, v2 := BitVec.ofNat 32 (x.period.getD 0), v3 := 0 } })
    ∧ ((x.state = .waiting ∨ x.state = .pressIdle) → peak < x.settings.startLevel → applyPeak s k first last peak = s)
    ∧ (x.state = .compacting → x.settings.stopLevel ≤ peak → applyPeak s k first last peak = s)
    ∧ (x.state = .compacting → peak < x.settings.stopLevel → 1 < x.settings.tailBlocks →
      applyPeak s k first last peak = { s with stations := s.stations.set k { x with state := .tailing, tail := 1 } })
    ∧ (x.state = .tailing → x.settings.startLevel ≤ peak →
      applyPeak s k first last peak = { s with stations := s.stations.set k { x with state := .compacting, tail := 0 } })
    ∧ (x.state = .tailing → peak < x.settings.startLevel → x.tail + 1 < x.settings.tailBlocks →
      applyPeak s k first last peak = { s with stations := s.stations.set k { x with tail := x.tail + 1 } })
    ∧ (∀ front r, x.boundary = front ++ [r] →
      (x.state = .tailing → peak < x.settings.startLevel → x.settings.tailBlocks ≤ x.tail + 1 →
        applyPeak s k first last peak = finished front r)
      ∧ (x.state = .compacting → peak < x.settings.stopLevel → x.settings.tailBlocks ≤ 1 →
        applyPeak s k first last peak = finished front r))
    ∧ (x.state = .stopped ∨ x.state = .blind → applyPeak s k first last peak = s)
    ∧ ∀ r rest, (x.state = .waiting ∨ x.state = .pressIdle) → x.settings.startLevel ≤ peak → x.boundary = r :: rest →
      4 ≤ x.boundary.length →
      let u := evaluate { s with stations := s.stations.set k { x with
        state := .compacting, quietTimer := none, tail := 0, cycle := x.cycle + 1 } } k { r with forced := true }
      applyPeak s k first last peak = formingPass { u with
        stations := u.stations.set k { u.station k with boundary := rest ++
          [{ number := x.cycle + 1, start := first, finish := none, incomplete := false, forced := false }] }
        notices := if x.state = .waiting then u.notices else u.notices.take
          { kind := .pressResumed, station := k.val, cell := 0xFFFF, cycle := x.cycle + 1, time := first
            lane := match s.vibrationLane k with | some v => v.val | none => 255
            v1 := BitVec.ofNat 32 peak, v2 := BitVec.ofNat 32 (x.period.getD 0), v3 := 0 } } k)
  ∧ (∀ (s : State) (i : Fin 16) (m : Mapping) (b : QueuedBlock) (rest : List QueuedBlock), OutOfReset s →
    (s.lane i).mapping = some m → m.role = .vibration → (s.lane i).queue = b :: rest → (s.lane i).used.state ≠ .test →
    let k := m.station
    let l := s.lane i
    let x := s.station k
    let h := b.first + 59 + BitVec.ofInt 32 l.used.trim
    let first := b.first + BitVec.ofInt 32 l.used.trim
    let values := b.samples.map fun v => clampInt (-32768) 32767 (v.toInt - l.offset)
    let peak := values.foldl (fun a v => max a (min 32767 v.natAbs)) 0
    let l1 : Lane := { l with
      queue := rest
      offset := match l.used.offsetMode with
        | .track => clampInt (-l.used.offsetRange) l.used.offsetRange
            (l.offset + (((b.samples.map BitVec.toInt).sum.tdiv 60) - l.offset).tdiv 16)
        | .fixed => l.offset }
    let l2 : Lane := { l1 with horizon := some (match l.horizon with
      | none => h
      | some o => if 1 ≤ (h - o).toNat ∧ (h - o).toNat ≤ 2147483647 then h else o) }
    let y : Station := if b.breakMark = true then { x with prevSample := none, measureRef := none } else x
    let u := applyPeak
      { s with lanes := s.lanes.set i l1, stations := s.stations.set k (y.scan first values) } k first (first + 59) peak
    (l.used.state ≠ .live →
      exec (.blockAnalysisEnd i) s = .next (commit s (beginBlock { s with lanes := s.lanes.set i l2 } i)))
    ∧ (l.used.state = .live →
      exec (.blockAnalysisEnd i) s = .next (commit s (beginBlock { u with lanes := u.lanes.set i l2 } i))))
  ∧ ∀ (x : Station) (t : SampleTime) (v : Int) (rest : List Int),
    let up := x.primed = true ∧ 0 ≤ v ∧ ∃ p, x.prevSample = some p ∧ p < 0
    let y : Station := { x with
      primed := false, history := (if 8 ≤ x.history.length then x.history.drop 1 else x.history) ++ [t] }
    x.scan t (v :: rest) = (x.sample t v).scan (t + 1) rest
    ∧ (¬up → x.sample t v = { x with
        prevSample := some v, primed := x.primed || decide (v < -((x.settings.stopLevel / 2 : Nat) : Int)) })
    ∧ (up → x.state ≠ .compacting → x.state ≠ .tailing →
        x.sample t v = { y with prevSample := some v, measureRef := none })
    ∧ (up → x.state = .compacting ∨ x.state = .tailing →
        (x.measureRef = none → x.sample t v = { y with prevSample := some v, measureRef := some t })
        ∧ ∀ m, x.measureRef = some m →
          x.sample t v = { y.measure (signedDiff t m) with prevSample := some v, measureRef := some t })

/-- R54, R66: a WAITING station whose quiet timer has reached its time-out enters PRESS_IDLE and hands on PRESS_IDLE with
the end of its newest cycle record, the time-out and its period; the time-out follows the quiet code. -/
def Obligations.QuietTimeOut : Prop :=
  (∀ (s : State) (k : Fin 4) (n : Nat), OutOfReset s → (s.station k).state = .waiting →
    0 < quietSeconds (s.station k).settings.quietCode → (s.station k).quietTimer = some n →
    quietSeconds (s.station k).settings.quietCode * 1000000 ≤ n →
    let x := s.station k
    exec (.quietTimeout k) s = .next (commit s { s with
      stations := s.stations.set k { x with state := .pressIdle, quietTimer := none }
      notices := s.notices.take
        { kind := .pressIdle, station := k.val, cell := 0xFFFF, cycle := x.cycle
          lane := match s.vibrationLane k with | some v => v.val | none => 255
          time := match x.boundary.getLast? with | some r => r.finish.getD 0 | none => 0
          v1 := BitVec.ofNat 32 (quietSeconds x.settings.quietCode), v2 := BitVec.ofNat 32 (x.period.getD 0)
          v3 := 0 } }))
  ∧ ∀ c : Nat, c ≤ 255 → quietSeconds c =
      if c ≤ 100 then c else if c ≤ 190 then 100 + (c - 100) * 10 else 1000 + (c - 190) * 60

/-- R62, R63: a measurement of 2000 to 65535 locks an UNKNOWN period and any other leaves it as it is. A LOCKED period
within a quarter of which a measurement of 1 to 65535 lies moves to a quarter of the way there; any other measurement is
rejected, the fourth in a row making the period UNKNOWN. Nothing else of the station changes. -/
def Obligations.PeriodLocks : Prop :=
  ∀ (x : Station) (m : Int),
    (x.period = none → 2000 ≤ m → m ≤ 65535 → x.measure m = { x with period := some m.toNat, rejectRun := 0 })
    ∧ (x.period = none → m < 2000 ∨ 65535 < m → x.measure m = x)
    ∧ (∀ p, x.period = some p → 1 ≤ m → m ≤ 65535 → (m - p).natAbs * 4 ≤ p →
      x.measure m = { x with period := some ((3 * p + m.toNat) / 4), rejectRun := 0 })
    ∧ (∀ p, x.period = some p → m < 1 ∨ 65535 < m ∨ p < (m - p).natAbs * 4 → x.rejectRun < 3 →
      x.measure m = { x with rejectRun := x.rejectRun + 1 })
    ∧ (∀ p, x.period = some p → m < 1 ∨ 65535 < m ∨ p < (m - p).natAbs * 4 → 3 ≤ x.rejectRun →
      x.measure m = { x with period := none, rejectRun := 0 })

/-- R65: the tension window: ws to we where ws is at most we, else the bins from ws on and those up to we; bin 255 lies
within none. -/
def Obligations.TensionWindow : Prop :=
  ∀ ws we b : Nat, ws ≤ 63 → we ≤ 63 →
    (ws ≤ we → b ≤ 63 → (inTension ws we b = true ↔ ws ≤ b ∧ b ≤ we))
    ∧ (we < ws → b ≤ 63 → (inTension ws we b = true ↔ ws ≤ b ∨ b ≤ we))
    ∧ inTension ws we 255 = false

/-- R79 to R81: a line turns the difference of arrivals, brought into -Tmax to Tmax, into the argument u, the travel acc
over segments of width Tmax div 4, the position acc div 256 up to 4095 and its cell of 0 to 31; CLAMPED marks a
difference beyond Tmax or a position beyond 4095, and a difference of exactly Tmax is not beyond it. So the later the hit
of role B after that of role A, the lower the cell. R78: a line takes the difference of its two roles' members, and gives
nothing when it is DISABLED or lacks one. -/
def Obligations.LocationOnLine : Prop :=
  (∀ (l : Line) (d e : Int),
    let t : Int := l.tmax
    let u := (t - max (-t) (min t d)).toNat
    let w := l.tmax / 4
    let k := min 7 (u / w)
    let inc (j : Nat) : Nat := l.increments.toList.getD j 0
    let acc := ((List.range k).map fun j => inc j * w).sum + inc k * (u - k * w)
    (locateDiff l d).cell = some (min 4095 (acc / 256) / 128)
    ∧ ((locateDiff l d).clamped = true ↔ d < -t ∨ t < d ∨ 4095 < acc / 256)
    ∧ (∃ c, (locateDiff l d).cell = some c ∧ c ≤ 31)
    ∧ (d ≤ e → ∀ c c', (locateDiff l d).cell = some c → (locateDiff l e).cell = some c' → c' ≤ c)
    ∧ ((l.tmax : Int) < d → (locateDiff l d).clamped = true ∧ (locateDiff l d).cell = (locateDiff l l.tmax).cell)
    ∧ (d < -(l.tmax : Int) → (locateDiff l d).clamped = true ∧ (locateDiff l d).cell = (locateDiff l (-l.tmax)).cell))
  ∧ ∀ (l : Line) (ms : List Hit),
    (∀ a b, l.form = .linear ∨ l.form = .table → ms.find? (fun h => decide (h.role.val = l.roleA)) = some a →
      ms.find? (fun h => decide (h.role.val = l.roleB)) = some b →
      locate l ms = locateDiff l (signedDiff b.arrival a.arrival))
    ∧ (l.form = .disabled ∨ (∀ h ∈ ms, h.role.val ≠ l.roleA) ∨ (∀ h ∈ ms, h.role.val ≠ l.roleB) →
      locate l ms = { cell := none, clamped := false })

/-- R71, R74, R75, R85: forming the event of the pool's first hit takes its members out of the pool and counts an early
formation and a clamped location; assigned to the head record it is tallied on the cells it names, otherwise it is
counted out of cycle. With no hold policy nothing else of the machine changes. R86: a policy that covers the state of a
cell it names, the one of the lowest line counting, has each member's segment requested in the order of the roles. R121,
R122: such a request merges with a hold of its segment, makes a PENDING one, or is dropped and counted. R68, R72: a hit
handed on enters the pool by its arrival, equal ones by role, a full pool first forming its oldest hit's event early, and
the forming pass runs. R69, R70, R82: the pass has the head evaluated while the close check holds, then forms the oldest
hit's event once the minimum horizon has reached its arrival plus W_c, and ends when it can do neither; the minimum is
the horizon that no other of the set is earlier than. R71: the members are the first hit and, of each other role, the
first pooled hit whose arrival lies in its window, in the order of the roles. R83: an event is assigned to an open head
from its start on and to a closed one from start to end; a first arrival half the range away from either is left to a free
value (log 6). R64: the phase bin counts from the newest crossing not later than the first arrival, else from the oldest,
and is 255 without a period or a crossing. R93: a tally adds to the cells it names and to the station's located events,
or, naming none, to the unlocated ones. -/
def Obligations.EventFormed : Prop :=
  (∀ (s : State) (k : Fin 4) (h0 : Hit) (early : Bool),
    let x := s.station k
    let ms := members h0 x.pool x.settings.window
    let x1 : Station := { x with
      pool := ms.foldl (fun p h => p.erase h) x.pool
      early := min 65535 (x.early + early.toNat)
      clamped := min 65535 (x.clamped + (x.lines.toList.any fun l => (locate l ms).clamped).toNat) }
    let tallied : State := { s with stations := s.stations.set k (x1.tally (cellIds x.lines ms)
      { energy := ms.foldl (fun a h => min 4294967295 (a + h.energy)) 0
        peak := ms.foldl (fun a h => max a h.peak) 0
        coherent := inTension x.settings.ws x.settings.we (phaseBin x h0.arrival) }) }
    let covered (id : Nat) : Bool :=
      let st := (x.cells.toList.getD id .cleared).state
      decide (x.settings.policy ≠ .none ∧ (st = .confirmed ∨ st = .fading ∨ x.settings.policy = .suspectUp ∧ st = .suspect))
    (assigned x.boundary.head? h0.arrival = true → x.settings.policy = .none → formEvent s k h0 early = tallied)
    ∧ (assigned x.boundary.head? h0.arrival = true → (∀ id ∈ cellIds x.lines ms, covered id = false) →
      formEvent s k h0 early = tallied)
    ∧ (∀ id, assigned x.boundary.head? h0.arrival = true → (cellIds x.lines ms).find? covered = some id →
      formEvent s k h0 early = ms.foldl (fun s h => eventPin s id h.lane h.segment) tallied)
    ∧ (assigned x.boundary.head? h0.arrival = false →
      formEvent s k h0 early = { s with stations := s.stations.set k { x1 with
        outOfCycle := min 4294967295 (x.outOfCycle + 1)
        totals := if x.sumCounter = 0 then x.totals
          else { x.totals with outOfCycle := min 65535 (x.totals.outOfCycle + 1) } } }))
  ∧ (∀ (s : State) (cell : Nat) (lane : Fin 16) (p : Nat),
    let listed := ∃ h ∈ s.holds, h.lane = lane ∧ h.segment = p
    (listed → eventPin s cell lane p = s)
    ∧ (∀ t, ¬listed → (s.seg lane).table = some t → p ∈ t.map → s.holds.length < 64 →
      eventPin s cell lane p = { s with holds := s.holds ++ [{ lane := lane, segment := p, logical := t.map.idxOf p,
                                                               state := .pending, reason := .event cell, range := none }] })
    ∧ (¬listed → (∀ t, (s.seg lane).table = some t → p ∈ t.map → 64 ≤ s.holds.length) →
      eventPin s cell lane p = { s with
        segs := s.segs.set lane { s.seg lane with dropped := min 65535 ((s.seg lane).dropped + 1) } }))
  ∧ (∀ (s : State) (k : Fin 4) (h : Hit),
    let placed (u : State) : State :=
      { u with stations := u.stations.set k { u.station k with pool := poolInsert h (u.station k).pool } }
    ((s.station k).pool.length < 64 → handHit s k h = formingPass (placed s) k)
    ∧ (∀ h0 rest, (s.station k).pool = h0 :: rest → 64 ≤ (s.station k).pool.length →
      handHit s k h = formingPass (placed (formEvent s k h0 true)) k)
    ∧ ∀ front back : List Hit,
      (∀ x ∈ front, later h.arrival x.arrival = true ∨ h.arrival = x.arrival ∧ x.role ≤ h.role) →
      (∀ x ∈ back.head?, later x.arrival h.arrival = true ∨ h.arrival = x.arrival ∧ h.role < x.role) →
      poolInsert h (front ++ back) = front ++ h :: back)
  ∧ (∀ (h0 : Hit) (pool : List Hit) (w : Nat),
    ((members h0 pool w).map (·.role)).Pairwise (· < ·)
    ∧ ∀ h, h ∈ members h0 pool w ↔ h = h0 ∨ (h.role ≠ h0.role
      ∧ pool.find? (fun y => decide (y.role = h.role ∧ (y.arrival - h0.arrival).toNat ≤ w)) = some h))
  ∧ (∀ t : SampleTime, assigned none t = false
    ∧ ∀ r : CycleRecord, (t - r.start).toNat ≠ 2147483648 → (∀ e, r.finish = some e → (e - t).toNat ≠ 2147483648) →
      (assigned (some r) t = true ↔ (t = r.start ∨ later t r.start = true) ∧ ∀ e, r.finish = some e → later t e = false))
  ∧ (∀ (x : Station) (t : SampleTime),
    (x.period = none ∨ x.history = [] → phaseBin x t = 255)
    ∧ ∀ p c, x.period = some p →
      ((∃ front back, x.history = front ++ c :: back ∧ later c t = false ∧ ∀ y ∈ back, later y t = true)
        ∨ x.history.head? = some c ∧ ∀ y ∈ x.history, later y t = true) →
      phaseBin x t = 64 * ((signedDiff t c).emod p).toNat / p)
  ∧ (∀ (x : Station) (ids : List Nat) (e : EventTally), x.tally ids e = { x with
    cells := x.cells.mapIdx fun i c => if i ∈ ids then { c with
      events := min 65535 (c.events + 1), coherent := min 65535 (c.coherent + if e.coherent = true then 1 else 0)
      energy := min 4294967295 (c.energy + e.energy), peak := max c.peak e.peak } else c
    located := if ids = [] then x.located else min 65535 (x.located + 1)
    unlocated := if ids = [] then min 65535 (x.unlocated + 1) else x.unlocated })
  ∧ ∀ (s : State) (k : Fin 4),
    let x := s.station k
    let inSet (i : Fin 16) : Prop := (∃ m r, (s.lane i).mapping = some m ∧ m.station = k ∧ m.role = .ae r)
      ∧ ((s.lane i).state = .settling ∨ (s.lane i).state = .live)
    let ripe (e : SampleTime) : Prop := reached s k (e + BitVec.ofNat 32 x.settings.window) = true
      ∧ ∀ h ∈ x.pool, h.arrival ≠ e ∧ later e h.arrival = false
    let closes := ∃ r rest e, x.boundary = r :: rest ∧ r.finish = some e ∧ ripe e
    (∀ r rest e, x.boundary = r :: rest → r.finish = some e → ripe e →
      formingPass s k = formingPass (evaluate s k r) k)
    ∧ (∀ h0 rest, ¬closes → x.pool = h0 :: rest →
      reached s k (h0.arrival + BitVec.ofNat 32 x.settings.window) = true →
      formingPass s k = formingPass (formEvent s k h0 false) k)
    ∧ (¬closes → (∀ h0 rest, x.pool = h0 :: rest →
      reached s k (h0.arrival + BitVec.ofNat 32 x.settings.window) = false) → formingPass s k = s)
    ∧ ∀ t, ((∀ i, ¬inSet i) → reached s k t = true) ∧ (∀ i, inSet i → (s.lane i).horizon = none → reached s k t = false)
      ∧ ∀ i h, inSet i → (s.lane i).horizon = some h →
        (∀ j, inSet j → ∃ g, (s.lane j).horizon = some g ∧ (g = h ∨ later g h = true)) →
        (reached s k t = true ↔ h = t ∨ later h t = true)

/-- R97 to R102, R104 to R106: the judgment of a cell: history and totals record the active test, and the cell steps by
its state, with the notices and their values. R94 to R96, R107 to R109: the evaluation of the head record judges every
cell in order of its id, none for an INCOMPLETE record; then comes UNLOCATED_ACTIVITY when the unlocated events reach a
nonzero limit; then the summary totals and counter move, CYCLE_SUMMARY ending an interval; then every cycle tally is
zeroed and the head removed. -/
def Obligations.CellSteps : Prop :=
  (∀ (k : Criteria) (cycle : BitVec 32) (c : Cell),
    let active := k.minEvents ≤ c.events ∧ c.events * k.fraction ≤ c.coherent * 16 ∧ k.minEnergy ≤ c.energy
    let c1 : Cell := { c with
      history := (if 16 ≤ c.history.length then c.history.drop 1 else c.history) ++ [decide active]
      totalEvents := min 4294967295 (c.totalEvents + c.events)
      totalActive := min 4294967295 (c.totalActive + if active then 1 else 0) }
    let moved := (((c.reference.getD 0 : Nat) : Int) + ((c.energy : Int) - (c.reference.getD 0 : Nat)).tdiv 8).toNat
    let surge : List CellNotice := if 0 < c.reference.getD 0 ∧ k.surge * c.reference.getD 0 ≤ c.energy then
      [{ kind := .surge, v1 := c.energy, v2 := c.reference.getD 0, v3 := k.surge }] else []
    let notice (kind : NoticeKind) : CellNotice := { kind := kind, v1 := c.events, v2 := c.coherent, v3 := c.energy }
    (c.state = .clear → ¬active → c.judge k cycle = (c1, []))
    ∧ (c.state = .clear → active → 1 < k.lock → c.judge k cycle =
      ({ c1 with state := .suspect, lock := 1, unlock := 0, lastChange := cycle }, [notice .suspect]))
    ∧ (c.state = .clear → active → k.lock ≤ 1 → c.judge k cycle =
      ({ c1 with state := .confirmed, lock := 1, unlock := 0, reference := some c.energy, lastChange := cycle },
        [notice .confirmed]))
    ∧ (c.state = .suspect → active → min 15 (c.lock + 1) < k.lock → c.judge k cycle =
      ({ c1 with lock := min 15 (c.lock + 1), unlock := 0 }, []))
    ∧ (c.state = .suspect → active → k.lock ≤ min 15 (c.lock + 1) → c.judge k cycle =
      ({ c1 with state := .confirmed, lock := min 15 (c.lock + 1), unlock := 0, reference := some c.energy,
                 lastChange := cycle }, [notice .confirmed]))
    ∧ (c.state = .suspect → ¬active → min 15 (c.unlock + 1) < k.drop → c.judge k cycle =
      ({ c1 with unlock := min 15 (c.unlock + 1) }, []))
    ∧ (c.state = .suspect → ¬active → k.drop ≤ min 15 (c.unlock + 1) → c.judge k cycle =
      ({ c1 with state := .clear, lock := 0, unlock := 0, lastChange := cycle },
        [{ kind := .dropped, v1 := c1.totalEvents, v2 := c1.totalActive, v3 := c.lock }]))
    ∧ (c.state = .confirmed → active → c.judge k cycle = ({ c1 with unlock := 0, reference := some moved }, surge))
    ∧ (c.state = .confirmed → ¬active → min 15 (c.unlock + 1) < k.fade → c.judge k cycle =
      ({ c1 with unlock := min 15 (c.unlock + 1) }, []))
    ∧ (c.state = .confirmed → ¬active → k.fade ≤ min 15 (c.unlock + 1) → c.judge k cycle =
      ({ c1 with state := .fading, unlock := min 15 (c.unlock + 1), lastChange := cycle },
        [{ kind := .fading, v1 := c.reference.getD 0, v2 := min 15 (c.unlock + 1), v3 := c1.totalActive }]))
    ∧ (c.state = .fading → active → c.judge k cycle =
      ({ c1 with state := .confirmed, unlock := 0, lastChange := cycle, reference := some moved },
        notice .reactivated :: surge))
    ∧ (c.state = .fading → ¬active → c.judge k cycle = ({ c1 with unlock := min 15 (c.unlock + 1) }, [])))
  ∧ ∀ (s : State) (k : Fin 4) (r : CycleRecord),
    let x := s.station k
    let K := x.settings.summaryInterval
    let note (kind : NoticeKind) (cell v1 v2 v3 : Nat) : Notice :=
      { kind := kind, station := k.val, lane := 255, cell := cell, cycle := r.number, time := r.finish.getD 0
        v1 := BitVec.ofNat 32 v1, v2 := BitVec.ofNat 32 v2, v3 := BitVec.ofNat 32 v3 }
    let judged : Vector Cell 96 := if r.incomplete = true then x.cells
      else x.cells.map fun c => (c.judge x.criteria r.number).1
    let best := if r.incomplete = true then (x.totals.energy, x.totals.cell)
      else (List.finRange 96).foldl (fun a i => if a.1 < (x.cells.get i).energy then ((x.cells.get i).energy, some i.val) else a)
        (x.totals.energy, x.totals.cell)
    let t : Totals := { x.totals with
      located := min 65535 (x.totals.located + x.located)
      unlocated := min 65535 (x.totals.unlocated + x.unlocated)
      forced := min 255 (x.totals.forced + r.forced.toNat)
      incomplete := min 255 (x.totals.incomplete + r.incomplete.toNat)
      energy := best.1, cell := best.2 }
    let count (st : CellState) : Nat := (List.finRange 96).countP fun i => decide ((judged.get i).state = st)
    let cellNotes := if r.incomplete = true then [] else (List.finRange 96).flatMap fun i =>
      ((x.cells.get i).judge x.criteria r.number).2.map fun n => note n.kind i.val n.v1 n.v2 n.v3
    let unlocated := if r.incomplete = false ∧ 0 < x.settings.unlocatedLimit ∧ x.settings.unlocatedLimit ≤ x.unlocated then
      [note .unlocatedActivity 0xFFFF x.unlocated x.located x.settings.unlocatedLimit] else []
    let summary := if K ≠ 0 ∧ x.sumCounter - 1 = 0 then
      [note .cycleSummary (t.cell.getD 0xFFFF) (t.located + 65536 * t.unlocated)
        (t.outOfCycle + 65536 * t.forced + 16777216 * t.incomplete)
        (count .suspect + 256 * count .confirmed + 65536 * count .fading + 16777216 * K)] else []
    evaluate s k r = { s with
      stations := s.stations.set k { x with
        cells := judged.map fun c => { c with events := 0, coherent := 0, energy := 0, peak := 0 }
        located := 0, unlocated := 0, boundary := x.boundary.drop 1
        totals := if K = 0 then x.totals else if x.sumCounter - 1 = 0 then .zero else t
        sumCounter := if K = 0 then x.sumCounter else if x.sumCounter - 1 = 0 then K else x.sumCounter - 1 }
      notices := (cellNotes ++ unlocated ++ summary).foldl NoticeWriter.take s.notices }

/-! ### Notices and the status block (chapter 9) -/

/-- R157: with room a notice joins the tail; a full queue discards an arriving info notice, and for an arriving alarm
its oldest info notice, or, holding alarms alone, the alarm itself. Each discard is counted and sets the overrun flag. -/
def Obligations.NoticeQueueKeepsAlarms : Prop :=
  ∀ (w : NoticeWriter) (n : Notice),
    (w.queue.length < 64 → w.take n = { w with queue := w.queue ++ [n] })
    ∧ (64 ≤ w.queue.length → n.kind.alarm = false →
      w.take n = { w with discarded := min 65535 (w.discarded + 1), discardedAlarms := min 65535 w.discardedAlarms, overrun := true })
    ∧ (∀ front x back, 64 ≤ w.queue.length → n.kind.alarm = true → w.queue = front ++ x :: back →
      (∀ y ∈ front, y.kind.alarm = true) → x.kind.alarm = false →
      w.take n = { w with queue := front ++ back ++ [n], discarded := min 65535 (w.discarded + 1),
                          discardedAlarms := min 65535 w.discardedAlarms, overrun := true })
    ∧ (64 ≤ w.queue.length → n.kind.alarm = true → (∀ y ∈ w.queue, y.kind.alarm = true) →
      w.take n = { w with discarded := min 65535 (w.discarded + 1),
                          discardedAlarms := min 65535 (w.discardedAlarms + 1), overrun := true })

/-- R158, R159, R163: while WRITING with room in the ring and in the own-write queue, the writer hands on the head of its
queue with the next sequence number, or first an OVERRUN notice while discards are unreported. R163: ATTN is asserted
exactly while the unconsumed list holds an alarm, the overrun flag is set, the writer is in WRITE_FAULT, or the info flag
is set and the list holds an info notice; so an alarm entry asserts it at its hand-on. The 32 bytes of a notice are those of 10.4. -/
def Obligations.NoticeWritten : Prop :=
  (∀ (s : State) (r : Ring), OutOfReset s → placeFor s .noticeWriter = true → s.cmd.restart = none → s.notices.state = .writing →
    s.notices.ring = some r → s.notices.u < r.entries →
    let w := s.notices
    let addr := r.base + BitVec.ofNat 32 (32 * w.p)
    let next := if w.p + 1 = r.entries then 0 else w.p + 1
    let ovr : Notice :=
      { kind := .overrun, station := 255, lane := 255, cell := 0xFFFF, cycle := 0, time := 0,
        v1 := BitVec.ofNat 32 w.discarded, v2 := BitVec.ofNat 32 w.discardedAlarms, v3 := w.sequence }
    (∀ n rest, w.discarded = 0 → w.queue = n :: rest →
      exec .noticeWriteHandOn s = .next (commit s { s with
        path := handed s.path (.noticeWriter true) addr (beatsOf 4 (noticeBytes (w.sequence + 1) n))
        notices := { w with
          sequence := w.sequence + 1, queue := rest, p := next, u := w.u + 1
          unconsumed := w.unconsumed ++ [{ alarm := n.kind.alarm, overrun := false, stamp := s.path.now }] } }))
    ∧ (0 < w.discarded →
      exec .noticeWriteHandOn s = .next (commit s { s with
        path := handed s.path (.noticeWriter true) addr (beatsOf 4 (noticeBytes (w.sequence + 1) ovr))
        notices := { w with
          sequence := w.sequence + 1, discarded := 0, discardedAlarms := 0, p := next, u := w.u + 1
          unconsumed := w.unconsumed ++ [{ alarm := true, overrun := true, stamp := s.path.now }] } }))
    ∧ ∀ t, exec .noticeWriteHandOn s = .next t → (t.notices.unconsumed.any fun e => e.alarm) = true → t.attn = true)
  ∧ (∀ s : State, s.attn = true ↔ (∃ e ∈ s.notices.unconsumed, e.alarm = true) ∨ s.notices.overrun = true
    ∨ s.notices.state = .writeFault
    ∨ ∃ r, s.notices.ring = some r ∧ r.info = true ∧ ∃ e ∈ s.notices.unconsumed, e.alarm = false)
  ∧ ∀ (sequence : BitVec 32) (n : Notice),
    let b := noticeBytes sequence n
    b.length = 32 ∧ u32 b 0 = sequence.toNat ∧ (u8 b 5 = if u8 b 4 ≤ 8 then 1 else 0) ∧ (n.kind.alarm = true ↔ u8 b 4 ≤ 8)
    ∧ u8 b 6 = n.station % 256 ∧ u8 b 7 = n.lane % 256 ∧ u16 b 8 = n.cell % 65536 ∧ u16 b 10 = 0 ∧ u32 b 12 = n.cycle.toNat
    ∧ u32 b 16 = n.time.toNat ∧ u32 b 20 = n.v1.toNat ∧ u32 b 24 = n.v2.toNat ∧ u32 b 28 = n.v3.toNat
    ∧ u8 b 4 = match n.kind with
      | .confirmed => 0x01 | .reactivated => 0x02 | .surge => 0x03 | .laneFault => 0x04 | .vibrationLost => 0x05
      | .holdLost => 0x06 | .unlocatedActivity => 0x07 | .overrun => 0x08 | .suspect => 0x11 | .dropped => 0x12
      | .fading => 0x13 | .laneRecovered => 0x14 | .pressIdle => 0x15 | .pressResumed => 0x16 | .holdTaken => 0x17
      | .cycleSummary => 0x18 | .commandDone => 0x19

/-- R165: in IDLE, with a SCHEDULED write due or a Write Status waiting, a status write starts: generation, snapshot,
change flag, timer and served commands; while it is WRITING its parts of 128 bytes are handed on in order of address. The
1024 bytes of the block and the items they show are those of 10.6, every reserved byte zero (R167). -/
def Obligations.StatusWriteProgress : Prop :=
  (∀ (s : State) (b : StatusPlace), OutOfReset s → s.cmd.restart = none → s.status.place = some b →
    (s.status.state = .idle →
      ((s.status.change = true ∧ ∃ n, s.status.timer = some n ∧ b.period * 1000 ≤ n) ∨ s.status.waiting ≠ []) →
      exec .statusWriteStart s = .next (commit s { s with status := { s.status with
        state := .writing, generation := s.status.generation + 1, change := false, timer := some 0, waiting := []
        write := some
          { shown := shown s, generation := s.status.generation + 1, handed := 0, answered := 0, done := 0,
            faulted := false, cut := false, served := s.status.waiting
            scheduled := s.status.change && (match s.status.timer with
              | some n => decide (b.period * 1000 ≤ n) | none => false) } } }))
    ∧ (∀ w, s.status.state = .writing → placeFor s .statusWriter = true → s.status.write = some w → w.handed < 8 → w.faulted = false →
      w.cut = false →
      exec .statusPartHandOn s = .next (commit s { s with
        path := handed s.path (.statusWriter true) (b.base + BitVec.ofNat 32 (128 * w.handed))
          (beatsOf 16 (((statusBytes w.generation w.shown).drop (128 * w.handed)).take 128))
        status := { s.status with write := some { w with handed := w.handed + 1 } } })))
  ∧ ∀ (generation : BitVec 32) (s : State),
    let b := statusBytes generation (shown s)
    b.length = 1024
    ∧ (u16 b 0 = 0x00C4 ∧ u8 b 2 = 1 ∧ u32 b 4 = generation.toNat ∧ u32 b 1020 = generation.toNat
      ∧ (u8 b 8 = match s.notices.state with | .noRing => 0 | .writing => 1 | .writeFault => 2)
      ∧ u16 b 10 = s.notices.discarded % 65536 ∧ u16 b 12 = s.notices.p % 65536 ∧ u16 b 14 = s.notices.c % 65536
      ∧ u16 b 16 = s.notices.u % 65536 ∧ u16 b 18 = s.path.refusedCount % 65536 ∧ u16 b 20 = s.cmd.ignored % 65536
      ∧ u16 b 22 = s.cmd.outcomeFaults % 65536 ∧ u8 b 24 = s.cmd.queue.length % 256)
    ∧ (∀ j, (j = 3 ∨ j = 9 ∨ (25 ≤ j ∧ j < 128) ∨ (960 ≤ j ∧ j < 1020)) → u8 b j = 0)
    ∧ (∀ k : Fin 4,
      let x := s.station k
      let o := 128 + 32 * k.val
      (u8 b o = match x.state with
        | .stopped => 0 | .waiting => 1 | .compacting => 2 | .tailing => 3 | .pressIdle => 4 | .blind => 5)
      ∧ u8 b (o + 1) = x.boundary.length % 256 ∧ u8 b (o + 2) = x.pool.length % 256 ∧ u32 b (o + 4) = x.cycle.toNat
      ∧ u16 b (o + 8) = x.period.getD 0 % 65536 ∧ u16 b (o + 10) = x.early % 65536 ∧ u16 b (o + 12) = x.clamped % 65536
      ∧ u32 b (o + 16) = x.outOfCycle % 4294967296
      ∧ ∀ j, (j = 3 ∨ j = 14 ∨ j = 15 ∨ (20 ≤ j ∧ j < 32)) → u8 b (o + j) = 0)
    ∧ ∀ i : Fin 16,
      let x := s.lane i
      let o := 256 + 32 * i.val
      let g := s.seg i
      let q := 768 + 12 * i.val
      let mapped (j : Nat) : Nat := match g.table with | some t => t.map.getD j 0 | none => 0
      (u8 b o = match x.state with
        | .unmapped => 0 | .idle => 1 | .settling => 2 | .live => 3 | .faulted => 4 | .test => 5)
      ∧ (u8 b (o + 1) = match x.faultReason with
        | none => 0 | some .sync => 1 | some .laneId => 2 | some .slip => 3 | some .torn => 4 | some .silent => 5)
      ∧ u8 b (o + 2) = (if x.noiseValid = true then 1 else 0)
      ∧ (u8 b (o + 3) = match x.lastTest.result with | .none => 0 | .pass => 1 | .fail => 2 | .timeout => 3 | .aborted => 4)
      ∧ u16 b (o + 4) = x.noise % 65536 ∧ u16 b (o + 6) = x.threshold.getD 0 % 65536
      ∧ u16 b (o + 8) = (BitVec.ofInt 16 x.offset).toNat ∧ u16 b (o + 10) = x.badBlocks % 65536
      ∧ u32 b (o + 12) = (x.horizon.getD 0).toNat ∧ u16 b (o + 16) = x.skipped % 65536 ∧ u16 b (o + 18) = x.foreign % 65536
      ∧ u32 b (o + 20) = x.lastTest.errors % 4294967296 ∧ u16 b (o + 24) = x.lastTest.counted % 65536
      ∧ (∀ j, 26 ≤ j → j < 32 → u8 b (o + j) = 0)
      ∧ (∀ j < 6, u8 b (q + j) = (mapped (2 * j) + 16 * mapped (2 * j + 1)) % 256)
      ∧ (u8 b (q + 6) = match x.mapping with | some m => m.logical % 256 | none => 0)
      ∧ (u8 b (q + 7) = match g.table with | some t => t.free.length % 256 | none => 0)
      ∧ u8 b (q + 8) = g.held % 256 ∧ u8 b (q + 9) = 0 ∧ u16 b (q + 10) = g.dropped % 65536

/-- R165: the answer to a part of the write in progress. The eighth DONE ends it, the writer being IDLE and the served
commands DONE; a FAULT with no part outstanding, or a last DONE after a FAULT, stops the writer, the served commands
completing FAULT with the number of parts answered DONE; a DONE before the eighth, and any answer while another part is
outstanding, is counted alone. R166: the last DONE of a write that an Abort cut short returns the writer to IDLE. For a write that an Abort has cut short the FAULT is the model's reading (DEDUCED, log 25),
and the order in which served commands join the completion list is its choice (log 35). R164: the answer to a part of a
write that Set Status Block cut does not act on the writer. R150, R166: a served command carried from such a write stays
FINISHING until the parts handed on for it then are answered too, and then joins the completion list (log 18). -/
def Obligations.StatusPartAnswered : Prop :=
  (∀ (s : State) (o : OwnWrite) (w : StatusWrite) (r : Response), PathLaw s → OutOfReset s → o ∈ s.path.own →
    o.issued = true → o.producer = .statusWriter true → s.status.write = some w →
    let u : State := { s with path := answered s.path o }
    (r = .done → w.handed = 8 → w.answered = 7 → w.faulted = false →
      exec (.ownWriteResponse o.id r) s = .next (commit s (settleAwaiting
        (decideAll { u with status := { u.status with state := .idle, write := none } } w.served .done 0) o.id)))
    ∧ (r = .fault → w.handed = w.answered + 1 →
      exec (.ownWriteResponse o.id r) s = .next (commit s (settleAwaiting
        (decideAll { u with status := { u.status with state := .stopped, write := none, timer := none } } w.served
          .fault w.done) o.id)))
    ∧ (r = .done → w.handed = w.answered + 1 → w.faulted = true →
      exec (.ownWriteResponse o.id r) s = .next (commit s (settleAwaiting
        (decideAll { u with status := { u.status with state := .stopped, write := none, timer := none } } w.served
          .fault (w.done + 1)) o.id)))
    ∧ (r = .done → w.handed = w.answered + 1 → w.faulted = false → w.cut = true → w.served = [] →
      exec (.ownWriteResponse o.id r) s = .next (commit s (settleAwaiting { u with status := { u.status with
        state := .idle, write := none } } o.id)))
    ∧ (r = .done → w.handed = w.answered + 1 → w.handed < 8 → w.faulted = false → w.cut = false →
      exec (.ownWriteResponse o.id r) s = .next (commit s (settleAwaiting { u with status := { u.status with
        write := some { w with answered := w.answered + 1, done := w.done + 1 } } } o.id)))
    ∧ (w.answered + 1 < w.handed →
      exec (.ownWriteResponse o.id r) s = .next (commit s (settleAwaiting { u with status := { u.status with
        write := some { w with
          answered := w.answered + 1
          done := if r = .done then w.done + 1 else w.done
          faulted := if r = .fault then true else w.faulted } } } o.id))))
  ∧ (∀ (s : State) (o : OwnWrite) (r : Response), PathLaw s → OutOfReset s → o ∈ s.path.own → o.issued = true →
    o.producer = .statusWriter false →
    exec (.ownWriteResponse o.id r) s = .next (commit s (settleAwaiting { s with
      path := answered s.path o
      status := { s.status with carried := s.status.carried.filter fun x => decide (x.2 ≠ o.id) } } o.id)))
  ∧ ∀ (u : State) (r : Result) (n : Nat), decideAll u [] r n = u
    ∧ ∀ (c : Cmd) (rest : List (Fin 32)), CommandLaw u → c ∈ u.cmd.queue → (∀ x ∈ u.cmd.copies, x.slot ≠ c.slot) →
      let ids := (u.status.carried.filter fun x => decide (x.1 = c.slot)).map (·.2)
      decideAll u (c.slot :: rest) r n = decideAll (if ids = [] then { u with cmd := ended u.cmd c r (BitVec.ofNat 16 n) }
        else { u with cmd := { u.cmd with
          queue := setCmdState u.cmd.queue c.slot (.finishing r (BitVec.ofNat 16 n) ids) } }) rest r n

/-! ### The command unit (chapter 8) -/

/-- R147: the oldest QUEUED command starts, out of reset, with no Restart under way (R154), when the command unit does not
wait for a place: it waits while the own-write queue is full (R150); a command whose kind code names none of the nineteen kinds is decided BAD_KIND with detail 0. R149,
R151, R154: the head of the completion list completes: its trailer is handed on and enters the shadow, the completion
count rises, the command leaves the queue with its Copy Map and its Restart, and a COMMAND_DONE notice follows when the
record asks for it. R147, R150: a command that is refused or completes at start completes within its start, the entries
ahead of it first, and there is a place for each; a command that runs on is left as it is, and what an Abort adds to the list
beyond the places that are free stays. That the unit waits too while the places left are those that other producers wait for
or that the entries of its list are to take is the model's reading (DEDUCED, log 33). R151, 10.3: where a record
has its kind code, tag and notify flag, the station and lane it names, and the outcome codes. -/
def Obligations.CommandCompletes : Prop :=
  let completed (s : State) (h : Completed) (rest : List Completed) : State :=
    let count := s.cmd.completionCount + 1
    let trailer := le 1 0 ++ le 1 h.result.code ++ le 2 h.detail.toNat ++ le 4 count.toNat
    { s with
      path := handed s.path .commandUnit
        (BitVec.ofNat 32 (cmdWindowBase (s.path.cmdBase.getD 0) + 64 * h.slot.val + 56)) (beatsOf 1 trailer)
      cmd := { s.cmd with
        completionCount := count, completions := rest
        queue := s.cmd.queue.filter fun c => decide (c.slot ≠ h.slot)
        copies := s.cmd.copies.filter fun r => decide (r.slot ≠ h.slot)
        shadows := s.cmd.shadows.set h.slot ((s.cmd.shadows.get h.slot).mapIdx fun i old =>
          if 56 ≤ i then trailer.getD (i - 56) 0 else old)
        restart := match s.cmd.restart with
          | some r => if r.cleared = true ∧ r.slot = h.slot then none else some r
          | none => none }
      notices := if notifyOf h.bytes then s.notices.take
          { kind := .commandDone, station := stationNamed h.bytes, lane := laneNamed h.bytes, cell := 0xFFFF,
            cycle := 0, time := 0, v3 := count
            v1 := BitVec.ofNat 32 (h.slot.val + 256 * tagOf h.bytes + 65536 * h.result.code)
            v2 := BitVec.ofNat 32 (h.detail.toNat + 65536 * kindCode h.bytes) }
        else s.notices }
  (∀ (s : State) (c : Cmd), nextStart s = some c ↔ OutOfReset s ∧ s.cmd.restart = none
    ∧ s.path.waits = [] ∧ s.path.own.length + s.cmd.completions.length < 8
    ∧ ∃ front back, s.cmd.queue = front ++ c :: back ∧ c.state = .queued ∧ ∀ x ∈ front, x.state ≠ .queued)
  ∧ (∀ (s : State) (c : Cmd), CommandLaw s → nextStart s = some c → kindCode c.bytes = 0 ∨ 19 < kindCode c.bytes →
    exec .badKind s = .next (commit s (completeStarted c { s with cmd := ended s.cmd c .badKind 0 })))
  ∧ (∀ (s : State) (h : Completed) (rest : List Completed), OutOfReset s → placeFor s .commandUnit = true →
    s.cmd.completions = h :: rest →
    exec .completion s = .next (commit s (completed s h rest)))
  ∧ (∀ (u : State) (c d : Cmd), CommandLaw u → d ∈ u.cmd.queue → d.slot = c.slot →
    (d.state = .queued ∨ d.state = .running → completeStarted c u = u)
    ∧ (placeFor u .commandUnit = false → completeStarted c u = u)
    ∧ ∀ r x ids h rest, d.state = .finishing r x ids → placeFor u .commandUnit = true → u.cmd.completions = h :: rest →
      (h.slot ≠ c.slot → completeStarted c u = completeStarted c (completed u h rest))
      ∧ (h.slot = c.slot → rest = [] → completeStarted c u = completed u h []))
  ∧ (∀ (s u : State) (c : Cmd) (r : Result) (x : BitVec 16), CommandLaw s → nextStart s = some c →
    u.cmd = ended s.cmd c r x → u.path.waits = s.path.waits → u.path.own.length = s.path.own.length →
    completeStarted c u = u.cmd.completions.foldl (fun t h => completed t h (t.cmd.completions.drop 1)) u)
  ∧ (∀ r : CmdBytes,
    let l := r.toList
    kindCode r = u16 l 0 ∧ tagOf r = u8 l 2 ∧ (notifyOf r = true ↔ u8 l 3 % 2 = 1)
    ∧ stationNamed r = (if u16 l 0 = 1 then u8 l 5 else if 6 ≤ u16 l 0 ∧ u16 l 0 ≤ 12 then u8 l 4 else 255)
    ∧ laneNamed r = if (1 ≤ u16 l 0 ∧ u16 l 0 ≤ 5) ∨ u16 l 0 = 13 ∨ u16 l 0 = 14 then u8 l 4 else 255)
  ∧ ([.done, .pass, .fail, .timeout, .aborted, .badKind, .badParam, .overlap, .notReady, .stationRunning, .laneBusy,
      .roleTaken, .tagInUse, .notFound, .full, .fault] : List Result).map Result.code
    = [0x01, 0x02, 0x03, 0x04, 0x05, 0x10, 0x11, 0x12, 0x13, 0x14, 0x15, 0x16, 0x17, 0x18, 0x19, 0x1A]

/-! ### The kinds of command

`Starts s c kind` says that command `c` starts next; `ended` and `running` say what the command unit becomes; and
`completeStarted c u` is `u` once `c` has completed within its start (R147), as CommandCompletes says. -/

/-- R2, R3, R115, R129: a Map Lane that passes its tests makes the lane IDLE with the mapping given and everything else
as Map Lane sets it, its segments mapped one to one with the spares free, its holds gone; it completes DONE with
detail 0. R134, R135: the overlap check of every command that places a window fails when its span shares a byte with the
command window, a lane window, the notice ring, the status block or a Copy Map destination that is not excepted, or with an
own write in the queue whose producer is not. -/
def Obligations.MapLaneTakes : Prop :=
  (∀ (s : State) (c : Cmd) (lane : Fin 16) (m : Mapping), CommandLaw s → Starts s c 0x01 →
    let l := c.bytes.toList
    u8 l 4 = lane.val → u8 l 5 = m.station.val → roleOf (u8 l 6) = some m.role → u8 l 7 = m.master.val →
    m.master.val ≤ 14 → u32 l 8 = m.base.toNat → u32 l 8 % 4096 = 0 → u16 l 12 = m.blocks →
    m.blocks ∈ [32, 64, 128, 256, 512, 1024] → u8 l 14 = m.logical → 2 ≤ m.logical → m.logical ≤ 12 →
    u8 l 15 = m.spares → m.spares ≤ 4 → u32 l 8 + (m.logical + m.spares) * (m.blocks * 128) ≤ 4294967296 →
    (s.lane lane).state ≠ .test → (s.station m.station).state = .stopped → StationStopped s lane →
    (∀ i x, i ≠ lane → (s.lane i).mapping = some x → x.station = m.station → x.role ≠ m.role) →
    windowClash s m.base.toNat ((m.logical + m.spares) * (m.blocks * 128)) (fun w => decide (w = .lane lane))
      (fun _ => false) = false →
    exec .mapLane s = .next (commit s (completeStarted c { s with
      lanes := s.lanes.set lane { Lane.reset with state := .idle, mapping := some m }
      segs := s.segs.set lane
        { table := some
            { map := List.range m.logical, free := (List.range m.spares).map (· + m.logical), position := none,
              ranges := List.replicate (m.logical + m.spares) none }
          held := 0, dropped := 0 }
      holds := s.holds.filter fun h => decide (h.lane ≠ lane)
      cmd := ended s.cmd c .done 0 })))
  ∧ ∀ (s : State) (base size : Nat) (spared : WindowKind → Bool) (sparedWrite : Producer → Bool),
    let shares (b n : Nat) : Prop := base < b + n ∧ b < base + size
    windowClash s base size spared sparedWrite = true ↔
      (∃ v : BitVec 8, s.path.cmdBase = some v ∧ spared .command = false ∧ shares (v.toNat * 16777216) 2048)
      ∨ (∃ i m, (s.lane i).mapping = some m ∧ spared (.lane i) = false
        ∧ shares m.base.toNat ((m.logical + m.spares) * (m.blocks * 128)))
      ∨ (∃ r, s.notices.ring = some r ∧ spared .ring = false ∧ shares r.base.toNat (r.entries * 32))
      ∨ (∃ b, s.status.place = some b ∧ spared .status = false ∧ shares b.base.toNat 1024)
      ∨ (∃ r ∈ s.cmd.copies, spared (.copy r.slot) = false ∧ shares r.dest.toNat 3072)
      ∨ ∃ w ∈ s.path.own, sparedWrite w.producer = false ∧ shares w.addr.toNat (8 * w.beats.length)

/-- R4, R129: Unmap Lane makes a lane of no station or a STOPPED one UNMAPPED, keeping its three counters and its
last-test record; an UNMAPPED lane is left alone. It completes DONE with detail 0. -/
def Obligations.UnmapLaneTakes : Prop :=
  ∀ (s : State) (c : Cmd) (lane : Fin 16), CommandLaw s → Starts s c 0x02 → u8 c.bytes.toList 4 = lane.val →
    (s.lane lane).state ≠ .test → StationStopped s lane →
    let l := s.lane lane
    (l.state = .unmapped → exec .unmapLane s = .next (commit s (completeStarted c { s with cmd := ended s.cmd c .done 0 })))
    ∧ (l.state ≠ .unmapped → exec .unmapLane s = .next (commit s (completeStarted c { s with
        lanes := s.lanes.set lane { Lane.reset with
          badBlocks := l.badBlocks, skipped := l.skipped, foreign := l.foreign, lastTest := l.lastTest }
        segs := s.segs.set lane { table := none, held := 0, dropped := 0 }
        holds := s.holds.filter fun h => decide (h.lane ≠ lane)
        cmd := ended s.cmd c .done 0 })))

/-- R5, R15, R168: Set Lane Conditioning stores its five settings, clamped, and completes DONE with the count of clamped
fields; a lane whose silence timer then stands at its new limit is FAULTED. Both come about at the command's completion,
which is within its start (R147; CommandCompletes); that LANE_FAULT joins the queue before COMMAND_DONE is the model's choice
(log 19). -/
def Obligations.ConditioningTakes : Prop :=
  ∀ (s : State) (c : Cmd) (lane : Fin 16) (mode : OffsetMode), CommandLaw s → Starts s c 0x03 →
    let l := c.bytes.toList
    u8 l 4 = lane.val → offsetModeOf (u8 l 5) = some mode → (s.lane lane).state ≠ .unmapped →
    let range := min 4095 (u16 l 6)
    let fixed := max (-4095) (min 4095 (s16 l 8))
    let given : Int := if 128 ≤ u8 l 10 then -((u8 l 10 - 128 : Nat) : Int) else (u8 l 10 : Int)
    let trim := max (-31) (min 31 given)
    let x : Lane := { s.lane lane with
      offsetMode := mode, offsetRange := range, fixedOffset := fixed, trim := trim, silenceLimit := u8 l 11 }
    let n := (if u16 l 6 = range then 0 else 1) + (if s16 l 8 = fixed then 0 else 1) + (if given = trim then 0 else 1)
    let u : State := { s with lanes := s.lanes.set lane x, cmd := ended s.cmd c .done (BitVec.ofNat 16 n) }
    exec .setLaneConditioning s = .next (commit s (completeStarted c (if x.silent then faultLane u lane .silent else u)))

/-- R20: Test Lane puts a mapped lane of a STOPPED station into TEST with its queue discarded and a fresh test of the
clamped values; the command is RUNNING. -/
def Obligations.TestLaneStarts : Prop :=
  ∀ (s : State) (c : Cmd) (lane : Fin 16), CommandLaw s → Starts s c 0x04 →
    let l := c.bytes.toList
    u8 l 4 = lane.val → (s.lane lane).state ≠ .unmapped → (s.lane lane).state ≠ .test → StationStopped s lane →
    let n := max 1 (min 65535 (u16 l 6))
    let e := min 16777215 (u32 l 8)
    let t := max 1 (min 60 (u8 l 12))
    exec .testLane s = .next (commit s { s with
      lanes := s.lanes.set lane { s.lane lane with
        state := .test, queue := [], breakDue := true, badRun := 0, goodRun := 0, faultReason := none,
        silenceTimer := none
        test := some
          { slot := c.slot, blocks := n, limit := e, timeoutUs := t * 1000000, elapsed := 0, errors := 0, counted := 0,
            generator := none, unseedDue := false
            clampedFields := (if u16 l 6 = n then 0 else 1) + (if u32 l 8 = e then 0 else 1)
              + (if u8 l 12 = t then 0 else 1) } }
      cmd := running s.cmd c })

/-- R44: Set Detection stores its eight settings, the five tuning fields clamped, and completes DONE with the count of
clamped fields. It completes within its start (R147; CommandCompletes), so that they act from its completion on (R45). -/
def Obligations.DetectionTakes : Prop :=
  ∀ (s : State) (c : Cmd) (lane : Fin 16) (mode : ThresholdMode) (src : WindowSource), CommandLaw s → Starts s c 0x05 →
    let l := c.bytes.toList
    u8 l 4 = lane.val → thresholdModeOf (u8 l 5) = some mode → sourceOf (u8 l 6) = some src →
    u16 l 8 ∈ [128, 256, 512, 1024] → (s.lane lane).state ≠ .unmapped →
    let gain := max 8 (min 255 (u8 l 7))
    let offset := min 4095 (u16 l 12)
    let manual := max 16 (min 32767 (u16 l 10))
    let dead := max 8 (min 4095 (u16 l 14))
    let rearm := min 4095 (u16 l 16)
    exec .setDetection s = .next (commit s (completeStarted c { s with
      lanes := s.lanes.set lane { s.lane lane with detect :=
        { mode := mode, gain := gain, thresholdOffset := offset, manual := manual, deadTime := dead, rearmTime := rearm,
          windowLength := u16 l 8, source := src } }
      cmd := ended s.cmd c .done (BitVec.ofNat 16 ((if u8 l 7 = gain then 0 else 1) + (if u16 l 12 = offset then 0 else 1)
        + (if u16 l 10 = manual then 0 else 1) + (if u16 l 14 = dead then 0 else 1)
        + (if u16 l 16 = rearm then 0 else 1))) }))

/-- R46, R47: Set Station replaces the ten settings of a STOPPED station, six of them clamped, when the clamped start
level is above the clamped stop level, and completes DONE with the count of clamped fields. -/
def Obligations.StationSet : Prop :=
  ∀ (s : State) (c : Cmd) (k : Fin 4) (policy : HoldPolicy), CommandLaw s → Starts s c 0x06 →
    let l := c.bytes.toList
    u8 l 4 = k.val → policyOf (u8 l 5) = some policy → (s.station k).state = .stopped →
    let start := max 1 (min 32767 (u16 l 8))
    let stop := max 1 (min 32767 (u16 l 10))
    let tail := max 1 (min 4095 (u16 l 12))
    let window := max 1 (min 8191 (u16 l 14))
    let ws := min 63 (u8 l 16)
    let we := min 63 (u8 l 17)
    stop < start →
    exec .setStation s = .next (commit s (completeStarted c { s with
      stations := s.stations.set k { s.station k with settings :=
        { startLevel := start, stopLevel := stop, tailBlocks := tail, quietCode := u8 l 6, window := window, ws := ws,
          we := we, unlocatedLimit := u16 l 18, summaryInterval := u8 l 7, policy := policy } }
      cmd := ended s.cmd c .done (BitVec.ofNat 16 ((if u16 l 8 = start then 0 else 1) + (if u16 l 10 = stop then 0 else 1)
        + (if u16 l 12 = tail then 0 else 1) + (if u16 l 14 = window then 0 else 1) + (if u8 l 16 = ws then 0 else 1)
        + (if u8 l 17 = we then 0 else 1))) }))

/-- R13, R48, R108: Start Station starts a STOPPED station with a vibration lane, at least two AE lanes and none in TEST:
it is WAITING, or BLIND when its vibration lane is FAULTED; its IDLE lanes enter SETTLING or LIVE; its period, crossings
and summary begin afresh. -/
def Obligations.StationStarts : Prop :=
  ∀ (s : State) (c : Cmd) (k : Fin 4) (v : Fin 16), CommandLaw s → Starts s c 0x07 → u8 c.bytes.toList 4 = k.val →
    (s.station k).state = .stopped → s.vibrationLane k = some v →
    2 ≤ ((s.lanesOf k).filter fun i => (s.lane i).isAE).length → (∀ i ∈ s.lanesOf k, (s.lane i).state ≠ .test) →
    let st : StationState := if (s.lane v).state = .faulted then .blind else .waiting
    let settled (l : Lane) : Bool := l.isVibration || decide (l.detect.mode = .manual) || l.noiseValid
    exec .startStation s = .next (commit s (completeStarted c { s with
      lanes := s.lanes.map fun l => if l.stationOf = some k ∧ l.state = .idle then { l with
          state := if settled l then .live else .settling
          silenceTimer := some 0, liveDue := false
          settleCount := if settled l then l.settleCount else 0 } else l
      stations := s.stations.set k { s.station k with
        state := st, tail := 0, quietTimer := if st = .waiting then some 0 else none, period := none, rejectRun := 0,
        history := [], measureRef := none, prevSample := none, primed := false,
        sumCounter := (s.station k).settings.summaryInterval, totals := .zero }
      cmd := ended s.cmd c .done 0 }))

/-- R13, R24, R49, R67, R94: Stop Station leaves a STOPPED station alone; any other becomes STOPPED with its period,
crossings, boundary queue, pool and cycle tallies emptied, and its SETTLING, LIVE and FAULTED lanes become IDLE with their
queues and detectors reset. -/
def Obligations.StationStops : Prop :=
  ∀ (s : State) (c : Cmd) (k : Fin 4), CommandLaw s → Starts s c 0x08 → u8 c.bytes.toList 4 = k.val →
    ((s.station k).state = .stopped →
      exec .stopStation s = .next (commit s (completeStarted c { s with cmd := ended s.cmd c .done 0 })))
    ∧ ((s.station k).state ≠ .stopped → exec .stopStation s = .next (commit s (completeStarted c { s with
      lanes := s.lanes.map fun l =>
        if l.stationOf = some k ∧ (l.state = .settling ∨ l.state = .live ∨ l.state = .faulted) then { l with
          state := .idle, queue := [], breakDue := true, detector := .armed, hit := none, rearmCount := 0,
          silenceTimer := none, settleCount := 0, liveDue := false
          faultReason := if l.state = .faulted then none else l.faultReason
          badRun := if l.state = .faulted then 0 else l.badRun
          goodRun := if l.state = .faulted then 0 else l.goodRun } else l
      stations := s.stations.set k { s.station k with
        state := .stopped, quietTimer := none, tail := 0, period := none, rejectRun := 0, history := [],
        measureRef := none, prevSample := none, primed := false, boundary := [], pool := [], located := 0,
        unlocated := 0
        cells := (s.station k).cells.map fun x => { x with events := 0, coherent := 0, energy := 0, peak := 0 } }
      cmd := ended s.cmd c .done 0 })))

/-- R77: Set Location Line, on a STOPPED station, sets a line's form, roles, Tmax (clamped) and increments, and clears the
line's 32 cells. The last clause, a DISABLED line keeping its other fields, is the model's choice (log 22). -/
def Obligations.LocationLineSet : Prop :=
  ∀ (s : State) (c : Cmd) (k : Fin 4) (n : Fin 3), CommandLaw s → Starts s c 0x09 →
    let l := c.bytes.toList
    u8 l 4 = k.val → u8 l 5 = n.val → (s.station k).state = .stopped →
    let tmax := max 4 (min 4095 (u16 l 10))
    let d := BitVec.ofNat 16 (if u16 l 10 = tmax then 0 else 1)
    let after (x : Line) (d : BitVec 16) : Reply := .next (commit s (completeStarted c { s with
      stations := s.stations.set k { s.station k with
        lines := (s.station k).lines.set n x
        cells := (s.station k).cells.mapIdx fun j y => if j / 32 = n.val then .cleared else y }
      cmd := ended s.cmd c .done d }))
    (u8 l 6 = 1 → u8 l 7 ≤ 5 → u8 l 8 ≤ 5 → u8 l 7 ≠ u8 l 8 → exec .setLocationLine s = after
      { form := .linear, roleA := u8 l 7, roleB := u8 l 8, tmax := tmax,
        increments := Vector.replicate 8 (min 65535 (1048576 / (2 * tmax))) } d)
    ∧ (u8 l 6 = 2 → u8 l 7 ≤ 5 → u8 l 8 ≤ 5 → u8 l 7 ≠ u8 l 8 → exec .setLocationLine s = after
      { form := .table, roleA := u8 l 7, roleB := u8 l 8, tmax := tmax,
        increments := Vector.ofFn fun i : Fin 8 => u16 l (12 + 2 * i.val) } d)
    ∧ (u8 l 6 = 0 → exec .setLocationLine s = after { (s.station k).lines.get n with form := .disabled } 0)

/-- R91, R92: Set Map Criteria replaces a station's seven criteria, six of them clamped, and completes DONE with the count
of clamped fields. It completes within its start (R147; CommandCompletes), so that they act from its completion on. -/
def Obligations.MapCriteriaSet : Prop :=
  ∀ (s : State) (c : Cmd) (k : Fin 4), CommandLaw s → Starts s c 0x0A →
    let l := c.bytes.toList
    u8 l 4 = k.val →
    let ev := max 1 (min 255 (u8 l 5))
    let f := min 16 (u8 l 6)
    let lock := max 1 (min 15 (u8 l 7))
    let drop := max 1 (min 15 (u8 l 8))
    let fade := max 1 (min 15 (u8 l 9))
    let surge := max 2 (min 15 (u8 l 10))
    exec .setMapCriteria s = .next (commit s (completeStarted c { s with
      stations := s.stations.set k { s.station k with criteria :=
        { minEvents := ev, fraction := f, minEnergy := u32 l 12, lock := lock, drop := drop, fade := fade, surge := surge } }
      cmd := ended s.cmd c .done (BitVec.ofNat 16 ((if u8 l 5 = ev then 0 else 1) + (if u8 l 6 = f then 0 else 1)
        + (if u8 l 7 = lock then 0 else 1) + (if u8 l 8 = drop then 0 else 1) + (if u8 l 9 = fade then 0 else 1)
        + (if u8 l 10 = surge then 0 else 1))) }))

/-- R90, R110, R111: Clear Cells clears the cells a line and a cell, or ALL, name and completes DONE with the number of
them that were not CLEAR; no other cell changes. -/
def Obligations.CellsCleared : Prop :=
  ∀ (s : State) (c : Cmd) (k : Fin 4), CommandLaw s → Starts s c 0x0B →
    let l := c.bytes.toList
    u8 l 4 = k.val → (u8 l 5 ≤ 2 ∨ u8 l 5 = 255) → (u8 l 6 ≤ 31 ∨ u8 l 6 = 255) →
    let named (j : Nat) : Prop := (u8 l 5 = 255 ∨ j / 32 = u8 l 5) ∧ (u8 l 6 = 255 ∨ j % 32 = u8 l 6)
    ∃ cells : Vector Cell 96,
      (∀ j : Fin 96, (named j.val → cells.get j = .cleared) ∧ (¬named j.val → cells.get j = (s.station k).cells.get j))
      ∧ exec .clearCells s = .next (commit s (completeStarted c { s with
          stations := s.stations.set k { s.station k with cells := cells }
          cmd := ended s.cmd c .done (BitVec.ofNat 16 ((List.finRange 96).countP fun j =>
            (decide (u8 l 5 = 255) || decide (j.val / 32 = u8 l 5)) && (decide (u8 l 6 = 255) || decide (j.val % 32 = u8 l 6))
              && decide (((s.station k).cells.get j).state ≠ .clear))) }))

/-- R112, R113, R114: Copy Map takes the snapshot and becomes RUNNING; each hand-on writes the next 128 bytes of cell
records; the answer to the twenty-fourth write DONE completes it with detail 24. A FAULT answer stops it: it is decided
FAULT at once (DEDUCED, log 17), stays FINISHING while writes already handed on are unanswered, and completes with the count of those answered
DONE. The answers to the writes of one that is FINISHING, by a FAULT or by an Abort (AbortEnds), only add to that count.
Other Copy Maps under way are left as they are throughout. The 32 bytes of a cell record are those of 10.5. -/
def Obligations.CopyMapRuns : Prop :=
  (∀ (s : State) (c : Cmd) (k : Fin 4), CommandLaw s → Starts s c 0x0C → u8 c.bytes.toList 4 = k.val →
    u32 c.bytes.toList 8 % 4096 = 0 →
    windowClash s (u32 c.bytes.toList 8) 3072 (fun _ => false) (fun _ => false) = false →
    exec .copyMap s = .next (commit s { s with cmd := { running s.cmd c with
      copies := s.cmd.copies ++ [{ slot := c.slot, dest := BitVec.ofNat 32 (u32 c.bytes.toList 8),
                                   snapshot := (s.station k).cells, handed := 0, done := 0, stopped := false }] } }))
  ∧ (∀ (s : State) (r : CopyRun), OutOfReset s → placeFor s (.crackMap r.slot) = true →
    s.cmd.copies.find? (fun x => decide (x.slot = r.slot)) = some r → r.stopped = false → r.handed < 24 →
    exec (.snapshotWriteHandOn r.slot) s = .next (commit s { s with
      path := handed s.path (.crackMap r.slot) (r.dest + BitVec.ofNat 32 (128 * r.handed))
        (beatsOf 16 (((r.snapshot.toList.drop (4 * r.handed)).take 4).flatMap cellBytes))
      cmd := { s.cmd with copies := s.cmd.copies.map fun x =>
        if x.slot = r.slot then { x with handed := x.handed + 1 } else x } }))
  ∧ (∀ (s : State) (w : OwnWrite) (r : CopyRun) (c : Cmd), CommandLaw s → PathLaw s → OutOfReset s → w ∈ s.path.own →
    w.issued = true → w.producer = .crackMap r.slot → r ∈ s.cmd.copies →
    c ∈ s.cmd.queue → c.slot = r.slot →
    let copies (y : CopyRun) : List CopyRun := s.cmd.copies.map fun x => if x.slot = r.slot then y else x
    let after (u : CommandUnit) (y : CopyRun) : Reply := .next (commit s (settleAwaiting { s with
      path := answered s.path w, cmd := { u with copies := copies y } } w.id))
    let left := (s.path.own.filter fun x => decide (x.id ≠ w.id ∧ x.producer = .crackMap r.slot)).map (·.id)
    (r.done ≠ 23 ∨ c.state ≠ .running →
      exec (.ownWriteResponse w.id .done) s = after s.cmd { r with done := r.done + 1 })
    ∧ (r.done = 23 → c.state = .running →
      exec (.ownWriteResponse w.id .done) s = after (ended s.cmd c .done 24) { r with done := 24 })
    ∧ (c.state ≠ .running → exec (.ownWriteResponse w.id .fault) s = after s.cmd { r with stopped := true })
    ∧ (c.state = .running → exec (.ownWriteResponse w.id .fault) s = after { s.cmd with
        queue := setCmdState s.cmd.queue c.slot (.finishing .fault 0 left)
        completions := if left = [] then s.cmd.completions ++
            [{ slot := c.slot, bytes := c.bytes, result := .fault, detail := BitVec.ofNat 16 r.done }]
          else s.cmd.completions } { r with stopped := true }))
  ∧ ∀ c : Cell, let b := cellBytes c
    b.length = 32 ∧ (u8 b 0 = match c.state with | .clear => 0 | .suspect => 1 | .confirmed => 2 | .fading => 3)
    ∧ u8 b 1 = c.lock % 256 ∧ u8 b 2 = c.unlock % 256 ∧ u8 b 3 = c.history.length % 256
    ∧ (∀ k < 16, u16 b 4 / 2 ^ k % 2 = 1 ↔ c.history[k]? = some true)
    ∧ u16 b 6 = c.events % 65536 ∧ u16 b 8 = c.coherent % 65536 ∧ u16 b 10 = c.peak % 65536
    ∧ u32 b 12 = c.energy % 4294967296 ∧ u32 b 16 = c.totalEvents % 4294967296 ∧ u32 b 20 = c.totalActive % 4294967296
    ∧ u32 b 24 = c.lastChange.toNat ∧ u32 b 28 = c.reference.getD 0 % 4294967296

/-! ### Holds (chapter 6) -/

/-- R121, R123: Hold Segment, by what the hold list and the map hold of the segment: a new PENDING entry with detail 0, a
merge with a PENDING entry, detail 1, or with a HELD one, detail 2, FULL with 64 entries, or NOT_FOUND for a free segment. -/
def Obligations.SegmentHeld : Prop :=
  ∀ (s : State) (c : Cmd) (lane : Fin 16) (m : Mapping) (t : SegTable), CommandLaw s → Starts s c 0x0D →
    let p := u8 c.bytes.toList 5
    u8 c.bytes.toList 4 = lane.val → (s.lane lane).mapping = some m → (s.seg lane).table = some t →
    p < m.logical + m.spares →
    (∀ h, h ∈ s.holds → h.lane = lane → h.segment = p → (∀ x ∈ s.holds, x.lane = lane → x.segment = p → x = h) →
      exec .holdSegment s = .next (commit s (completeStarted c { s with
        cmd := ended s.cmd c .done (if h.state = .pending then 1 else 2) })))
    ∧ ((∀ h ∈ s.holds, h.lane = lane → h.segment ≠ p) →
      (p ∉ t.map →
        exec .holdSegment s = .next (commit s (completeStarted c { s with cmd := ended s.cmd c .notFound 0 })))
      ∧ (p ∈ t.map → 64 ≤ s.holds.length →
        exec .holdSegment s = .next (commit s (completeStarted c { s with cmd := ended s.cmd c .full 0 })))
      ∧ (p ∈ t.map → s.holds.length < 64 → exec .holdSegment s = .next (commit s (completeStarted c { s with
          holds := s.holds ++ [{ lane := lane, segment := p, logical := t.map.idxOf p, state := .pending,
                                 reason := .command, range := none }]
          cmd := ended s.cmd c .done 0 }))))

/-- R119, R127: Release Hold removes the holds of a lane that a segment, or ALL, names, each HELD one giving its segment
back to the free list in its place and without a range, and completes DONE with their number. -/
def Obligations.HoldReleased : Prop :=
  ∀ (s : State) (c : Cmd) (lane : Fin 16) (m : Mapping), CommandLaw s → Starts s c 0x0E →
    let p := u8 c.bytes.toList 5
    let named := s.holds.filter fun h => decide (h.lane = lane ∧ (p = 255 ∨ h.segment = p))
    u8 c.bytes.toList 4 = lane.val → (s.lane lane).mapping = some m → (p = 255 ∨ p < m.logical + m.spares ∧ p ≤ 15) →
    named ≠ [] →
    exec .releaseHold s = .next (commit s (completeStarted c { s with
      segs := s.segs.set lane (named.foldl (fun g h => if h.state = .held then { g with
          table := g.table.map fun t =>
            { t with free := insertAscending h.segment t.free, ranges := t.ranges.set h.segment none }
          held := g.held - 1 } else g) (s.seg lane))
      holds := s.holds.filter fun h => decide (¬(h.lane = lane ∧ (p = 255 ∨ h.segment = p)))
      cmd := ended s.cmd c .done (BitVec.ofNat 16 named.length) }))

/-! ### Commands about commands (chapter 8) -/

/-- R152: an Abort acts on every other QUEUED or RUNNING command that its tag, or ALL, names, in queue order, and completes
DONE with their number; said whole for one target that is QUEUED or a RUNNING Test Lane. A tag that names none is
NOT_FOUND, and ALL that names none is DONE with detail 0. What it does to a target: a QUEUED one is decided ABORTED with
detail 0 at once, and so is a RUNNING Test Lane, its test ending ABORTED. A RUNNING Copy Map hands on no further write and
stays FINISHING until those handed on are answered, its detail the count of those answered DONE (R114). A RUNNING Write
Status leaves the waiting or the served commands and stays FINISHING until the parts handed on for it are answered, those
of a write that Set Status Block cut among them (R166; which parts are on its account is DEDUCED, log 18); a write of
reason COMMAND that then serves none is cut short, the change flag set, and the writer IDLE once its parts are answered. -/
def Obligations.AbortEnds : Prop :=
  (∀ (s : State) (c : Cmd), CommandLaw s → Starts s c 0x0F →
    let target := u16 c.bytes.toList 4
    let named := s.cmd.queue.filter fun d => decide (d.slot ≠ c.slot ∧ (d.state = .queued ∨ d.state = .running)
      ∧ (target = 65535 ∨ tagOf d.bytes = target))
    (target ≤ 255 ∨ target = 65535) →
    (∀ d, named = [d] → d.state = .queued →
      exec .abort s = .next (commit s (completeStarted c { s with
        cmd := ended (ended s.cmd d .aborted 0) c .done 1 })))
    ∧ (∀ d i r, named = [d] → d.state = .running → kindCode d.bytes = 0x04 → testLaneOf s d.slot = some i →
      (s.lane i).test = some r → (∀ x ∈ s.cmd.copies, x.slot ≠ d.slot) →
      exec .abort s = .next (commit s (completeStarted c { s with
        lanes := s.lanes.set i { s.lane i with
          state := .idle, test := none, queue := [], breakDue := true, badRun := 0, goodRun := 0,
          lastTest := { result := .aborted, errors := r.errors, counted := r.counted } }
        cmd := ended (ended s.cmd d .aborted 0) c .done 1 })))
    ∧ (named ≠ [] ∨ target = 65535 →
      let u := named.foldl abortTarget s
      exec .abort s = .next (commit s (completeStarted c { u with
        cmd := ended u.cmd c .done (BitVec.ofNat 16 named.length) })))
    ∧ (named = [] → target ≤ 255 →
      exec .abort s = .next (commit s (completeStarted c { s with cmd := ended s.cmd c .notFound 0 })))
    ∧ (named = [] → target = 65535 →
      exec .abort s = .next (commit s (completeStarted c { s with cmd := ended s.cmd c .done 0 }))))
  ∧ ∀ (u : State) (d : Cmd), CommandLaw u → d ∈ u.cmd.queue →
    let noCopy := ∀ x ∈ u.cmd.copies, x.slot ≠ d.slot
    let aborted (left : List Nat) (detail : BitVec 16) : CommandUnit := { u.cmd with
      queue := setCmdState u.cmd.queue d.slot (.finishing .aborted 0 left)
      completions := if left = [] then u.cmd.completions ++
          [{ slot := d.slot, bytes := d.bytes, result := .aborted, detail := detail }] else u.cmd.completions }
    let carried := (u.status.carried.filter fun x => decide (x.1 = d.slot)).map (·.2)
    let ids (p : Producer) : List Nat := (u.path.own.filter fun w => decide (w.producer = p)).map (·.id)
    (d.state = .queued → abortTarget u d = { u with cmd := aborted [] 0 })
    ∧ (∀ i r, d.state = .running → kindCode d.bytes = 0x04 → noCopy → testLaneOf u d.slot = some i →
      (u.lane i).test = some r → abortTarget u d = { u with
        lanes := u.lanes.set i { u.lane i with
          state := .idle, test := none, queue := [], breakDue := true, badRun := 0, goodRun := 0,
          lastTest := { result := .aborted, errors := r.errors, counted := r.counted } }
        cmd := aborted [] 0 })
    ∧ (∀ r, d.state = .running → kindCode d.bytes = 0x0C →
      u.cmd.copies.find? (fun x => decide (x.slot = d.slot)) = some r →
      abortTarget u d = { u with cmd := { aborted (ids (.crackMap d.slot)) (BitVec.ofNat 16 r.done) with
        copies := u.cmd.copies.map fun x => if x.slot = d.slot then { x with stopped := true } else x } })
    ∧ (d.state = .running → kindCode d.bytes = 0x13 → noCopy →
      (d.slot ∈ u.status.waiting → abortTarget u d = { u with
        cmd := aborted carried 0, status := { u.status with waiting := u.status.waiting.erase d.slot } })
      ∧ (d.slot ∉ u.status.waiting → u.status.write = none → abortTarget u d = { u with cmd := aborted carried 0 })
      ∧ ∀ w, d.slot ∉ u.status.waiting → u.status.write = some w →
        let parts := ids (.statusWriter true) ++ carried
        let served := w.served.erase d.slot
        (w.scheduled = true ∨ served ≠ [] → abortTarget u d = { u with
          cmd := aborted parts 0, status := { u.status with write := some { w with served := served } } })
        ∧ (w.scheduled = false → served = [] → w.answered < w.handed → abortTarget u d = { u with
          cmd := aborted parts 0
          status := { u.status with change := true, write := some { w with served := [], cut := true } } })
        ∧ (w.scheduled = false → served = [] → w.handed ≤ w.answered → w.faulted = false → abortTarget u d = { u with
          cmd := aborted parts 0, status := { u.status with change := true, write := none, state := .idle } }))

/-- R142, R154: Restart becomes RUNNING and ends every other command as an Abort of ALL does; once the own-write queue and
the completion list are empty every block takes its Restart values, the command window, the transfers, local time and
Restart's own slot being kept, and Restart is decided DONE with detail 0. -/
def Obligations.RestartRuns : Prop :=
  (∀ (s : State) (c : Cmd), CommandLaw s → Starts s c 0x10 →
    let u := (s.cmd.queue.filter fun d => decide (d.slot ≠ c.slot ∧ (d.state = .queued ∨ d.state = .running))).foldl
      abortTarget { s with cmd := running s.cmd c }
    exec .restart s = .next (commit s { u with cmd :=
      { u.cmd with restart := some { slot := c.slot, bytes := c.bytes, cleared := false } } }))
  ∧ ∀ (s : State) (r : RestartRun), OutOfReset s → s.cmd.restart = some r → r.cleared = false → s.path.own = [] →
    s.path.waits = [] → s.cmd.completions = [] →
    exec .queueDrained s = .next { s with
      path := { s.path with starvation := 0, refusedCount := 0 }
      lanes := Vector.replicate 16 .reset, stations := Vector.replicate 4 .reset, segs := Vector.replicate 16 .reset
      holds := [], notices := .reset, status := .reset
      cmd := { CommandUnit.reset with
        restart := some { r with cleared := true }
        completions := [{ slot := r.slot, bytes := r.bytes, result := .done, detail := 0 }] } }

/-- R161, R162: Set Notice Ring places the ring with its indices at 0 and the writer in WRITING, the internal queue and
the discarded counts kept; notice writes handed on before no longer act on the writer. -/
def Obligations.NoticeRingSet : Prop :=
  ∀ (s : State) (c : Cmd), CommandLaw s → Starts s c 0x11 →
    let l := c.bytes.toList
    let base := u32 l 4
    let n := u16 l 8
    base % 4096 = 0 → n % 16 = 0 → 16 ≤ n → n ≤ 4096 → base + n * 32 ≤ 4294967296 →
    windowClash s base (n * 32) (fun w => decide (w = .ring)) (fun p => decide (p.client = .noticeWriter)) = false →
    exec .setNoticeRing s = .next (commit s (completeStarted c { s with
      path := { s.path with own := s.path.own.map fun w => match w.producer with
        | .noticeWriter _ => { w with producer := .noticeWriter false }
        | _ => w }
      notices := { s.notices with
        ring := some { base := BitVec.ofNat 32 base, entries := n, info := decide (u8 l 10 ≠ 0) }
        p := 0, c := 0, u := 0, unconsumed := [], state := .writing
        overrun := s.notices.overrun && decide (s.notices.discarded ≠ 0) }
      cmd := ended s.cmd c .done 0 }))

/-- R164, R166: Set Status Block places the block and its clamped period and puts the status writer in IDLE with its
contents changed; a write in progress is cut short, its parts no longer acting on the writer, and the commands it served
wait for the next write before those that waited (the model's choice, log 30), the unanswered parts staying on their
account (R166; the model's own record of them, log 18). When a Write Status waits, a write that serves it starts at once,
its snapshot taken before the command's own completion (DEDUCED, log 33). Write Status, in IDLE or WRITING, becomes RUNNING and
waits for the next write. -/
def Obligations.StatusBlockSet : Prop :=
  ∀ (s : State) (c : Cmd), CommandLaw s →
    (Starts s c 0x12 → u32 c.bytes.toList 4 % 1024 = 0 →
      windowClash s (u32 c.bytes.toList 4) 1024 (fun w => decide (w = .status))
        (fun p => decide (p.client = .statusWriter)) = false →
      let period := max 1 (min 1000 (u16 c.bytes.toList 8))
      let served := match s.status.write with | some w => w.served | none => []
      let parts := (s.path.own.filter fun w => decide (w.producer = .statusWriter true)).map (·.id)
      let u : State := { s with
        path := { s.path with own := s.path.own.map fun w => match w.producer with
          | .statusWriter _ => { w with producer := .statusWriter false }
          | _ => w }
        status := { s.status with
          place := some { base := BitVec.ofNat 32 (u32 c.bytes.toList 4), period := period }
          change := true, timer := some 0, state := .idle, write := none, waiting := served ++ s.status.waiting
          carried := s.status.carried ++ served.flatMap fun k => parts.map fun id => (k, id) }
        cmd := ended s.cmd c .done (BitVec.ofNat 16 (if u16 c.bytes.toList 8 = period then 0 else 1)) }
      exec .setStatusBlock s = .next (commit s (completeStarted c
        (if u.status.waiting = [] then u else { u with status := { u.status with
          state := .writing, generation := s.status.generation + 1, change := false, waiting := []
          write := some
            { shown := shown u, generation := s.status.generation + 1, handed := 0, answered := 0, done := 0,
              faulted := false, cut := false, scheduled := false, served := u.status.waiting } } }))))
    ∧ (Starts s c 0x13 → s.status.state = .idle ∨ s.status.state = .writing →
      exec .writeStatus s = .next (commit s { s with
        status := { s.status with waiting := s.status.waiting ++ [c.slot] }
        cmd := running s.cmd c }))

/-- R147 and the tests of R2, R4, R5, R20, R44, R47 to R49, R77, R92, R110, R112, R123, R127, R152, R161, R164, R166, all
of them: a command that fails a test is decided with the outcome of the first test that fails, and nothing else of the
machine changes; it completes with that outcome within its start (R147). BAD_KIND has detail 0; the detail of the others is a free value (log 5). The outcomes FULL and NOT_FOUND
of a pin request and the NOT_FOUND of an Abort, which have detail 0, stand in SegmentHeld and AbortEnds. -/
def Obligations.CommandsRefused : Prop :=
  ∀ (s : State) (c : Cmd), CommandLaw s → nextStart s = some c →
    let l := c.bytes.toList
    let kind := kindCode c.bytes
    (kind = 0 ∨ 19 < kind →
      exec .badKind s = .next (commit s (completeStarted c { s with cmd := ended s.cmd c .badKind 0 })))
    ∧ (kind = 1 → (16 ≤ u8 l 4 ∨ 4 ≤ u8 l 5 ∨ roleOf (u8 l 6) = none ∨ 14 < u8 l 7 ∨ u32 l 8 % 4096 ≠ 0
        ∨ u16 l 12 ∉ [32, 64, 128, 256, 512, 1024] ∨ u8 l 14 < 2 ∨ 12 < u8 l 14 ∨ 4 < u8 l 15
        ∨ 4294967296 < u32 l 8 + (u8 l 14 + u8 l 15) * (u16 l 12 * 128)) → exec .mapLane s = refused s c .badParam)
    ∧ (kind = 1 → mapParams l = none → exec .mapLane s = refused s c .badParam)
    ∧ (∀ i m, kind = 1 → mapParams l = some (i, m) →
      ((s.lane i).state = .test → exec .mapLane s = refused s c .laneBusy)
      ∧ ((s.lane i).state ≠ .test → (s.station m.station).state ≠ .stopped ∨ ¬StationStopped s i →
        exec .mapLane s = refused s c .stationRunning)
      ∧ ((s.lane i).state ≠ .test → (s.station m.station).state = .stopped → StationStopped s i →
        ((∃ j x, j ≠ i ∧ (s.lane j).mapping = some x ∧ x.station = m.station ∧ x.role = m.role) →
          exec .mapLane s = refused s c .roleTaken)
        ∧ ((∀ j x, j ≠ i → (s.lane j).mapping = some x → x.station = m.station → x.role ≠ m.role) →
          windowClash s m.base.toNat ((m.logical + m.spares) * (m.blocks * 128)) (fun w => decide (w = .lane i))
            (fun _ => false) = true → exec .mapLane s = refused s c .overlap)))
    ∧ (kind = 2 → 16 ≤ u8 l 4 → exec .unmapLane s = refused s c .badParam)
    ∧ (∀ i : Fin 16, kind = 2 → u8 l 4 = i.val →
      ((s.lane i).state = .test → exec .unmapLane s = refused s c .laneBusy)
      ∧ ((s.lane i).state ≠ .test → ¬StationStopped s i → exec .unmapLane s = refused s c .stationRunning))
    ∧ (kind = 3 → 16 ≤ u8 l 4 ∨ 2 ≤ u8 l 5 → exec .setLaneConditioning s = refused s c .badParam)
    ∧ (∀ i : Fin 16, kind = 3 → u8 l 4 = i.val → u8 l 5 < 2 → (s.lane i).state = .unmapped →
      exec .setLaneConditioning s = refused s c .notReady)
    ∧ (kind = 4 → 16 ≤ u8 l 4 → exec .testLane s = refused s c .badParam)
    ∧ (∀ i : Fin 16, kind = 4 → u8 l 4 = i.val →
      ((s.lane i).state = .unmapped ∨ ¬StationStopped s i → exec .testLane s = refused s c .notReady)
      ∧ ((s.lane i).state = .test → StationStopped s i → exec .testLane s = refused s c .laneBusy))
    ∧ (kind = 5 → 16 ≤ u8 l 4 ∨ 2 ≤ u8 l 5 ∨ 2 ≤ u8 l 6 ∨ u16 l 8 ∉ [128, 256, 512, 1024] →
      exec .setDetection s = refused s c .badParam)
    ∧ (∀ i : Fin 16, kind = 5 → u8 l 4 = i.val → u8 l 5 < 2 → u8 l 6 < 2 → u16 l 8 ∈ [128, 256, 512, 1024] →
      (s.lane i).state = .unmapped → exec .setDetection s = refused s c .notReady)
    ∧ (kind = 6 → 4 ≤ u8 l 4 ∨ 3 ≤ u8 l 5 → exec .setStation s = refused s c .badParam)
    ∧ (∀ k : Fin 4, kind = 6 → u8 l 4 = k.val → u8 l 5 < 3 →
      ((s.station k).state ≠ .stopped → exec .setStation s = refused s c .stationRunning)
      ∧ ((s.station k).state = .stopped → max 1 (min 32767 (u16 l 8)) ≤ max 1 (min 32767 (u16 l 10)) →
        exec .setStation s = refused s c .badParam))
    ∧ (kind = 7 → 4 ≤ u8 l 4 → exec .startStation s = refused s c .badParam)
    ∧ (∀ k : Fin 4, kind = 7 → u8 l 4 = k.val →
      ((s.station k).state ≠ .stopped → exec .startStation s = refused s c .stationRunning)
      ∧ ((s.station k).state = .stopped → s.vibrationLane k = none
          ∨ ((s.lanesOf k).filter fun i => (s.lane i).isAE).length < 2 ∨ (∃ i ∈ s.lanesOf k, (s.lane i).state = .test) →
        exec .startStation s = refused s c .notReady))
    ∧ (kind = 8 → 4 ≤ u8 l 4 → exec .stopStation s = refused s c .badParam)
    ∧ (kind = 9 → 4 ≤ u8 l 4 ∨ 3 ≤ u8 l 5 ∨ 3 ≤ u8 l 6 → exec .setLocationLine s = refused s c .badParam)
    ∧ (kind = 9 → u8 l 4 < 4 → u8 l 5 < 3 → u8 l 6 = 1 ∨ u8 l 6 = 2 →
      5 < u8 l 7 ∨ 5 < u8 l 8 ∨ u8 l 7 = u8 l 8 → exec .setLocationLine s = refused s c .badParam)
    ∧ (∀ k : Fin 4, kind = 9 → u8 l 4 = k.val → u8 l 5 < 3 →
      u8 l 6 = 0 ∨ ((u8 l 6 = 1 ∨ u8 l 6 = 2) ∧ u8 l 7 ≤ 5 ∧ u8 l 8 ≤ 5 ∧ u8 l 7 ≠ u8 l 8) →
      (s.station k).state ≠ .stopped → exec .setLocationLine s = refused s c .stationRunning)
    ∧ (kind = 10 → 4 ≤ u8 l 4 → exec .setMapCriteria s = refused s c .badParam)
    ∧ (kind = 11 → 4 ≤ u8 l 4 ∨ (2 < u8 l 5 ∧ u8 l 5 ≠ 255) ∨ (31 < u8 l 6 ∧ u8 l 6 ≠ 255) →
      exec .clearCells s = refused s c .badParam)
    ∧ (kind = 12 → 4 ≤ u8 l 4 ∨ u32 l 8 % 4096 ≠ 0 → exec .copyMap s = refused s c .badParam)
    ∧ (kind = 12 → u8 l 4 < 4 → u32 l 8 % 4096 = 0 →
      windowClash s (u32 l 8) 3072 (fun _ => false) (fun _ => false) = true → exec .copyMap s = refused s c .overlap)
    ∧ (kind = 13 → 16 ≤ u8 l 4 → exec .holdSegment s = refused s c .badParam)
    ∧ (∀ i : Fin 16, kind = 13 → u8 l 4 = i.val →
      ((s.lane i).mapping = none → exec .holdSegment s = refused s c .notReady)
      ∧ (∀ m, (s.lane i).mapping = some m → m.logical + m.spares ≤ u8 l 5 →
        exec .holdSegment s = refused s c .badParam))
    ∧ (kind = 14 → 16 ≤ u8 l 4 ∨ (15 < u8 l 5 ∧ u8 l 5 ≠ 255) → exec .releaseHold s = refused s c .badParam)
    ∧ (∀ i : Fin 16, kind = 14 → u8 l 4 = i.val → u8 l 5 ≤ 15 ∨ u8 l 5 = 255 →
      ((s.lane i).mapping = none → exec .releaseHold s = refused s c .notReady)
      ∧ (∀ m, (s.lane i).mapping = some m → u8 l 5 ≠ 255 → m.logical + m.spares ≤ u8 l 5 →
        exec .releaseHold s = refused s c .badParam)
      ∧ ((s.lane i).mapping ≠ none → (∀ m, (s.lane i).mapping = some m → u8 l 5 = 255 ∨ u8 l 5 < m.logical + m.spares) →
        (∀ h ∈ s.holds, h.lane = i → u8 l 5 ≠ 255 ∧ h.segment ≠ u8 l 5) →
        exec .releaseHold s = refused s c .notFound))
    ∧ (kind = 15 → 255 < u16 l 4 → u16 l 4 ≠ 65535 → exec .abort s = refused s c .badParam)
    ∧ (kind = 17 → u32 l 4 % 4096 ≠ 0 ∨ u16 l 8 % 16 ≠ 0 ∨ u16 l 8 < 16 ∨ 4096 < u16 l 8
        ∨ 4294967296 < u32 l 4 + u16 l 8 * 32 → exec .setNoticeRing s = refused s c .badParam)
    ∧ (kind = 17 → u32 l 4 % 4096 = 0 → u16 l 8 % 16 = 0 → 16 ≤ u16 l 8 → u16 l 8 ≤ 4096 →
      u32 l 4 + u16 l 8 * 32 ≤ 4294967296 →
      windowClash s (u32 l 4) (u16 l 8 * 32) (fun w => decide (w = .ring)) (fun p => decide (p.client = .noticeWriter)) = true →
      exec .setNoticeRing s = refused s c .overlap)
    ∧ (kind = 18 → u32 l 4 % 1024 ≠ 0 → exec .setStatusBlock s = refused s c .badParam)
    ∧ (kind = 18 → u32 l 4 % 1024 = 0 →
      windowClash s (u32 l 4) 1024 (fun w => decide (w = .status)) (fun p => decide (p.client = .statusWriter)) = true →
      exec .setStatusBlock s = refused s c .overlap)
    ∧ (kind = 19 → s.status.state = .unset ∨ s.status.state = .stopped → exec .writeStatus s = refused s c .notReady)

/-! ### What every step keeps -/

/-- The capacities of R11, R68, R120, R137, R138 and R157 are kept by every step. -/
def Obligations.CapacitiesKept : Prop :=
  ∀ s t : State, step s = .next t →
    (LaneQueueLaw s → LaneQueueLaw t) ∧ (OwnQueueLaw s → OwnQueueLaw t) ∧ (StarvationLaw s → StarvationLaw t)
    ∧ (NoticeQueueLaw s → NoticeQueueLaw t) ∧ (PoolLaw s → PoolLaw t) ∧ (HoldListLaw s → HoldListLaw t)

/-- R57: the boundary queues keep at most 4 records, numbered one after another up to the cycle number, with only the
tail record of a running compaction open. -/
def Obligations.BoundaryKept : Prop :=
  ∀ s t : State, step s = .next t → BoundaryLaw s → BoundaryLaw t

/-- R116, R120: the mapped, free and held segments of every mapped lane stay its L + S segments, each once, and PENDING
holds wait on the segment their logical segment maps to. -/
def Obligations.SegmentsKept : Prop :=
  ∀ s t : State, step s = .next t → SegmentLaw s → SegmentLaw t

/-- R112, R145, R146, R158: no two commands of the queue come to share a slot or a tag, each Copy Map under way keeps a
started command of its own, and the unconsumed entries of the notice ring stay those from c up to p. -/
def Obligations.CommandsKept : Prop :=
  ∀ s t : State, step s = .next t → (CommandLaw s → CommandLaw t) ∧ (RingLaw s → RingLaw t)

/-- R131, R133, R137: the transfers and own writes keep distinct numbers, and no master's oldest accepted transfer is
left with an answer that was not returned (the numbers are the model's, log 9). -/
def Obligations.PathKept : Prop :=
  ∀ s t : State, step s = .next t → PathLaw s → PathLaw t

/-- The state in hardware reset meets every law that the statements use. -/
def Obligations.ResetMeetsLaws : Prop :=
  LaneQueueLaw State.reset ∧ OwnQueueLaw State.reset ∧ StarvationLaw State.reset ∧ NoticeQueueLaw State.reset
    ∧ PoolLaw State.reset ∧ HoldListLaw State.reset ∧ BoundaryLaw State.reset ∧ SegmentLaw State.reset
    ∧ CommandLaw State.reset ∧ RingLaw State.reset ∧ PathLaw State.reset
end

