-- ==== Sys2Proof/Laws/State.lean ====
section
/-! SUPPORT. What each update of a state leaves as it was, field by field, and what it sets. -/

namespace Sys2Proof.Machine

@[simp] theorem State.setLane_path (s : State) (i : Fin 16) (l : Lane) : (s.setLane i l).path = s.path := rfl
@[simp] theorem State.setLane_stations (s : State) (i : Fin 16) (l : Lane) : (s.setLane i l).stations = s.stations := rfl
@[simp] theorem State.setLane_segs (s : State) (i : Fin 16) (l : Lane) : (s.setLane i l).segs = s.segs := rfl
@[simp] theorem State.setLane_holds (s : State) (i : Fin 16) (l : Lane) : (s.setLane i l).holds = s.holds := rfl
@[simp] theorem State.setLane_cmd (s : State) (i : Fin 16) (l : Lane) : (s.setLane i l).cmd = s.cmd := rfl
@[simp] theorem State.setLane_notices (s : State) (i : Fin 16) (l : Lane) : (s.setLane i l).notices = s.notices := rfl
@[simp] theorem State.setLane_status (s : State) (i : Fin 16) (l : Lane) : (s.setLane i l).status = s.status := rfl
@[simp] theorem State.setLane_localTime (s : State) (i : Fin 16) (l : Lane) : (s.setLane i l).localTime = s.localTime := rfl
@[simp] theorem State.setLane_freeIndex (s : State) (i : Fin 16) (l : Lane) : (s.setLane i l).freeIndex = s.freeIndex := rfl
@[simp] theorem State.setLane_pending (s : State) (i : Fin 16) (l : Lane) : (s.setLane i l).pending = s.pending := rfl

@[simp] theorem State.setStation_path (s : State) (k : Fin 4) (x : Station) : (s.setStation k x).path = s.path := rfl
@[simp] theorem State.setStation_lanes (s : State) (k : Fin 4) (x : Station) : (s.setStation k x).lanes = s.lanes := rfl
@[simp] theorem State.setStation_segs (s : State) (k : Fin 4) (x : Station) : (s.setStation k x).segs = s.segs := rfl
@[simp] theorem State.setStation_holds (s : State) (k : Fin 4) (x : Station) : (s.setStation k x).holds = s.holds := rfl
@[simp] theorem State.setStation_cmd (s : State) (k : Fin 4) (x : Station) : (s.setStation k x).cmd = s.cmd := rfl
@[simp] theorem State.setStation_notices (s : State) (k : Fin 4) (x : Station) : (s.setStation k x).notices = s.notices := rfl
@[simp] theorem State.setStation_status (s : State) (k : Fin 4) (x : Station) : (s.setStation k x).status = s.status := rfl
@[simp] theorem State.setStation_localTime (s : State) (k : Fin 4) (x : Station) : (s.setStation k x).localTime = s.localTime := rfl
@[simp] theorem State.setStation_freeIndex (s : State) (k : Fin 4) (x : Station) : (s.setStation k x).freeIndex = s.freeIndex := rfl
@[simp] theorem State.setStation_pending (s : State) (k : Fin 4) (x : Station) : (s.setStation k x).pending = s.pending := rfl

@[simp] theorem State.setSeg_path (s : State) (i : Fin 16) (g : Segs) : (s.setSeg i g).path = s.path := rfl
@[simp] theorem State.setSeg_lanes (s : State) (i : Fin 16) (g : Segs) : (s.setSeg i g).lanes = s.lanes := rfl
@[simp] theorem State.setSeg_stations (s : State) (i : Fin 16) (g : Segs) : (s.setSeg i g).stations = s.stations := rfl
@[simp] theorem State.setSeg_holds (s : State) (i : Fin 16) (g : Segs) : (s.setSeg i g).holds = s.holds := rfl
@[simp] theorem State.setSeg_cmd (s : State) (i : Fin 16) (g : Segs) : (s.setSeg i g).cmd = s.cmd := rfl
@[simp] theorem State.setSeg_notices (s : State) (i : Fin 16) (g : Segs) : (s.setSeg i g).notices = s.notices := rfl
@[simp] theorem State.setSeg_status (s : State) (i : Fin 16) (g : Segs) : (s.setSeg i g).status = s.status := rfl
@[simp] theorem State.setSeg_localTime (s : State) (i : Fin 16) (g : Segs) : (s.setSeg i g).localTime = s.localTime := rfl
@[simp] theorem State.setSeg_freeIndex (s : State) (i : Fin 16) (g : Segs) : (s.setSeg i g).freeIndex = s.freeIndex := rfl
@[simp] theorem State.setSeg_pending (s : State) (i : Fin 16) (g : Segs) : (s.setSeg i g).pending = s.pending := rfl

@[simp] theorem State.onLane_path (s : State) (i : Fin 16) (f : Lane → Lane) : (s.onLane i f).path = s.path := rfl
@[simp] theorem State.onLane_stations (s : State) (i : Fin 16) (f : Lane → Lane) : (s.onLane i f).stations = s.stations := rfl
@[simp] theorem State.onLane_segs (s : State) (i : Fin 16) (f : Lane → Lane) : (s.onLane i f).segs = s.segs := rfl
@[simp] theorem State.onLane_holds (s : State) (i : Fin 16) (f : Lane → Lane) : (s.onLane i f).holds = s.holds := rfl
@[simp] theorem State.onLane_cmd (s : State) (i : Fin 16) (f : Lane → Lane) : (s.onLane i f).cmd = s.cmd := rfl
@[simp] theorem State.onLane_notices (s : State) (i : Fin 16) (f : Lane → Lane) : (s.onLane i f).notices = s.notices := rfl
@[simp] theorem State.onLane_status (s : State) (i : Fin 16) (f : Lane → Lane) : (s.onLane i f).status = s.status := rfl
@[simp] theorem State.onLane_localTime (s : State) (i : Fin 16) (f : Lane → Lane) : (s.onLane i f).localTime = s.localTime := rfl
@[simp] theorem State.onLane_freeIndex (s : State) (i : Fin 16) (f : Lane → Lane) : (s.onLane i f).freeIndex = s.freeIndex := rfl
@[simp] theorem State.onLane_pending (s : State) (i : Fin 16) (f : Lane → Lane) : (s.onLane i f).pending = s.pending := rfl

@[simp] theorem State.onStation_path (s : State) (k : Fin 4) (f : Station → Station) : (s.onStation k f).path = s.path := rfl
@[simp] theorem State.onStation_lanes (s : State) (k : Fin 4) (f : Station → Station) : (s.onStation k f).lanes = s.lanes := rfl
@[simp] theorem State.onStation_segs (s : State) (k : Fin 4) (f : Station → Station) : (s.onStation k f).segs = s.segs := rfl
@[simp] theorem State.onStation_holds (s : State) (k : Fin 4) (f : Station → Station) : (s.onStation k f).holds = s.holds := rfl
@[simp] theorem State.onStation_cmd (s : State) (k : Fin 4) (f : Station → Station) : (s.onStation k f).cmd = s.cmd := rfl
@[simp] theorem State.onStation_notices (s : State) (k : Fin 4) (f : Station → Station) : (s.onStation k f).notices = s.notices := rfl
@[simp] theorem State.onStation_status (s : State) (k : Fin 4) (f : Station → Station) : (s.onStation k f).status = s.status := rfl
@[simp] theorem State.onStation_localTime (s : State) (k : Fin 4) (f : Station → Station) : (s.onStation k f).localTime = s.localTime := rfl
@[simp] theorem State.onStation_freeIndex (s : State) (k : Fin 4) (f : Station → Station) : (s.onStation k f).freeIndex = s.freeIndex := rfl
@[simp] theorem State.onStation_pending (s : State) (k : Fin 4) (f : Station → Station) : (s.onStation k f).pending = s.pending := rfl

@[simp] theorem handNotice_path (s : State) (n : Notice) : (handNotice s n).path = s.path := rfl
@[simp] theorem handNotice_lanes (s : State) (n : Notice) : (handNotice s n).lanes = s.lanes := rfl
@[simp] theorem handNotice_stations (s : State) (n : Notice) : (handNotice s n).stations = s.stations := rfl
@[simp] theorem handNotice_segs (s : State) (n : Notice) : (handNotice s n).segs = s.segs := rfl
@[simp] theorem handNotice_holds (s : State) (n : Notice) : (handNotice s n).holds = s.holds := rfl
@[simp] theorem handNotice_cmd (s : State) (n : Notice) : (handNotice s n).cmd = s.cmd := rfl
@[simp] theorem handNotice_status (s : State) (n : Notice) : (handNotice s n).status = s.status := rfl
@[simp] theorem handNotice_localTime (s : State) (n : Notice) : (handNotice s n).localTime = s.localTime := rfl
@[simp] theorem handNotice_freeIndex (s : State) (n : Notice) : (handNotice s n).freeIndex = s.freeIndex := rfl
@[simp] theorem handNotice_pending (s : State) (n : Notice) : (handNotice s n).pending = s.pending := rfl

@[simp] theorem handOn_lanes (s : State) (p : Producer) (a : Addr) (bs : List Beat) : (handOn s p a bs).lanes = s.lanes := rfl
@[simp] theorem handOn_stations (s : State) (p : Producer) (a : Addr) (bs : List Beat) : (handOn s p a bs).stations = s.stations := rfl
@[simp] theorem handOn_segs (s : State) (p : Producer) (a : Addr) (bs : List Beat) : (handOn s p a bs).segs = s.segs := rfl
@[simp] theorem handOn_holds (s : State) (p : Producer) (a : Addr) (bs : List Beat) : (handOn s p a bs).holds = s.holds := rfl
@[simp] theorem handOn_cmd (s : State) (p : Producer) (a : Addr) (bs : List Beat) : (handOn s p a bs).cmd = s.cmd := rfl
@[simp] theorem handOn_notices (s : State) (p : Producer) (a : Addr) (bs : List Beat) : (handOn s p a bs).notices = s.notices := rfl
@[simp] theorem handOn_status (s : State) (p : Producer) (a : Addr) (bs : List Beat) : (handOn s p a bs).status = s.status := rfl
@[simp] theorem handOn_localTime (s : State) (p : Producer) (a : Addr) (bs : List Beat) : (handOn s p a bs).localTime = s.localTime := rfl
@[simp] theorem handOn_freeIndex (s : State) (p : Producer) (a : Addr) (bs : List Beat) : (handOn s p a bs).freeIndex = s.freeIndex := rfl
@[simp] theorem handOn_pending (s : State) (p : Producer) (a : Addr) (bs : List Beat) : (handOn s p a bs).pending = s.pending := rfl

@[simp] theorem runCmd_path (s : State) (slot : Fin 32) : (runCmd s slot).path = s.path := rfl
@[simp] theorem runCmd_lanes (s : State) (slot : Fin 32) : (runCmd s slot).lanes = s.lanes := rfl
@[simp] theorem runCmd_stations (s : State) (slot : Fin 32) : (runCmd s slot).stations = s.stations := rfl
@[simp] theorem runCmd_segs (s : State) (slot : Fin 32) : (runCmd s slot).segs = s.segs := rfl
@[simp] theorem runCmd_holds (s : State) (slot : Fin 32) : (runCmd s slot).holds = s.holds := rfl
@[simp] theorem runCmd_notices (s : State) (slot : Fin 32) : (runCmd s slot).notices = s.notices := rfl
@[simp] theorem runCmd_status (s : State) (slot : Fin 32) : (runCmd s slot).status = s.status := rfl
@[simp] theorem runCmd_localTime (s : State) (slot : Fin 32) : (runCmd s slot).localTime = s.localTime := rfl
@[simp] theorem runCmd_freeIndex (s : State) (slot : Fin 32) : (runCmd s slot).freeIndex = s.freeIndex := rfl
@[simp] theorem runCmd_pending (s : State) (slot : Fin 32) : (runCmd s slot).pending = s.pending := rfl

@[simp] theorem settleAwaiting_path (s : State) (id : Nat) : (settleAwaiting s id).path = s.path := rfl
@[simp] theorem settleAwaiting_lanes (s : State) (id : Nat) : (settleAwaiting s id).lanes = s.lanes := rfl
@[simp] theorem settleAwaiting_stations (s : State) (id : Nat) : (settleAwaiting s id).stations = s.stations := rfl
@[simp] theorem settleAwaiting_segs (s : State) (id : Nat) : (settleAwaiting s id).segs = s.segs := rfl
@[simp] theorem settleAwaiting_holds (s : State) (id : Nat) : (settleAwaiting s id).holds = s.holds := rfl
@[simp] theorem settleAwaiting_notices (s : State) (id : Nat) : (settleAwaiting s id).notices = s.notices := rfl
@[simp] theorem settleAwaiting_status (s : State) (id : Nat) : (settleAwaiting s id).status = s.status := rfl
@[simp] theorem settleAwaiting_localTime (s : State) (id : Nat) : (settleAwaiting s id).localTime = s.localTime := rfl
@[simp] theorem settleAwaiting_freeIndex (s : State) (id : Nat) : (settleAwaiting s id).freeIndex = s.freeIndex := rfl
@[simp] theorem settleAwaiting_pending (s : State) (id : Nat) : (settleAwaiting s id).pending = s.pending := rfl

@[simp] theorem onCopy_path (s : State) (slot : Fin 32) (f : CopyRun → CopyRun) : (onCopy s slot f).path = s.path := rfl
@[simp] theorem onCopy_lanes (s : State) (slot : Fin 32) (f : CopyRun → CopyRun) : (onCopy s slot f).lanes = s.lanes := rfl
@[simp] theorem onCopy_stations (s : State) (slot : Fin 32) (f : CopyRun → CopyRun) : (onCopy s slot f).stations = s.stations := rfl
@[simp] theorem onCopy_segs (s : State) (slot : Fin 32) (f : CopyRun → CopyRun) : (onCopy s slot f).segs = s.segs := rfl
@[simp] theorem onCopy_holds (s : State) (slot : Fin 32) (f : CopyRun → CopyRun) : (onCopy s slot f).holds = s.holds := rfl
@[simp] theorem onCopy_notices (s : State) (slot : Fin 32) (f : CopyRun → CopyRun) : (onCopy s slot f).notices = s.notices := rfl
@[simp] theorem onCopy_status (s : State) (slot : Fin 32) (f : CopyRun → CopyRun) : (onCopy s slot f).status = s.status := rfl
@[simp] theorem onCopy_localTime (s : State) (slot : Fin 32) (f : CopyRun → CopyRun) : (onCopy s slot f).localTime = s.localTime := rfl
@[simp] theorem onCopy_freeIndex (s : State) (slot : Fin 32) (f : CopyRun → CopyRun) : (onCopy s slot f).freeIndex = s.freeIndex := rfl
@[simp] theorem onCopy_pending (s : State) (slot : Fin 32) (f : CopyRun → CopyRun) : (onCopy s slot f).pending = s.pending := rfl

@[simp] theorem staleWrites_lanes (s : State) (c : Client) : (staleWrites s c).lanes = s.lanes := rfl
@[simp] theorem staleWrites_stations (s : State) (c : Client) : (staleWrites s c).stations = s.stations := rfl
@[simp] theorem staleWrites_segs (s : State) (c : Client) : (staleWrites s c).segs = s.segs := rfl
@[simp] theorem staleWrites_holds (s : State) (c : Client) : (staleWrites s c).holds = s.holds := rfl
@[simp] theorem staleWrites_cmd (s : State) (c : Client) : (staleWrites s c).cmd = s.cmd := rfl
@[simp] theorem staleWrites_notices (s : State) (c : Client) : (staleWrites s c).notices = s.notices := rfl
@[simp] theorem staleWrites_status (s : State) (c : Client) : (staleWrites s c).status = s.status := rfl
@[simp] theorem staleWrites_localTime (s : State) (c : Client) : (staleWrites s c).localTime = s.localTime := rfl
@[simp] theorem staleWrites_freeIndex (s : State) (c : Client) : (staleWrites s c).freeIndex = s.freeIndex := rfl
@[simp] theorem staleWrites_pending (s : State) (c : Client) : (staleWrites s c).pending = s.pending := rfl

@[simp] theorem setPhase_lanes (s : State) (id : Nat) (ph : Phase) : (setPhase s id ph).lanes = s.lanes := rfl
@[simp] theorem setPhase_stations (s : State) (id : Nat) (ph : Phase) : (setPhase s id ph).stations = s.stations := rfl
@[simp] theorem setPhase_segs (s : State) (id : Nat) (ph : Phase) : (setPhase s id ph).segs = s.segs := rfl
@[simp] theorem setPhase_holds (s : State) (id : Nat) (ph : Phase) : (setPhase s id ph).holds = s.holds := rfl
@[simp] theorem setPhase_cmd (s : State) (id : Nat) (ph : Phase) : (setPhase s id ph).cmd = s.cmd := rfl
@[simp] theorem setPhase_notices (s : State) (id : Nat) (ph : Phase) : (setPhase s id ph).notices = s.notices := rfl
@[simp] theorem setPhase_status (s : State) (id : Nat) (ph : Phase) : (setPhase s id ph).status = s.status := rfl
@[simp] theorem setPhase_localTime (s : State) (id : Nat) (ph : Phase) : (setPhase s id ph).localTime = s.localTime := rfl
@[simp] theorem setPhase_freeIndex (s : State) (id : Nat) (ph : Phase) : (setPhase s id ph).freeIndex = s.freeIndex := rfl
@[simp] theorem setPhase_pending (s : State) (id : Nat) (ph : Phase) : (setPhase s id ph).pending = s.pending := rfl

@[simp] theorem putOut_lanes (s : State) (x : PortIssue) : (putOut s x).lanes = s.lanes := rfl
@[simp] theorem putOut_stations (s : State) (x : PortIssue) : (putOut s x).stations = s.stations := rfl
@[simp] theorem putOut_segs (s : State) (x : PortIssue) : (putOut s x).segs = s.segs := rfl
@[simp] theorem putOut_holds (s : State) (x : PortIssue) : (putOut s x).holds = s.holds := rfl
@[simp] theorem putOut_cmd (s : State) (x : PortIssue) : (putOut s x).cmd = s.cmd := rfl
@[simp] theorem putOut_notices (s : State) (x : PortIssue) : (putOut s x).notices = s.notices := rfl
@[simp] theorem putOut_status (s : State) (x : PortIssue) : (putOut s x).status = s.status := rfl
@[simp] theorem putOut_localTime (s : State) (x : PortIssue) : (putOut s x).localTime = s.localTime := rfl
@[simp] theorem putOut_freeIndex (s : State) (x : PortIssue) : (putOut s x).freeIndex = s.freeIndex := rfl
@[simp] theorem putOut_pending (s : State) (x : PortIssue) : (putOut s x).pending = s.pending := rfl

@[simp] theorem onLanesOf_path (s : State) (k : Fin 4) (f : Lane → Lane) : (onLanesOf s k f).path = s.path := rfl
@[simp] theorem onLanesOf_stations (s : State) (k : Fin 4) (f : Lane → Lane) : (onLanesOf s k f).stations = s.stations := rfl
@[simp] theorem onLanesOf_segs (s : State) (k : Fin 4) (f : Lane → Lane) : (onLanesOf s k f).segs = s.segs := rfl
@[simp] theorem onLanesOf_holds (s : State) (k : Fin 4) (f : Lane → Lane) : (onLanesOf s k f).holds = s.holds := rfl
@[simp] theorem onLanesOf_cmd (s : State) (k : Fin 4) (f : Lane → Lane) : (onLanesOf s k f).cmd = s.cmd := rfl
@[simp] theorem onLanesOf_notices (s : State) (k : Fin 4) (f : Lane → Lane) : (onLanesOf s k f).notices = s.notices := rfl
@[simp] theorem onLanesOf_status (s : State) (k : Fin 4) (f : Lane → Lane) : (onLanesOf s k f).status = s.status := rfl
@[simp] theorem onLanesOf_localTime (s : State) (k : Fin 4) (f : Lane → Lane) : (onLanesOf s k f).localTime = s.localTime := rfl
@[simp] theorem onLanesOf_freeIndex (s : State) (k : Fin 4) (f : Lane → Lane) : (onLanesOf s k f).freeIndex = s.freeIndex := rfl
@[simp] theorem onLanesOf_pending (s : State) (k : Fin 4) (f : Lane → Lane) : (onLanesOf s k f).pending = s.pending := rfl

@[simp] theorem discardHolds_path (s : State) (i : Fin 16) (g : Segs) : (discardHolds s i g).path = s.path := rfl
@[simp] theorem discardHolds_lanes (s : State) (i : Fin 16) (g : Segs) : (discardHolds s i g).lanes = s.lanes := rfl
@[simp] theorem discardHolds_stations (s : State) (i : Fin 16) (g : Segs) : (discardHolds s i g).stations = s.stations := rfl
@[simp] theorem discardHolds_cmd (s : State) (i : Fin 16) (g : Segs) : (discardHolds s i g).cmd = s.cmd := rfl
@[simp] theorem discardHolds_notices (s : State) (i : Fin 16) (g : Segs) : (discardHolds s i g).notices = s.notices := rfl
@[simp] theorem discardHolds_status (s : State) (i : Fin 16) (g : Segs) : (discardHolds s i g).status = s.status := rfl
@[simp] theorem discardHolds_localTime (s : State) (i : Fin 16) (g : Segs) : (discardHolds s i g).localTime = s.localTime := rfl
@[simp] theorem discardHolds_freeIndex (s : State) (i : Fin 16) (g : Segs) : (discardHolds s i g).freeIndex = s.freeIndex := rfl
@[simp] theorem discardHolds_pending (s : State) (i : Fin 16) (g : Segs) : (discardHolds s i g).pending = s.pending := rfl

/-! ### Lanes, stations and segment records read back -/

/-- The lane just set reads as set. -/
@[simp] theorem State.lane_setLane (s : State) (i : Fin 16) (l : Lane) : (s.setLane i l).lane i = l := by
  simp [State.lane, State.setLane, Vector.get_eq_getElem]

/-- Setting one lane leaves another. -/
theorem State.lane_setLane_ne (s : State) {i j : Fin 16} (l : Lane) (h : j ≠ i) : (s.setLane i l).lane j = s.lane j := by
  have h' : i.val ≠ j.val := fun e => h (Fin.ext e.symm)
  simp [State.lane, State.setLane, Vector.get_eq_getElem, Vector.getElem_set_ne, h']

/-- The station just set reads as set. -/
@[simp] theorem State.station_setStation (s : State) (k : Fin 4) (x : Station) : (s.setStation k x).station k = x := by
  simp [State.station, State.setStation, Vector.get_eq_getElem]

/-- Setting one station leaves another. -/
theorem State.station_setStation_ne (s : State) {k j : Fin 4} (x : Station) (h : j ≠ k) :
    (s.setStation k x).station j = s.station j := by
  have h' : k.val ≠ j.val := fun e => h (Fin.ext e.symm)
  simp [State.station, State.setStation, Vector.get_eq_getElem, Vector.getElem_set_ne, h']

/-- The segment record just set reads as set. -/
@[simp] theorem State.seg_setSeg (s : State) (i : Fin 16) (g : Segs) : (s.setSeg i g).seg i = g := by
  simp [State.seg, State.setSeg, Vector.get_eq_getElem]

/-- Setting one segment record leaves another. -/
theorem State.seg_setSeg_ne (s : State) {i j : Fin 16} (g : Segs) (h : j ≠ i) : (s.setSeg i g).seg j = s.seg j := by
  have h' : i.val ≠ j.val := fun e => h (Fin.ext e.symm)
  simp [State.seg, State.setSeg, Vector.get_eq_getElem, Vector.getElem_set_ne, h']

/-- Changing one lane by `f`. -/
@[simp] theorem State.lane_onLane (s : State) (i : Fin 16) (f : Lane → Lane) : (s.onLane i f).lane i = f (s.lane i) := by
  simp [State.onLane]

/-- Changing one lane leaves another. -/
theorem State.lane_onLane_ne (s : State) {i j : Fin 16} (f : Lane → Lane) (h : j ≠ i) :
    (s.onLane i f).lane j = s.lane j := State.lane_setLane_ne s _ h

/-- Changing one station by `f`. -/
@[simp] theorem State.station_onStation (s : State) (k : Fin 4) (f : Station → Station) :
    (s.onStation k f).station k = f (s.station k) := by
  simp [State.onStation]

/-- Changing one station leaves another. -/
theorem State.station_onStation_ne (s : State) {k j : Fin 4} (f : Station → Station) (h : j ≠ k) :
    (s.onStation k f).station j = s.station j := State.station_setStation_ne s _ h

/-- Equal lanes give equal readings. -/
theorem State.lane_congr {s t : State} (h : t.lanes = s.lanes) (i : Fin 16) : t.lane i = s.lane i := by
  simp [State.lane, h]

/-- Equal stations give equal readings. -/
theorem State.station_congr {s t : State} (h : t.stations = s.stations) (i : Fin 4) : t.station i = s.station i := by
  simp [State.station, h]

/-- Equal segs give equal readings. -/
theorem State.seg_congr {s t : State} (h : t.segs = s.segs) (i : Fin 16) : t.seg i = s.seg i := by
  simp [State.seg, h]

end Sys2Proof.Machine
end

