-- ==== Sys2Proof/Laws/Ops.lean ====
section
/-! SUPPORT. What the shared operations leave as it was, and for each what it does when it acts. -/

namespace Sys2Proof.Machine

-- One theorem at a time: many at once exceed the check's memory limit.
set_option Elab.async false

/-! ### Notices (R157) -/

/-- Handing on notices in order changes the notice writer alone. -/
theorem handNotices_eq (s : State) (ns : List Notice) :
    handNotices s ns = { s with notices := ns.foldl NoticeWriter.take s.notices } := by
  induction ns generalizing s with
  | nil => rfl
  | cons n rest ih => exact ih (handNotice s n)

@[simp] theorem handNotices_path (s : State) (ns : List Notice) : (handNotices s ns).path = s.path := by rw [handNotices_eq]
@[simp] theorem handNotices_lanes (s : State) (ns : List Notice) : (handNotices s ns).lanes = s.lanes := by rw [handNotices_eq]
@[simp] theorem handNotices_stations (s : State) (ns : List Notice) : (handNotices s ns).stations = s.stations := by rw [handNotices_eq]
@[simp] theorem handNotices_segs (s : State) (ns : List Notice) : (handNotices s ns).segs = s.segs := by rw [handNotices_eq]
@[simp] theorem handNotices_holds (s : State) (ns : List Notice) : (handNotices s ns).holds = s.holds := by rw [handNotices_eq]
@[simp] theorem handNotices_cmd (s : State) (ns : List Notice) : (handNotices s ns).cmd = s.cmd := by rw [handNotices_eq]
@[simp] theorem handNotices_status (s : State) (ns : List Notice) : (handNotices s ns).status = s.status := by rw [handNotices_eq]
@[simp] theorem handNotices_localTime (s : State) (ns : List Notice) : (handNotices s ns).localTime = s.localTime := by rw [handNotices_eq]
@[simp] theorem handNotices_freeIndex (s : State) (ns : List Notice) : (handNotices s ns).freeIndex = s.freeIndex := by rw [handNotices_eq]
@[simp] theorem handNotices_pending (s : State) (ns : List Notice) : (handNotices s ns).pending = s.pending := by rw [handNotices_eq]

@[simp] theorem handNotices_notices (s : State) (ns : List Notice) :
    (handNotices s ns).notices = ns.foldl NoticeWriter.take s.notices := by rw [handNotices_eq]

/-- Taking the oldest info notice out of a queue shortens it by one. -/
theorem dropOldestInfo_length {q r : List Notice} (h : dropOldestInfo q = some r) : r.length + 1 = q.length := by
  induction q generalizing r with
  | nil => simp [dropOldestInfo] at h
  | cons n rest ih =>
    simp only [dropOldestInfo] at h
    split at h
    · cases hd : dropOldestInfo rest with
      | none => simp [hd] at h
      | some r' => simp [hd] at h; subst h; simp [ih hd]
    · simp at h; subst h; simp

/-- R157: the internal queue never outgrows 64. -/
theorem NoticeWriter.take_length (w : NoticeWriter) (n : Notice) (h : w.queue.length ≤ 64) :
    (w.take n).queue.length ≤ 64 := by
  unfold NoticeWriter.take
  split
  · next hl => simp only [List.length_append, List.length_singleton]; exact hl
  · split
    · split
      · next hd => have := dropOldestInfo_length hd; simp; omega
      · exact h
    · exact h

/-- A notice taken touches the queue, the discarded counts and the overrun flag alone. -/
theorem NoticeWriter.take_frame (w : NoticeWriter) (n : Notice) :
    ∃ q d a o, w.take n = { w with queue := q, discarded := d, discardedAlarms := a, overrun := o } := by
  unfold NoticeWriter.take
  split
  · exact ⟨_, _, _, _, rfl⟩
  · split
    · split <;> exact ⟨_, _, _, _, rfl⟩
    · exact ⟨_, _, _, _, rfl⟩

/-- Notices taken in order touch the queue, the discarded counts and the overrun flag alone. -/
theorem NoticeWriter.takes_frame (w : NoticeWriter) (ns : List Notice) :
    ∃ q d a o, ns.foldl NoticeWriter.take w = { w with queue := q, discarded := d, discardedAlarms := a, overrun := o } := by
  induction ns generalizing w with
  | nil => exact ⟨_, _, _, _, rfl⟩
  | cons n rest ih =>
    obtain ⟨q, d, a, o, h⟩ := w.take_frame n
    obtain ⟨q', d', a', o', h'⟩ := ih (w.take n)
    exact ⟨q', d', a', o', by rw [List.foldl_cons, h', h]⟩

/-- R157: the internal queue never outgrows 64, whatever is handed on. -/
theorem NoticeWriter.takes_length (w : NoticeWriter) (ns : List Notice) (h : w.queue.length ≤ 64) :
    (ns.foldl NoticeWriter.take w).queue.length ≤ 64 := by
  induction ns generalizing w with
  | nil => exact h
  | cons n rest ih => exact ih _ (w.take_length n h)

/-! ### The end of a step -/

@[simp] theorem watchShown_path (s t : State) : (watchShown t s).path = s.path := by unfold watchShown; split <;> rfl
@[simp] theorem watchShown_lanes (s t : State) : (watchShown t s).lanes = s.lanes := by unfold watchShown; split <;> rfl
@[simp] theorem watchShown_stations (s t : State) : (watchShown t s).stations = s.stations := by unfold watchShown; split <;> rfl
@[simp] theorem watchShown_segs (s t : State) : (watchShown t s).segs = s.segs := by unfold watchShown; split <;> rfl
@[simp] theorem watchShown_holds (s t : State) : (watchShown t s).holds = s.holds := by unfold watchShown; split <;> rfl
@[simp] theorem watchShown_cmd (s t : State) : (watchShown t s).cmd = s.cmd := by unfold watchShown; split <;> rfl
@[simp] theorem watchShown_notices (s t : State) : (watchShown t s).notices = s.notices := by unfold watchShown; split <;> rfl
@[simp] theorem watchShown_localTime (s t : State) : (watchShown t s).localTime = s.localTime := by unfold watchShown; split <;> rfl
@[simp] theorem watchShown_freeIndex (s t : State) : (watchShown t s).freeIndex = s.freeIndex := by unfold watchShown; split <;> rfl
@[simp] theorem watchShown_pending (s t : State) : (watchShown t s).pending = s.pending := by unfold watchShown; split <;> rfl

@[simp] theorem settleWaits_lanes (s : State) : (settleWaits s).lanes = s.lanes := by unfold settleWaits; dsimp only; split <;> rfl
@[simp] theorem settleWaits_stations (s : State) : (settleWaits s).stations = s.stations := by unfold settleWaits; dsimp only; split <;> rfl
@[simp] theorem settleWaits_segs (s : State) : (settleWaits s).segs = s.segs := by unfold settleWaits; dsimp only; split <;> rfl
@[simp] theorem settleWaits_holds (s : State) : (settleWaits s).holds = s.holds := by unfold settleWaits; dsimp only; split <;> rfl
@[simp] theorem settleWaits_cmd (s : State) : (settleWaits s).cmd = s.cmd := by unfold settleWaits; dsimp only; split <;> rfl
@[simp] theorem settleWaits_notices (s : State) : (settleWaits s).notices = s.notices := by unfold settleWaits; dsimp only; split <;> rfl
@[simp] theorem settleWaits_status (s : State) : (settleWaits s).status = s.status := by unfold settleWaits; dsimp only; split <;> rfl
@[simp] theorem settleWaits_localTime (s : State) : (settleWaits s).localTime = s.localTime := by unfold settleWaits; dsimp only; split <;> rfl
@[simp] theorem settleWaits_freeIndex (s : State) : (settleWaits s).freeIndex = s.freeIndex := by unfold settleWaits; dsimp only; split <;> rfl
@[simp] theorem settleWaits_pending (s : State) : (settleWaits s).pending = s.pending := by unfold settleWaits; dsimp only; split <;> rfl

@[simp] theorem settleStarvation_lanes (s : State) : (settleStarvation s).lanes = s.lanes := by unfold settleStarvation; split <;> rfl
@[simp] theorem settleStarvation_stations (s : State) : (settleStarvation s).stations = s.stations := by unfold settleStarvation; split <;> rfl
@[simp] theorem settleStarvation_segs (s : State) : (settleStarvation s).segs = s.segs := by unfold settleStarvation; split <;> rfl
@[simp] theorem settleStarvation_holds (s : State) : (settleStarvation s).holds = s.holds := by unfold settleStarvation; split <;> rfl
@[simp] theorem settleStarvation_cmd (s : State) : (settleStarvation s).cmd = s.cmd := by unfold settleStarvation; split <;> rfl
@[simp] theorem settleStarvation_notices (s : State) : (settleStarvation s).notices = s.notices := by unfold settleStarvation; split <;> rfl
@[simp] theorem settleStarvation_status (s : State) : (settleStarvation s).status = s.status := by unfold settleStarvation; split <;> rfl
@[simp] theorem settleStarvation_localTime (s : State) : (settleStarvation s).localTime = s.localTime := by unfold settleStarvation; split <;> rfl
@[simp] theorem settleStarvation_freeIndex (s : State) : (settleStarvation s).freeIndex = s.freeIndex := by unfold settleStarvation; split <;> rfl
@[simp] theorem settleStarvation_pending (s : State) : (settleStarvation s).pending = s.pending := by unfold settleStarvation; split <;> rfl

@[simp] theorem commit_lanes (s t : State) : (commit t s).lanes = s.lanes := by simp [commit]
@[simp] theorem commit_stations (s t : State) : (commit t s).stations = s.stations := by simp [commit]
@[simp] theorem commit_segs (s t : State) : (commit t s).segs = s.segs := by simp [commit]
@[simp] theorem commit_holds (s t : State) : (commit t s).holds = s.holds := by simp [commit]
@[simp] theorem commit_cmd (s t : State) : (commit t s).cmd = s.cmd := by simp [commit]
@[simp] theorem commit_notices (s t : State) : (commit t s).notices = s.notices := by simp [commit]
@[simp] theorem commit_localTime (s t : State) : (commit t s).localTime = s.localTime := by simp [commit]
@[simp] theorem commit_freeIndex (s t : State) : (commit t s).freeIndex = s.freeIndex := by simp [commit]
@[simp] theorem commit_pending (s t : State) : (commit t s).pending = s.pending := by simp [commit]

/-- The change flag is all that is watched. -/
theorem watchShown_status (s t : State) : ∃ b, (watchShown t s).status = { s.status with change := b } := by
  unfold watchShown; split <;> exact ⟨_, rfl⟩

/-- Settling the waits touches the waiting producers and the moment. -/
theorem settleWaits_path (s : State) : ∃ w n, (settleWaits s).path = { s.path with waits := w, now := n } := by
  unfold settleWaits; dsimp only; split <;> exact ⟨_, _, rfl⟩

/-- Settling the starvation count keeps it or sets it to 0. -/
theorem settleStarvation_path (s : State) :
    (settleStarvation s).path = s.path ∨ (settleStarvation s).path = { s.path with starvation := 0 } := by
  unfold settleStarvation; split
  · exact .inl rfl
  · exact .inr rfl

/-- The end of a step touches, of the path unit, the waiting producers, the moment and the starvation count, which it
keeps or sets to 0. -/
theorem commit_path (s t : State) :
    ∃ w k n, (commit t s).path = { s.path with waits := w, starvation := k, now := n } ∧ (k = s.path.starvation ∨ k = 0) := by
  obtain ⟨w, n, h⟩ := settleWaits_path (watchShown t s)
  rw [watchShown_path] at h
  rcases settleStarvation_path (settleWaits (watchShown t s)) with h' | h'
  · exact ⟨w, s.path.starvation, n, by rw [commit, h', h], .inl rfl⟩
  · exact ⟨w, 0, n, by rw [commit, h', h], .inr rfl⟩

/-- The end of a step touches, of the status writer, the change flag alone. -/
theorem commit_status (s t : State) : ∃ b, (commit t s).status = { s.status with change := b } := by
  obtain ⟨b, h⟩ := watchShown_status s t
  exact ⟨b, by simp [commit, h]⟩

@[simp] theorem commit_own (s t : State) : (commit t s).path.own = s.path.own := by
  obtain ⟨w, k, n, h, -⟩ := commit_path s t; rw [h]
@[simp] theorem commit_accepted (s t : State) : (commit t s).path.accepted = s.path.accepted := by
  obtain ⟨w, k, n, h, -⟩ := commit_path s t; rw [h]
@[simp] theorem commit_arrived (s t : State) : (commit t s).path.arrived = s.path.arrived := by
  obtain ⟨w, k, n, h, -⟩ := commit_path s t; rw [h]
@[simp] theorem commit_memPort (s t : State) : (commit t s).path.memPort = s.path.memPort := by
  obtain ⟨w, k, n, h, -⟩ := commit_path s t; rw [h]
@[simp] theorem commit_masterPort (s t : State) : (commit t s).path.masterPort = s.path.masterPort := by
  obtain ⟨w, k, n, h, -⟩ := commit_path s t; rw [h]
@[simp] theorem commit_refusedCount (s t : State) : (commit t s).path.refusedCount = s.path.refusedCount := by
  obtain ⟨w, k, n, h, -⟩ := commit_path s t; rw [h]
@[simp] theorem commit_resetLow (s t : State) : (commit t s).path.resetLow = s.path.resetLow := by
  obtain ⟨w, k, n, h, -⟩ := commit_path s t; rw [h]
@[simp] theorem commit_cmdBase (s t : State) : (commit t s).path.cmdBase = s.path.cmdBase := by
  obtain ⟨w, k, n, h, -⟩ := commit_path s t; rw [h]

/-! ### Ends of commands (R148, R150) -/

@[simp] theorem decideCmd_path (s : State) (slot : Fin 32) (r : Result) (d : BitVec 16) (aw : List Nat) : (decideCmd s slot r d aw).path = s.path := by
  unfold decideCmd; split
  · rfl
  · dsimp only; split <;> rfl
@[simp] theorem decideCmd_lanes (s : State) (slot : Fin 32) (r : Result) (d : BitVec 16) (aw : List Nat) : (decideCmd s slot r d aw).lanes = s.lanes := by
  unfold decideCmd; split
  · rfl
  · dsimp only; split <;> rfl
@[simp] theorem decideCmd_stations (s : State) (slot : Fin 32) (r : Result) (d : BitVec 16) (aw : List Nat) : (decideCmd s slot r d aw).stations = s.stations := by
  unfold decideCmd; split
  · rfl
  · dsimp only; split <;> rfl
@[simp] theorem decideCmd_segs (s : State) (slot : Fin 32) (r : Result) (d : BitVec 16) (aw : List Nat) : (decideCmd s slot r d aw).segs = s.segs := by
  unfold decideCmd; split
  · rfl
  · dsimp only; split <;> rfl
@[simp] theorem decideCmd_holds (s : State) (slot : Fin 32) (r : Result) (d : BitVec 16) (aw : List Nat) : (decideCmd s slot r d aw).holds = s.holds := by
  unfold decideCmd; split
  · rfl
  · dsimp only; split <;> rfl
@[simp] theorem decideCmd_notices (s : State) (slot : Fin 32) (r : Result) (d : BitVec 16) (aw : List Nat) : (decideCmd s slot r d aw).notices = s.notices := by
  unfold decideCmd; split
  · rfl
  · dsimp only; split <;> rfl
@[simp] theorem decideCmd_status (s : State) (slot : Fin 32) (r : Result) (d : BitVec 16) (aw : List Nat) : (decideCmd s slot r d aw).status = s.status := by
  unfold decideCmd; split
  · rfl
  · dsimp only; split <;> rfl
@[simp] theorem decideCmd_localTime (s : State) (slot : Fin 32) (r : Result) (d : BitVec 16) (aw : List Nat) : (decideCmd s slot r d aw).localTime = s.localTime := by
  unfold decideCmd; split
  · rfl
  · dsimp only; split <;> rfl
@[simp] theorem decideCmd_freeIndex (s : State) (slot : Fin 32) (r : Result) (d : BitVec 16) (aw : List Nat) : (decideCmd s slot r d aw).freeIndex = s.freeIndex := by
  unfold decideCmd; split
  · rfl
  · dsimp only; split <;> rfl
@[simp] theorem decideCmd_pending (s : State) (slot : Fin 32) (r : Result) (d : BitVec 16) (aw : List Nat) : (decideCmd s slot r d aw).pending = s.pending := by
  unfold decideCmd; split
  · rfl
  · dsimp only; split <;> rfl

@[simp] theorem complete_path (s : State) (slot : Fin 32) (n : Nat) : (complete s slot n).path = s.path := by simp [complete]
@[simp] theorem complete_lanes (s : State) (slot : Fin 32) (n : Nat) : (complete s slot n).lanes = s.lanes := by simp [complete]
@[simp] theorem complete_stations (s : State) (slot : Fin 32) (n : Nat) : (complete s slot n).stations = s.stations := by simp [complete]
@[simp] theorem complete_segs (s : State) (slot : Fin 32) (n : Nat) : (complete s slot n).segs = s.segs := by simp [complete]
@[simp] theorem complete_holds (s : State) (slot : Fin 32) (n : Nat) : (complete s slot n).holds = s.holds := by simp [complete]
@[simp] theorem complete_notices (s : State) (slot : Fin 32) (n : Nat) : (complete s slot n).notices = s.notices := by simp [complete]
@[simp] theorem complete_status (s : State) (slot : Fin 32) (n : Nat) : (complete s slot n).status = s.status := by simp [complete]
@[simp] theorem complete_localTime (s : State) (slot : Fin 32) (n : Nat) : (complete s slot n).localTime = s.localTime := by simp [complete]
@[simp] theorem complete_freeIndex (s : State) (slot : Fin 32) (n : Nat) : (complete s slot n).freeIndex = s.freeIndex := by simp [complete]
@[simp] theorem complete_pending (s : State) (slot : Fin 32) (n : Nat) : (complete s slot n).pending = s.pending := by simp [complete]

@[simp] theorem refuse_path (s : State) (slot : Fin 32) (r : Result) : (refuse s slot r).path = s.path := by simp [refuse]
@[simp] theorem refuse_lanes (s : State) (slot : Fin 32) (r : Result) : (refuse s slot r).lanes = s.lanes := by simp [refuse]
@[simp] theorem refuse_stations (s : State) (slot : Fin 32) (r : Result) : (refuse s slot r).stations = s.stations := by simp [refuse]
@[simp] theorem refuse_segs (s : State) (slot : Fin 32) (r : Result) : (refuse s slot r).segs = s.segs := by simp [refuse]
@[simp] theorem refuse_holds (s : State) (slot : Fin 32) (r : Result) : (refuse s slot r).holds = s.holds := by simp [refuse]
@[simp] theorem refuse_notices (s : State) (slot : Fin 32) (r : Result) : (refuse s slot r).notices = s.notices := by simp [refuse]
@[simp] theorem refuse_status (s : State) (slot : Fin 32) (r : Result) : (refuse s slot r).status = s.status := by simp [refuse]
@[simp] theorem refuse_localTime (s : State) (slot : Fin 32) (r : Result) : (refuse s slot r).localTime = s.localTime := by simp [refuse]
@[simp] theorem refuse_pending (s : State) (slot : Fin 32) (r : Result) : (refuse s slot r).pending = s.pending := by simp [refuse]

@[simp] theorem decideAll_path (s : State) (slots : List (Fin 32)) (r : Result) (d : Nat) : (decideAll s slots r d).path = s.path := by
  induction slots generalizing s with
  | nil => rfl
  | cons k rest ih => exact (ih (decideCmd s k r _ (carriedIds s k))).trans (by simp)
@[simp] theorem decideAll_lanes (s : State) (slots : List (Fin 32)) (r : Result) (d : Nat) : (decideAll s slots r d).lanes = s.lanes := by
  induction slots generalizing s with
  | nil => rfl
  | cons k rest ih => exact (ih (decideCmd s k r _ (carriedIds s k))).trans (by simp)
@[simp] theorem decideAll_stations (s : State) (slots : List (Fin 32)) (r : Result) (d : Nat) : (decideAll s slots r d).stations = s.stations := by
  induction slots generalizing s with
  | nil => rfl
  | cons k rest ih => exact (ih (decideCmd s k r _ (carriedIds s k))).trans (by simp)
@[simp] theorem decideAll_segs (s : State) (slots : List (Fin 32)) (r : Result) (d : Nat) : (decideAll s slots r d).segs = s.segs := by
  induction slots generalizing s with
  | nil => rfl
  | cons k rest ih => exact (ih (decideCmd s k r _ (carriedIds s k))).trans (by simp)
@[simp] theorem decideAll_holds (s : State) (slots : List (Fin 32)) (r : Result) (d : Nat) : (decideAll s slots r d).holds = s.holds := by
  induction slots generalizing s with
  | nil => rfl
  | cons k rest ih => exact (ih (decideCmd s k r _ (carriedIds s k))).trans (by simp)
@[simp] theorem decideAll_notices (s : State) (slots : List (Fin 32)) (r : Result) (d : Nat) : (decideAll s slots r d).notices = s.notices := by
  induction slots generalizing s with
  | nil => rfl
  | cons k rest ih => exact (ih (decideCmd s k r _ (carriedIds s k))).trans (by simp)
@[simp] theorem decideAll_status (s : State) (slots : List (Fin 32)) (r : Result) (d : Nat) : (decideAll s slots r d).status = s.status := by
  induction slots generalizing s with
  | nil => rfl
  | cons k rest ih => exact (ih (decideCmd s k r _ (carriedIds s k))).trans (by simp)
@[simp] theorem decideAll_localTime (s : State) (slots : List (Fin 32)) (r : Result) (d : Nat) : (decideAll s slots r d).localTime = s.localTime := by
  induction slots generalizing s with
  | nil => rfl
  | cons k rest ih => exact (ih (decideCmd s k r _ (carriedIds s k))).trans (by simp)
@[simp] theorem decideAll_freeIndex (s : State) (slots : List (Fin 32)) (r : Result) (d : Nat) : (decideAll s slots r d).freeIndex = s.freeIndex := by
  induction slots generalizing s with
  | nil => rfl
  | cons k rest ih => exact (ih (decideCmd s k r _ (carriedIds s k))).trans (by simp)
@[simp] theorem decideAll_pending (s : State) (slots : List (Fin 32)) (r : Result) (d : Nat) : (decideAll s slots r d).pending = s.pending := by
  induction slots generalizing s with
  | nil => rfl
  | cons k rest ih => exact (ih (decideCmd s k r _ (carriedIds s k))).trans (by simp)

/-- Deciding an outcome touches the queue and the completion list alone. -/
theorem decideCmd_cmd (s : State) (slot : Fin 32) (r : Result) (d : BitVec 16) (aw : List Nat) :
    ∃ q l, (decideCmd s slot r d aw).cmd = { s.cmd with queue := q, completions := l } ∧
      (q = s.cmd.queue ∨ q = setCmdState s.cmd.queue slot (.finishing r d aw)) := by
  unfold decideCmd; split
  · exact ⟨_, _, rfl, .inl rfl⟩
  · dsimp only; split <;> exact ⟨_, _, rfl, .inr rfl⟩

/-- R150: with no own write unanswered, the command in a slot becomes FINISHING and joins the completion list. -/
theorem decideCmd_of_cmdAt (s : State) (c : Cmd) (r : Result) (d : BitVec 16) (h : s.cmdAt c.slot = some c) :
    decideCmd s c.slot r d [] = { s with cmd := { s.cmd with
      queue := setCmdState s.cmd.queue c.slot (.finishing r d [])
      completions := s.cmd.completions ++ [{ slot := c.slot, bytes := c.bytes, result := r, detail := detailOf s c.slot d }] } } := by
  simp [decideCmd, h]

/-- A command without a Copy Map carries the detail given. -/
theorem detailOf_eq (s : State) (slot : Fin 32) (d : BitVec 16) (h : ∀ r ∈ s.cmd.copies, r.slot ≠ slot) :
    detailOf s slot d = d := by
  unfold detailOf
  have : s.cmd.copies.find? (fun r => decide (r.slot = slot)) = none := by
    rw [List.find?_eq_none]; intro r hr; simpa using h r hr
  rw [this]

/-! ### Hand-ons and starts (R137, R147) -/

/-- A client that may hand on finds fewer than 8 own writes queued (R137). -/
theorem mayHandOn_room {s : State} {c : Client} (h : mayHandOn s c = true) : s.path.own.length < 8 := by
  simp only [mayHandOn, placeFor, Bool.and_eq_true, decide_eq_true_eq] at h
  exact h.2.1

/-- R137: what handing on an own write does to the path unit. -/
@[simp] theorem handOn_path (s : State) (p : Producer) (a : Addr) (bs : List Beat) :
    (handOn s p a bs).path = { s.path with
      own := s.path.own ++ [{ id := s.path.now, producer := p, addr := a, beats := bs, issued := false }]
      waits := s.path.waits.filter fun w => decide (w.1 ≠ p.client)
      now := s.path.now + 1 } := rfl

/-! ### Completion (R147, R149, R150) -/

@[simp] theorem completeHead_lanes (s : State) (h : Completed) (l : List Completed) : (completeHead s h l).lanes = s.lanes := by
  unfold completeHead; dsimp only; split <;> simp
@[simp] theorem completeHead_stations (s : State) (h : Completed) (l : List Completed) : (completeHead s h l).stations = s.stations := by
  unfold completeHead; dsimp only; split <;> simp
@[simp] theorem completeHead_segs (s : State) (h : Completed) (l : List Completed) : (completeHead s h l).segs = s.segs := by
  unfold completeHead; dsimp only; split <;> simp
@[simp] theorem completeHead_holds (s : State) (h : Completed) (l : List Completed) : (completeHead s h l).holds = s.holds := by
  unfold completeHead; dsimp only; split <;> simp
@[simp] theorem completeHead_status (s : State) (h : Completed) (l : List Completed) : (completeHead s h l).status = s.status := by
  unfold completeHead; dsimp only; split <;> simp
@[simp] theorem completeHead_localTime (s : State) (h : Completed) (l : List Completed) : (completeHead s h l).localTime = s.localTime := by
  unfold completeHead; dsimp only; split <;> simp
@[simp] theorem completeHead_freeIndex (s : State) (h : Completed) (l : List Completed) : (completeHead s h l).freeIndex = s.freeIndex := by
  unfold completeHead; dsimp only; split <;> simp
@[simp] theorem completeHead_pending (s : State) (h : Completed) (l : List Completed) : (completeHead s h l).pending = s.pending := by
  unfold completeHead; dsimp only; split <;> simp

/-- R150: a property that the completion of a head with a place free keeps, the completion of several keeps. -/
theorem completeHeads_induct {P : State → Prop}
    (hc : ∀ s h rest, s.cmd.completions = h :: rest → placeFor s .commandUnit = true → P s → P (completeHead s h rest))
    (n : Nat) (s : State) (hs : P s) : P (completeHeads n s) := by
  induction n generalizing s with
  | zero => exact hs
  | succ n ih =>
    unfold completeHeads; split
    · next h rest he => split
                        · next hp => exact ih _ (hc s h rest he hp hs)
                        · exact hs
    · exact hs

/-- R147: what completions keep, the end of a start keeps. -/
theorem completeStarted_induct {P : State → Prop} (c : Cmd)
    (hc : ∀ s h rest, s.cmd.completions = h :: rest → placeFor s .commandUnit = true → P s → P (completeHead s h rest))
    (s : State) (hs : P s) : P (completeStarted c s) := by
  unfold completeStarted; split
  · exact hs
  · split
    · exact completeHeads_induct hc _ s hs
    · exact hs
    · exact hs

@[simp] theorem completeStarted_lanes (c : Cmd) (s : State) : (completeStarted c s).lanes = s.lanes :=
  completeStarted_induct (P := fun t => t.lanes = s.lanes) c (fun t h l _ _ e => by simp [e]) s rfl
@[simp] theorem completeStarted_stations (c : Cmd) (s : State) : (completeStarted c s).stations = s.stations :=
  completeStarted_induct (P := fun t => t.stations = s.stations) c (fun t h l _ _ e => by simp [e]) s rfl
@[simp] theorem completeStarted_segs (c : Cmd) (s : State) : (completeStarted c s).segs = s.segs :=
  completeStarted_induct (P := fun t => t.segs = s.segs) c (fun t h l _ _ e => by simp [e]) s rfl
@[simp] theorem completeStarted_holds (c : Cmd) (s : State) : (completeStarted c s).holds = s.holds :=
  completeStarted_induct (P := fun t => t.holds = s.holds) c (fun t h l _ _ e => by simp [e]) s rfl
@[simp] theorem completeStarted_status (c : Cmd) (s : State) : (completeStarted c s).status = s.status :=
  completeStarted_induct (P := fun t => t.status = s.status) c (fun t h l _ _ e => by simp [e]) s rfl
@[simp] theorem completeStarted_localTime (c : Cmd) (s : State) : (completeStarted c s).localTime = s.localTime :=
  completeStarted_induct (P := fun t => t.localTime = s.localTime) c (fun t h l _ _ e => by simp [e]) s rfl
@[simp] theorem completeStarted_freeIndex (c : Cmd) (s : State) : (completeStarted c s).freeIndex = s.freeIndex :=
  completeStarted_induct (P := fun t => t.freeIndex = s.freeIndex) c (fun t h l _ _ e => by simp [e]) s rfl
@[simp] theorem completeStarted_pending (c : Cmd) (s : State) : (completeStarted c s).pending = s.pending :=
  completeStarted_induct (P := fun t => t.pending = s.pending) c (fun t h l _ _ e => by simp [e]) s rfl

/-- R147: a command that runs on does not complete within its start. -/
theorem completeStarted_running {c d : Cmd} {s : State} (h : s.cmdAt c.slot = some d) (hd : d.state = .running) :
    completeStarted c s = s := by simp [completeStarted, h, hd]

/-- R147: one that is FINISHING completes, with the entries ahead of it, as far as there are places. -/
theorem completeStarted_finishing {c d : Cmd} {s : State} {r : Result} {x : BitVec 16} {aw : List Nat}
    (h : s.cmdAt c.slot = some d) (hd : d.state = .finishing r x aw) :
    completeStarted c s = completeHeads s.cmd.completions.length s := by simp [completeStarted, h, hd]

/-- R150: a head completes when a place is free. -/
theorem completeHeads_cons {n : Nat} {s : State} {h : Completed} {rest : List Completed}
    (hs : s.cmd.completions = h :: rest) (hp : placeFor s .commandUnit = true) :
    completeHeads (n + 1) s = completeHeads n (completeHead s h rest) := by simp [completeHeads, hs, hp]

/-- R150: without a place no entry completes. -/
theorem completeHeads_full {s : State} (hp : placeFor s .commandUnit = false) (n : Nat) : completeHeads n s = s := by
  cases n with
  | zero => rfl
  | succ n => cases h : s.cmd.completions <;> simp [completeHeads, h, hp]

/-- R147: the start of a command answers a next state: its effect on the command that starts next, which completes with
it, or the state as it stands. -/
theorem startStep_cases (kind : Nat → Bool) (f : Cmd → State → State) (s : State) :
    startStep kind f s = .next s ∨
      ∃ c, nextStart s = some c ∧ kind (kindCode c.bytes) = true ∧ startStep kind f s = .next (commit s (completeStarted c (f c s))) := by
  unfold startStep
  split
  · next c hc =>
    split
    · next hk => exact .inr ⟨c, hc, hk, rfl⟩
    · exact .inl rfl
  · exact .inl rfl

/-- R147: the command that starts next is a QUEUED command of the queue, and the command unit may start it. -/
theorem nextStart_some {s : State} {c : Cmd} (h : nextStart s = some c) :
    mayStart s = true ∧ c ∈ s.cmd.queue ∧ c.state = .queued := by
  unfold nextStart at h
  split at h
  · next hm => exact ⟨hm, List.mem_of_find?_eq_some h, by simpa using List.find?_some h⟩
  · exact absurd h (by simp)

/-- R147, R150, R154: when the command unit may start a command. -/
theorem mayStart_iff (s : State) :
    mayStart s = true ↔ s.path.resetLow = false ∧ s.cmd.restart = none ∧ s.path.waits = [] ∧
      s.path.own.length + s.cmd.completions.length < 8 := by
  simp [mayStart, Config.ownQueueMax, and_assoc]

/-- R137: with no producer waiting every client has the free places. -/
theorem placeFor_of_no_waits {s : State} (c : Client) (hw : s.path.waits = []) :
    placeFor s c = decide (s.path.own.length < 8) := by simp [placeFor, hw, Config.ownQueueMax]

/-- R149: what a completion does to the own-write queue and to the completion list. -/
theorem completeHead_places (s : State) (h : Completed) (rest : List Completed) (hw : s.path.waits = []) :
    (completeHead s h rest).path.waits = [] ∧ (completeHead s h rest).path.own.length = s.path.own.length + 1 ∧
      (completeHead s h rest).cmd.completions = rest := by
  unfold completeHead
  split <;> simp [handNotice, handOn, CommandUnit.completed, hw]

/-- R150: with a place for each entry the whole completion list completes. -/
theorem completeHeads_all (s : State) (hw : s.path.waits = []) (hp : s.path.own.length + s.cmd.completions.length ≤ 8) :
    (completeHeads s.cmd.completions.length s).cmd.completions = [] := by
  generalize hl : s.cmd.completions = l at hp ⊢
  induction l generalizing s with
  | nil => simpa [completeHeads] using hl
  | cons h rest ih =>
    have hc := completeHead_places s h rest hw
    have hf : placeFor s .commandUnit = true := by
      rw [placeFor_of_no_waits _ hw]; simp only [List.length_cons] at hp; simp; omega
    rw [List.length_cons, completeHeads_cons hl hf]
    exact ih _ hc.1 hc.2.2 (by rw [hc.2.1]; simp only [List.length_cons] at hp; omega)

/-! ### Forming passes and hits (R68, R70, R95) -/

@[simp] theorem evaluate_path (s : State) (k : Fin 4) (r : CycleRecord) : (evaluate s k r).path = s.path := by simp [evaluate]
@[simp] theorem evaluate_lanes (s : State) (k : Fin 4) (r : CycleRecord) : (evaluate s k r).lanes = s.lanes := by simp [evaluate]
@[simp] theorem evaluate_segs (s : State) (k : Fin 4) (r : CycleRecord) : (evaluate s k r).segs = s.segs := by simp [evaluate]
@[simp] theorem evaluate_holds (s : State) (k : Fin 4) (r : CycleRecord) : (evaluate s k r).holds = s.holds := by simp [evaluate]
@[simp] theorem evaluate_cmd (s : State) (k : Fin 4) (r : CycleRecord) : (evaluate s k r).cmd = s.cmd := by simp [evaluate]
@[simp] theorem evaluate_status (s : State) (k : Fin 4) (r : CycleRecord) : (evaluate s k r).status = s.status := by simp [evaluate]
@[simp] theorem evaluate_localTime (s : State) (k : Fin 4) (r : CycleRecord) : (evaluate s k r).localTime = s.localTime := by simp [evaluate]
@[simp] theorem evaluate_freeIndex (s : State) (k : Fin 4) (r : CycleRecord) : (evaluate s k r).freeIndex = s.freeIndex := by simp [evaluate]
@[simp] theorem evaluate_pending (s : State) (k : Fin 4) (r : CycleRecord) : (evaluate s k r).pending = s.pending := by simp [evaluate]

@[simp] theorem makePending_path (s : State) (lane : Fin 16) (p : Nat) (r : HoldReason) : (makePending s lane p r).path = s.path := by unfold makePending; split <;> rfl
@[simp] theorem makePending_lanes (s : State) (lane : Fin 16) (p : Nat) (r : HoldReason) : (makePending s lane p r).lanes = s.lanes := by unfold makePending; split <;> rfl
@[simp] theorem makePending_stations (s : State) (lane : Fin 16) (p : Nat) (r : HoldReason) : (makePending s lane p r).stations = s.stations := by unfold makePending; split <;> rfl
@[simp] theorem makePending_segs (s : State) (lane : Fin 16) (p : Nat) (r : HoldReason) : (makePending s lane p r).segs = s.segs := by unfold makePending; split <;> rfl
@[simp] theorem makePending_cmd (s : State) (lane : Fin 16) (p : Nat) (r : HoldReason) : (makePending s lane p r).cmd = s.cmd := by unfold makePending; split <;> rfl
@[simp] theorem makePending_notices (s : State) (lane : Fin 16) (p : Nat) (r : HoldReason) : (makePending s lane p r).notices = s.notices := by unfold makePending; split <;> rfl
@[simp] theorem makePending_status (s : State) (lane : Fin 16) (p : Nat) (r : HoldReason) : (makePending s lane p r).status = s.status := by unfold makePending; split <;> rfl
@[simp] theorem makePending_localTime (s : State) (lane : Fin 16) (p : Nat) (r : HoldReason) : (makePending s lane p r).localTime = s.localTime := by unfold makePending; split <;> rfl
@[simp] theorem makePending_freeIndex (s : State) (lane : Fin 16) (p : Nat) (r : HoldReason) : (makePending s lane p r).freeIndex = s.freeIndex := by unfold makePending; split <;> rfl
@[simp] theorem makePending_pending (s : State) (lane : Fin 16) (p : Nat) (r : HoldReason) : (makePending s lane p r).pending = s.pending := by unfold makePending; split <;> rfl

@[simp] theorem eventPin_path (s : State) (cell : Nat) (lane : Fin 16) (p : Nat) : (eventPin s cell lane p).path = s.path := by unfold eventPin; split <;> simp
@[simp] theorem eventPin_lanes (s : State) (cell : Nat) (lane : Fin 16) (p : Nat) : (eventPin s cell lane p).lanes = s.lanes := by unfold eventPin; split <;> simp
@[simp] theorem eventPin_stations (s : State) (cell : Nat) (lane : Fin 16) (p : Nat) : (eventPin s cell lane p).stations = s.stations := by unfold eventPin; split <;> simp
@[simp] theorem eventPin_cmd (s : State) (cell : Nat) (lane : Fin 16) (p : Nat) : (eventPin s cell lane p).cmd = s.cmd := by unfold eventPin; split <;> simp
@[simp] theorem eventPin_notices (s : State) (cell : Nat) (lane : Fin 16) (p : Nat) : (eventPin s cell lane p).notices = s.notices := by unfold eventPin; split <;> simp
@[simp] theorem eventPin_status (s : State) (cell : Nat) (lane : Fin 16) (p : Nat) : (eventPin s cell lane p).status = s.status := by unfold eventPin; split <;> simp
@[simp] theorem eventPin_localTime (s : State) (cell : Nat) (lane : Fin 16) (p : Nat) : (eventPin s cell lane p).localTime = s.localTime := by unfold eventPin; split <;> simp
@[simp] theorem eventPin_freeIndex (s : State) (cell : Nat) (lane : Fin 16) (p : Nat) : (eventPin s cell lane p).freeIndex = s.freeIndex := by unfold eventPin; split <;> simp
@[simp] theorem eventPin_pending (s : State) (cell : Nat) (lane : Fin 16) (p : Nat) : (eventPin s cell lane p).pending = s.pending := by unfold eventPin; split <;> simp

/-- A property of states that every pin request keeps, an event's requests keep together. -/
theorem eventPins_induct {P : State → Prop} (hp : ∀ s cell lane p, P s → P (eventPin s cell lane p)) (ms : List Hit)
    (cell : Nat) (s : State) (h : P s) : P (ms.foldl (fun s h => eventPin s cell h.lane h.segment) s) := by
  induction ms generalizing s with
  | nil => exact h
  | cons m rest ih => exact ih _ (hp s cell m.lane m.segment h)

@[simp] theorem creditEvent_path (s : State) (k : Fin 4) (ids : List Nat) (ms : List Hit) (e : EventTally) :
    (creditEvent s k ids ms e).path = s.path := by
  unfold creditEvent; dsimp only; split
  · simp
  · exact eventPins_induct (P := fun t => t.path = s.path) (fun t c l p h => by simp [h]) ms _ _ (by simp)
@[simp] theorem creditEvent_lanes (s : State) (k : Fin 4) (ids : List Nat) (ms : List Hit) (e : EventTally) :
    (creditEvent s k ids ms e).lanes = s.lanes := by
  unfold creditEvent; dsimp only; split
  · simp
  · exact eventPins_induct (P := fun t => t.lanes = s.lanes) (fun t c l p h => by simp [h]) ms _ _ (by simp)
@[simp] theorem creditEvent_cmd (s : State) (k : Fin 4) (ids : List Nat) (ms : List Hit) (e : EventTally) :
    (creditEvent s k ids ms e).cmd = s.cmd := by
  unfold creditEvent; dsimp only; split
  · simp
  · exact eventPins_induct (P := fun t => t.cmd = s.cmd) (fun t c l p h => by simp [h]) ms _ _ (by simp)
@[simp] theorem creditEvent_status (s : State) (k : Fin 4) (ids : List Nat) (ms : List Hit) (e : EventTally) :
    (creditEvent s k ids ms e).status = s.status := by
  unfold creditEvent; dsimp only; split
  · simp
  · exact eventPins_induct (P := fun t => t.status = s.status) (fun t c l p h => by simp [h]) ms _ _ (by simp)
@[simp] theorem creditEvent_localTime (s : State) (k : Fin 4) (ids : List Nat) (ms : List Hit) (e : EventTally) :
    (creditEvent s k ids ms e).localTime = s.localTime := by
  unfold creditEvent; dsimp only; split
  · simp
  · exact eventPins_induct (P := fun t => t.localTime = s.localTime) (fun t c l p h => by simp [h]) ms _ _ (by simp)
@[simp] theorem creditEvent_freeIndex (s : State) (k : Fin 4) (ids : List Nat) (ms : List Hit) (e : EventTally) :
    (creditEvent s k ids ms e).freeIndex = s.freeIndex := by
  unfold creditEvent; dsimp only; split
  · simp
  · exact eventPins_induct (P := fun t => t.freeIndex = s.freeIndex) (fun t c l p h => by simp [h]) ms _ _ (by simp)
@[simp] theorem creditEvent_pending (s : State) (k : Fin 4) (ids : List Nat) (ms : List Hit) (e : EventTally) :
    (creditEvent s k ids ms e).pending = s.pending := by
  unfold creditEvent; dsimp only; split
  · simp
  · exact eventPins_induct (P := fun t => t.pending = s.pending) (fun t c l p h => by simp [h]) ms _ _ (by simp)

@[simp] theorem formEvent_path (s : State) (k : Fin 4) (h0 : Hit) (e : Bool) : (formEvent s k h0 e).path = s.path := by
  unfold formEvent; dsimp only; split <;> simp
@[simp] theorem formEvent_lanes (s : State) (k : Fin 4) (h0 : Hit) (e : Bool) : (formEvent s k h0 e).lanes = s.lanes := by
  unfold formEvent; dsimp only; split <;> simp
@[simp] theorem formEvent_cmd (s : State) (k : Fin 4) (h0 : Hit) (e : Bool) : (formEvent s k h0 e).cmd = s.cmd := by
  unfold formEvent; dsimp only; split <;> simp
@[simp] theorem formEvent_status (s : State) (k : Fin 4) (h0 : Hit) (e : Bool) : (formEvent s k h0 e).status = s.status := by
  unfold formEvent; dsimp only; split <;> simp
@[simp] theorem formEvent_localTime (s : State) (k : Fin 4) (h0 : Hit) (e : Bool) : (formEvent s k h0 e).localTime = s.localTime := by
  unfold formEvent; dsimp only; split <;> simp
@[simp] theorem formEvent_freeIndex (s : State) (k : Fin 4) (h0 : Hit) (e : Bool) : (formEvent s k h0 e).freeIndex = s.freeIndex := by
  unfold formEvent; dsimp only; split <;> simp
@[simp] theorem formEvent_pending (s : State) (k : Fin 4) (h0 : Hit) (e : Bool) : (formEvent s k h0 e).pending = s.pending := by
  unfold formEvent; dsimp only; split <;> simp

/-- A property that evaluations keep, the repeated close check keeps. -/
theorem closeHeads_induct {P : State → Prop} {k : Fin 4} (he : ∀ s r, closeCheck s k = some r → P s → P (evaluate s k r))
    (n : Nat) (s : State) (h : P s) : P (closeHeads n s k) := by
  induction n generalizing s with
  | zero => exact h
  | succ n ih =>
    unfold closeHeads; split
    · next r hr => exact ih _ (he s r hr h)
    · exact h

/-- R70: a property that evaluations by the close check and formations keep, a forming pass keeps. -/
theorem formingPass_induct {P : State → Prop} {k : Fin 4}
    (he : ∀ s r, closeCheck s k = some r → P s → P (evaluate s k r))
    (hf : ∀ s h0 rest, (s.station k).pool = h0 :: rest → P s → P (formEvent s k h0 false)) (s : State) (h : P s) :
    P (formingPass s k) := by
  unfold formingPass
  generalize (s.station k).pool.length = n
  induction n generalizing s with
  | zero => exact closeHeads_induct he _ s h
  | succ n ih =>
    have h1 := closeHeads_induct he (s.station k).boundary.length s h
    unfold passLoop; dsimp only
    split
    · exact h1
    · next h0 rest hp =>
      split
      · exact ih _ (hf _ h0 rest hp h1)
      · exact h1

/-- R68, R72: a property that formations, passes and the entry of a hit keep, the handing on of a hit keeps. -/
theorem handHit_induct {P : State → Prop} {k : Fin 4}
    (he : ∀ s r, closeCheck s k = some r → P s → P (evaluate s k r))
    (hf : ∀ s h0 rest e, (s.station k).pool = h0 :: rest → P s → P (formEvent s k h0 e)) (h : Hit)
    (hi : ∀ s, P s → P (s.onStation k fun x => { x with pool := poolInsert h x.pool })) (s : State) (hs : P s) :
    P (handHit s k h) := by
  unfold handHit
  refine formingPass_induct he (fun s h0 rest hp => hf s h0 rest false hp) _ (hi _ ?_)
  split
  · next h0 rest hp => split
                       · exact hf s h0 rest true hp hs
                       · exact hs
  · exact hs

@[simp] theorem formingPass_path (s : State) (k : Fin 4) : (formingPass s k).path = s.path :=
  formingPass_induct (P := fun t => t.path = s.path) (fun t r _ h => by simp [h]) (fun t h0 _ _ h => by simp [h]) s rfl
@[simp] theorem formingPass_lanes (s : State) (k : Fin 4) : (formingPass s k).lanes = s.lanes :=
  formingPass_induct (P := fun t => t.lanes = s.lanes) (fun t r _ h => by simp [h]) (fun t h0 _ _ h => by simp [h]) s rfl
@[simp] theorem formingPass_cmd (s : State) (k : Fin 4) : (formingPass s k).cmd = s.cmd :=
  formingPass_induct (P := fun t => t.cmd = s.cmd) (fun t r _ h => by simp [h]) (fun t h0 _ _ h => by simp [h]) s rfl
@[simp] theorem formingPass_status (s : State) (k : Fin 4) : (formingPass s k).status = s.status :=
  formingPass_induct (P := fun t => t.status = s.status) (fun t r _ h => by simp [h]) (fun t h0 _ _ h => by simp [h]) s rfl
@[simp] theorem formingPass_localTime (s : State) (k : Fin 4) : (formingPass s k).localTime = s.localTime :=
  formingPass_induct (P := fun t => t.localTime = s.localTime) (fun t r _ h => by simp [h]) (fun t h0 _ _ h => by simp [h]) s rfl
@[simp] theorem formingPass_freeIndex (s : State) (k : Fin 4) : (formingPass s k).freeIndex = s.freeIndex :=
  formingPass_induct (P := fun t => t.freeIndex = s.freeIndex) (fun t r _ h => by simp [h]) (fun t h0 _ _ h => by simp [h]) s rfl
@[simp] theorem formingPass_pending (s : State) (k : Fin 4) : (formingPass s k).pending = s.pending :=
  formingPass_induct (P := fun t => t.pending = s.pending) (fun t r _ h => by simp [h]) (fun t h0 _ _ h => by simp [h]) s rfl

@[simp] theorem handHit_path (s : State) (k : Fin 4) (h : Hit) : (handHit s k h).path = s.path :=
  handHit_induct (P := fun t => t.path = s.path) (fun t r _ h => by simp [h]) (fun t h0 _ e _ h => by simp [h]) h
    (fun t h => by simp [h]) s rfl
@[simp] theorem handHit_lanes (s : State) (k : Fin 4) (h : Hit) : (handHit s k h).lanes = s.lanes :=
  handHit_induct (P := fun t => t.lanes = s.lanes) (fun t r _ h => by simp [h]) (fun t h0 _ e _ h => by simp [h]) h
    (fun t h => by simp [h]) s rfl
@[simp] theorem handHit_cmd (s : State) (k : Fin 4) (h : Hit) : (handHit s k h).cmd = s.cmd :=
  handHit_induct (P := fun t => t.cmd = s.cmd) (fun t r _ h => by simp [h]) (fun t h0 _ e _ h => by simp [h]) h
    (fun t h => by simp [h]) s rfl
@[simp] theorem handHit_status (s : State) (k : Fin 4) (h : Hit) : (handHit s k h).status = s.status :=
  handHit_induct (P := fun t => t.status = s.status) (fun t r _ h => by simp [h]) (fun t h0 _ e _ h => by simp [h]) h
    (fun t h => by simp [h]) s rfl
@[simp] theorem handHit_localTime (s : State) (k : Fin 4) (h : Hit) : (handHit s k h).localTime = s.localTime :=
  handHit_induct (P := fun t => t.localTime = s.localTime) (fun t r _ h => by simp [h]) (fun t h0 _ e _ h => by simp [h]) h
    (fun t h => by simp [h]) s rfl
@[simp] theorem handHit_freeIndex (s : State) (k : Fin 4) (h : Hit) : (handHit s k h).freeIndex = s.freeIndex :=
  handHit_induct (P := fun t => t.freeIndex = s.freeIndex) (fun t r _ h => by simp [h]) (fun t h0 _ e _ h => by simp [h]) h
    (fun t h => by simp [h]) s rfl
@[simp] theorem handHit_pending (s : State) (k : Fin 4) (h : Hit) : (handHit s k h).pending = s.pending :=
  handHit_induct (P := fun t => t.pending = s.pending) (fun t r _ h => by simp [h]) (fun t h0 _ e _ h => by simp [h]) h
    (fun t h => by simp [h]) s rfl

@[simp] theorem handHit?_path (s : State) (k : Fin 4) (h : Option Hit) : (handHit? s k h).path = s.path := by
  cases h <;> simp [handHit?]
@[simp] theorem handHit?_lanes (s : State) (k : Fin 4) (h : Option Hit) : (handHit? s k h).lanes = s.lanes := by
  cases h <;> simp [handHit?]
@[simp] theorem handHit?_cmd (s : State) (k : Fin 4) (h : Option Hit) : (handHit? s k h).cmd = s.cmd := by
  cases h <;> simp [handHit?]
@[simp] theorem handHit?_status (s : State) (k : Fin 4) (h : Option Hit) : (handHit? s k h).status = s.status := by
  cases h <;> simp [handHit?]
@[simp] theorem handHit?_localTime (s : State) (k : Fin 4) (h : Option Hit) : (handHit? s k h).localTime = s.localTime := by
  cases h <;> simp [handHit?]
@[simp] theorem handHit?_freeIndex (s : State) (k : Fin 4) (h : Option Hit) : (handHit? s k h).freeIndex = s.freeIndex := by
  cases h <;> simp [handHit?]
@[simp] theorem handHit?_pending (s : State) (k : Fin 4) (h : Option Hit) : (handHit? s k h).pending = s.pending := by
  cases h <;> simp [handHit?]

end Sys2Proof.Machine
end

