-- ==== Sys2Proof/Laws/Lanes.lean ====
section
/-! SUPPORT. What the operations of lanes, tracker and segments leave as it was: none of them touches the path unit, the
status writer, local time, the free index or the queue of commands, and none but the end of a test touches the command
unit. -/

namespace Sys2Proof.Machine

-- One theorem at a time: many at once exceed the check's memory limit.
set_option Elab.async false

/-! ### Tracker -/

@[simp] theorem endCycle_path (s : State) (k : Fin 4) (e : SampleTime) : (endCycle s k e).path = s.path := by
  unfold endCycle; dsimp only; split <;> simp
@[simp] theorem endCycle_status (s : State) (k : Fin 4) (e : SampleTime) : (endCycle s k e).status = s.status := by
  unfold endCycle; dsimp only; split <;> simp
@[simp] theorem endCycle_localTime (s : State) (k : Fin 4) (e : SampleTime) : (endCycle s k e).localTime = s.localTime := by
  unfold endCycle; dsimp only; split <;> simp
@[simp] theorem endCycle_freeIndex (s : State) (k : Fin 4) (e : SampleTime) : (endCycle s k e).freeIndex = s.freeIndex := by
  unfold endCycle; dsimp only; split <;> simp
@[simp] theorem endCycle_pending (s : State) (k : Fin 4) (e : SampleTime) : (endCycle s k e).pending = s.pending := by
  unfold endCycle; dsimp only; split <;> simp
@[simp] theorem endCycle_cmd (s : State) (k : Fin 4) (e : SampleTime) : (endCycle s k e).cmd = s.cmd := by
  unfold endCycle; dsimp only; split <;> simp

@[simp] theorem forceHead_path (s : State) (k : Fin 4) : (forceHead s k).path = s.path := by
  unfold forceHead; split
  · split <;> simp
  · rfl
@[simp] theorem forceHead_status (s : State) (k : Fin 4) : (forceHead s k).status = s.status := by
  unfold forceHead; split
  · split <;> simp
  · rfl
@[simp] theorem forceHead_localTime (s : State) (k : Fin 4) : (forceHead s k).localTime = s.localTime := by
  unfold forceHead; split
  · split <;> simp
  · rfl
@[simp] theorem forceHead_freeIndex (s : State) (k : Fin 4) : (forceHead s k).freeIndex = s.freeIndex := by
  unfold forceHead; split
  · split <;> simp
  · rfl
@[simp] theorem forceHead_pending (s : State) (k : Fin 4) : (forceHead s k).pending = s.pending := by
  unfold forceHead; split
  · split <;> simp
  · rfl
@[simp] theorem forceHead_cmd (s : State) (k : Fin 4) : (forceHead s k).cmd = s.cmd := by
  unfold forceHead; split
  · split <;> simp
  · rfl

@[simp] theorem startCycle_path (s : State) (k : Fin 4) (t : SampleTime) (p : Nat) : (startCycle s k t p).path = s.path := by
  unfold startCycle; dsimp only; split <;> split <;> simp
@[simp] theorem startCycle_status (s : State) (k : Fin 4) (t : SampleTime) (p : Nat) : (startCycle s k t p).status = s.status := by
  unfold startCycle; dsimp only; split <;> split <;> simp
@[simp] theorem startCycle_localTime (s : State) (k : Fin 4) (t : SampleTime) (p : Nat) : (startCycle s k t p).localTime = s.localTime := by
  unfold startCycle; dsimp only; split <;> split <;> simp
@[simp] theorem startCycle_freeIndex (s : State) (k : Fin 4) (t : SampleTime) (p : Nat) : (startCycle s k t p).freeIndex = s.freeIndex := by
  unfold startCycle; dsimp only; split <;> split <;> simp
@[simp] theorem startCycle_pending (s : State) (k : Fin 4) (t : SampleTime) (p : Nat) : (startCycle s k t p).pending = s.pending := by
  unfold startCycle; dsimp only; split <;> split <;> simp
@[simp] theorem startCycle_cmd (s : State) (k : Fin 4) (t : SampleTime) (p : Nat) : (startCycle s k t p).cmd = s.cmd := by
  unfold startCycle; dsimp only; split <;> split <;> simp

@[simp] theorem applyPeak_path (s : State) (k : Fin 4) (a b : SampleTime) (p : Nat) : (applyPeak s k a b p).path = s.path := by
  unfold applyPeak; dsimp only; split <;> (repeat' split) <;> simp
@[simp] theorem applyPeak_status (s : State) (k : Fin 4) (a b : SampleTime) (p : Nat) : (applyPeak s k a b p).status = s.status := by
  unfold applyPeak; dsimp only; split <;> (repeat' split) <;> simp
@[simp] theorem applyPeak_localTime (s : State) (k : Fin 4) (a b : SampleTime) (p : Nat) : (applyPeak s k a b p).localTime = s.localTime := by
  unfold applyPeak; dsimp only; split <;> (repeat' split) <;> simp
@[simp] theorem applyPeak_freeIndex (s : State) (k : Fin 4) (a b : SampleTime) (p : Nat) : (applyPeak s k a b p).freeIndex = s.freeIndex := by
  unfold applyPeak; dsimp only; split <;> (repeat' split) <;> simp
@[simp] theorem applyPeak_pending (s : State) (k : Fin 4) (a b : SampleTime) (p : Nat) : (applyPeak s k a b p).pending = s.pending := by
  unfold applyPeak; dsimp only; split <;> (repeat' split) <;> simp
@[simp] theorem applyPeak_cmd (s : State) (k : Fin 4) (a b : SampleTime) (p : Nat) : (applyPeak s k a b p).cmd = s.cmd := by
  unfold applyPeak; dsimp only; split <;> (repeat' split) <;> simp

@[simp] theorem vibrationBlock_path (s : State) (k : Fin 4) (v : List Int) (t : SampleTime) (b : Bool) : (vibrationBlock s k v t b).path = s.path := by
  simp [vibrationBlock]
@[simp] theorem vibrationBlock_status (s : State) (k : Fin 4) (v : List Int) (t : SampleTime) (b : Bool) : (vibrationBlock s k v t b).status = s.status := by
  simp [vibrationBlock]
@[simp] theorem vibrationBlock_localTime (s : State) (k : Fin 4) (v : List Int) (t : SampleTime) (b : Bool) : (vibrationBlock s k v t b).localTime = s.localTime := by
  simp [vibrationBlock]
@[simp] theorem vibrationBlock_freeIndex (s : State) (k : Fin 4) (v : List Int) (t : SampleTime) (b : Bool) : (vibrationBlock s k v t b).freeIndex = s.freeIndex := by
  simp [vibrationBlock]
@[simp] theorem vibrationBlock_pending (s : State) (k : Fin 4) (v : List Int) (t : SampleTime) (b : Bool) : (vibrationBlock s k v t b).pending = s.pending := by
  simp [vibrationBlock]
@[simp] theorem vibrationBlock_cmd (s : State) (k : Fin 4) (v : List Int) (t : SampleTime) (b : Bool) : (vibrationBlock s k v t b).cmd = s.cmd := by
  simp [vibrationBlock]

@[simp] theorem goBlind_path (s : State) (k : Fin 4) (h : Option SampleTime) (r : FaultReason) : (goBlind s k h r).path = s.path := by
  unfold goBlind; dsimp only; split <;> (repeat' split) <;> simp
@[simp] theorem goBlind_status (s : State) (k : Fin 4) (h : Option SampleTime) (r : FaultReason) : (goBlind s k h r).status = s.status := by
  unfold goBlind; dsimp only; split <;> (repeat' split) <;> simp
@[simp] theorem goBlind_localTime (s : State) (k : Fin 4) (h : Option SampleTime) (r : FaultReason) : (goBlind s k h r).localTime = s.localTime := by
  unfold goBlind; dsimp only; split <;> (repeat' split) <;> simp
@[simp] theorem goBlind_freeIndex (s : State) (k : Fin 4) (h : Option SampleTime) (r : FaultReason) : (goBlind s k h r).freeIndex = s.freeIndex := by
  unfold goBlind; dsimp only; split <;> (repeat' split) <;> simp
@[simp] theorem goBlind_pending (s : State) (k : Fin 4) (h : Option SampleTime) (r : FaultReason) : (goBlind s k h r).pending = s.pending := by
  unfold goBlind; dsimp only; split <;> (repeat' split) <;> simp
@[simp] theorem goBlind_cmd (s : State) (k : Fin 4) (h : Option SampleTime) (r : FaultReason) : (goBlind s k h r).cmd = s.cmd := by
  unfold goBlind; dsimp only; split <;> (repeat' split) <;> simp

@[simp] theorem leaveBlind_path (s : State) (k : Fin 4) : (leaveBlind s k).path = s.path := by
  unfold leaveBlind; split <;> simp
@[simp] theorem leaveBlind_status (s : State) (k : Fin 4) : (leaveBlind s k).status = s.status := by
  unfold leaveBlind; split <;> simp
@[simp] theorem leaveBlind_localTime (s : State) (k : Fin 4) : (leaveBlind s k).localTime = s.localTime := by
  unfold leaveBlind; split <;> simp
@[simp] theorem leaveBlind_freeIndex (s : State) (k : Fin 4) : (leaveBlind s k).freeIndex = s.freeIndex := by
  unfold leaveBlind; split <;> simp
@[simp] theorem leaveBlind_pending (s : State) (k : Fin 4) : (leaveBlind s k).pending = s.pending := by
  unfold leaveBlind; split <;> simp
@[simp] theorem leaveBlind_cmd (s : State) (k : Fin 4) : (leaveBlind s k).cmd = s.cmd := by
  unfold leaveBlind; split <;> simp

/-! ### Segments -/

@[simp] theorem serveHold_path (s : State) (i : Fin 16) (m : Mapping) (g : Segs) (t : SegTable) (n : Nat) : (serveHold s i m g t n).path = s.path := by
  unfold serveHold; split
  · rfl
  · dsimp only; split <;> simp
@[simp] theorem serveHold_status (s : State) (i : Fin 16) (m : Mapping) (g : Segs) (t : SegTable) (n : Nat) : (serveHold s i m g t n).status = s.status := by
  unfold serveHold; split
  · rfl
  · dsimp only; split <;> simp
@[simp] theorem serveHold_localTime (s : State) (i : Fin 16) (m : Mapping) (g : Segs) (t : SegTable) (n : Nat) : (serveHold s i m g t n).localTime = s.localTime := by
  unfold serveHold; split
  · rfl
  · dsimp only; split <;> simp
@[simp] theorem serveHold_freeIndex (s : State) (i : Fin 16) (m : Mapping) (g : Segs) (t : SegTable) (n : Nat) : (serveHold s i m g t n).freeIndex = s.freeIndex := by
  unfold serveHold; split
  · rfl
  · dsimp only; split <;> simp
@[simp] theorem serveHold_pending (s : State) (i : Fin 16) (m : Mapping) (g : Segs) (t : SegTable) (n : Nat) : (serveHold s i m g t n).pending = s.pending := by
  unfold serveHold; split
  · rfl
  · dsimp only; split <;> simp
@[simp] theorem serveHold_cmd (s : State) (i : Fin 16) (m : Mapping) (g : Segs) (t : SegTable) (n : Nat) : (serveHold s i m g t n).cmd = s.cmd := by
  unfold serveHold; split
  · rfl
  · dsimp only; split <;> simp
@[simp] theorem serveHold_lanes (s : State) (i : Fin 16) (m : Mapping) (g : Segs) (t : SegTable) (n : Nat) : (serveHold s i m g t n).lanes = s.lanes := by
  unfold serveHold; split
  · rfl
  · dsimp only; split <;> simp
@[simp] theorem serveHold_stations (s : State) (i : Fin 16) (m : Mapping) (g : Segs) (t : SegTable) (n : Nat) : (serveHold s i m g t n).stations = s.stations := by
  unfold serveHold; split
  · rfl
  · dsimp only; split <;> simp

@[simp] theorem reportWrite_path (s : State) (i : Fin 16) (m : Mapping) (n : Nat) : (reportWrite s i m n).path = s.path := by
  unfold reportWrite; split
  · rfl
  · dsimp only; split <;> simp
@[simp] theorem reportWrite_status (s : State) (i : Fin 16) (m : Mapping) (n : Nat) : (reportWrite s i m n).status = s.status := by
  unfold reportWrite; split
  · rfl
  · dsimp only; split <;> simp
@[simp] theorem reportWrite_localTime (s : State) (i : Fin 16) (m : Mapping) (n : Nat) : (reportWrite s i m n).localTime = s.localTime := by
  unfold reportWrite; split
  · rfl
  · dsimp only; split <;> simp
@[simp] theorem reportWrite_freeIndex (s : State) (i : Fin 16) (m : Mapping) (n : Nat) : (reportWrite s i m n).freeIndex = s.freeIndex := by
  unfold reportWrite; split
  · rfl
  · dsimp only; split <;> simp
@[simp] theorem reportWrite_pending (s : State) (i : Fin 16) (m : Mapping) (n : Nat) : (reportWrite s i m n).pending = s.pending := by
  unfold reportWrite; split
  · rfl
  · dsimp only; split <;> simp
@[simp] theorem reportWrite_cmd (s : State) (i : Fin 16) (m : Mapping) (n : Nat) : (reportWrite s i m n).cmd = s.cmd := by
  unfold reportWrite; split
  · rfl
  · dsimp only; split <;> simp
@[simp] theorem reportWrite_lanes (s : State) (i : Fin 16) (m : Mapping) (n : Nat) : (reportWrite s i m n).lanes = s.lanes := by
  unfold reportWrite; split
  · rfl
  · dsimp only; split <;> simp
@[simp] theorem reportWrite_stations (s : State) (i : Fin 16) (m : Mapping) (n : Nat) : (reportWrite s i m n).stations = s.stations := by
  unfold reportWrite; split
  · rfl
  · dsimp only; split <;> simp

@[simp] theorem extendRange_path (s : State) (i : Fin 16) (p : Nat) (t : SampleTime) : (extendRange s i p t).path = s.path := by
  simp [extendRange]
@[simp] theorem extendRange_status (s : State) (i : Fin 16) (p : Nat) (t : SampleTime) : (extendRange s i p t).status = s.status := by
  simp [extendRange]
@[simp] theorem extendRange_localTime (s : State) (i : Fin 16) (p : Nat) (t : SampleTime) : (extendRange s i p t).localTime = s.localTime := by
  simp [extendRange]
@[simp] theorem extendRange_freeIndex (s : State) (i : Fin 16) (p : Nat) (t : SampleTime) : (extendRange s i p t).freeIndex = s.freeIndex := by
  simp [extendRange]
@[simp] theorem extendRange_pending (s : State) (i : Fin 16) (p : Nat) (t : SampleTime) : (extendRange s i p t).pending = s.pending := by
  simp [extendRange]
@[simp] theorem extendRange_cmd (s : State) (i : Fin 16) (p : Nat) (t : SampleTime) : (extendRange s i p t).cmd = s.cmd := by
  simp [extendRange]
@[simp] theorem extendRange_lanes (s : State) (i : Fin 16) (p : Nat) (t : SampleTime) : (extendRange s i p t).lanes = s.lanes := by
  simp [extendRange]
@[simp] theorem extendRange_stations (s : State) (i : Fin 16) (p : Nat) (t : SampleTime) : (extendRange s i p t).stations = s.stations := by
  simp [extendRange]
@[simp] theorem extendRange_holds (s : State) (i : Fin 16) (p : Nat) (t : SampleTime) : (extendRange s i p t).holds = s.holds := by
  simp [extendRange]
@[simp] theorem extendRange_notices (s : State) (i : Fin 16) (p : Nat) (t : SampleTime) : (extendRange s i p t).notices = s.notices := by
  simp [extendRange]

/-! ### Lanes -/

@[simp] theorem faultLane_path (s : State) (i : Fin 16) (r : FaultReason) : (faultLane s i r).path = s.path := by
  unfold faultLane; dsimp only; split
  · rfl
  · split <;> (try split) <;> simp
@[simp] theorem faultLane_status (s : State) (i : Fin 16) (r : FaultReason) : (faultLane s i r).status = s.status := by
  unfold faultLane; dsimp only; split
  · rfl
  · split <;> (try split) <;> simp
@[simp] theorem faultLane_localTime (s : State) (i : Fin 16) (r : FaultReason) : (faultLane s i r).localTime = s.localTime := by
  unfold faultLane; dsimp only; split
  · rfl
  · split <;> (try split) <;> simp
@[simp] theorem faultLane_freeIndex (s : State) (i : Fin 16) (r : FaultReason) : (faultLane s i r).freeIndex = s.freeIndex := by
  unfold faultLane; dsimp only; split
  · rfl
  · split <;> (try split) <;> simp
@[simp] theorem faultLane_pending (s : State) (i : Fin 16) (r : FaultReason) : (faultLane s i r).pending = s.pending := by
  unfold faultLane; dsimp only; split
  · rfl
  · split <;> (try split) <;> simp
@[simp] theorem faultLane_cmd (s : State) (i : Fin 16) (r : FaultReason) : (faultLane s i r).cmd = s.cmd := by
  unfold faultLane; dsimp only; split
  · rfl
  · split <;> (try split) <;> simp

@[simp] theorem recoverLane_path (s : State) (i : Fin 16) : (recoverLane s i).path = s.path := by
  unfold recoverLane; dsimp only; split
  · rfl
  · split <;> simp
@[simp] theorem recoverLane_status (s : State) (i : Fin 16) : (recoverLane s i).status = s.status := by
  unfold recoverLane; dsimp only; split
  · rfl
  · split <;> simp
@[simp] theorem recoverLane_localTime (s : State) (i : Fin 16) : (recoverLane s i).localTime = s.localTime := by
  unfold recoverLane; dsimp only; split
  · rfl
  · split <;> simp
@[simp] theorem recoverLane_freeIndex (s : State) (i : Fin 16) : (recoverLane s i).freeIndex = s.freeIndex := by
  unfold recoverLane; dsimp only; split
  · rfl
  · split <;> simp
@[simp] theorem recoverLane_pending (s : State) (i : Fin 16) : (recoverLane s i).pending = s.pending := by
  unfold recoverLane; dsimp only; split
  · rfl
  · split <;> simp
@[simp] theorem recoverLane_cmd (s : State) (i : Fin 16) : (recoverLane s i).cmd = s.cmd := by
  unfold recoverLane; dsimp only; split
  · rfl
  · split <;> simp

@[simp] theorem endTest_path (s : State) (i : Fin 16) (r : TestResult) : (endTest s i r).path = s.path := by
  unfold endTest; split
  · rfl
  · simp
@[simp] theorem endTest_status (s : State) (i : Fin 16) (r : TestResult) : (endTest s i r).status = s.status := by
  unfold endTest; split
  · rfl
  · simp
@[simp] theorem endTest_localTime (s : State) (i : Fin 16) (r : TestResult) : (endTest s i r).localTime = s.localTime := by
  unfold endTest; split
  · rfl
  · simp
@[simp] theorem endTest_freeIndex (s : State) (i : Fin 16) (r : TestResult) : (endTest s i r).freeIndex = s.freeIndex := by
  unfold endTest; split
  · rfl
  · simp
@[simp] theorem endTest_pending (s : State) (i : Fin 16) (r : TestResult) : (endTest s i r).pending = s.pending := by
  unfold endTest; split
  · rfl
  · simp
@[simp] theorem endTest_stations (s : State) (i : Fin 16) (r : TestResult) : (endTest s i r).stations = s.stations := by
  unfold endTest; split
  · rfl
  · simp
@[simp] theorem endTest_segs (s : State) (i : Fin 16) (r : TestResult) : (endTest s i r).segs = s.segs := by
  unfold endTest; split
  · rfl
  · simp
@[simp] theorem endTest_holds (s : State) (i : Fin 16) (r : TestResult) : (endTest s i r).holds = s.holds := by
  unfold endTest; split
  · rfl
  · simp
@[simp] theorem endTest_notices (s : State) (i : Fin 16) (r : TestResult) : (endTest s i r).notices = s.notices := by
  unfold endTest; split
  · rfl
  · simp

@[simp] theorem testVerdict_path (s : State) (i : Fin 16) : (testVerdict s i).path = s.path := by
  unfold testVerdict; split
  · rfl
  · split <;> simp
@[simp] theorem testVerdict_status (s : State) (i : Fin 16) : (testVerdict s i).status = s.status := by
  unfold testVerdict; split
  · rfl
  · split <;> simp
@[simp] theorem testVerdict_localTime (s : State) (i : Fin 16) : (testVerdict s i).localTime = s.localTime := by
  unfold testVerdict; split
  · rfl
  · split <;> simp
@[simp] theorem testVerdict_freeIndex (s : State) (i : Fin 16) : (testVerdict s i).freeIndex = s.freeIndex := by
  unfold testVerdict; split
  · rfl
  · split <;> simp
@[simp] theorem testVerdict_pending (s : State) (i : Fin 16) : (testVerdict s i).pending = s.pending := by
  unfold testVerdict; split
  · rfl
  · split <;> simp
@[simp] theorem testVerdict_stations (s : State) (i : Fin 16) : (testVerdict s i).stations = s.stations := by
  unfold testVerdict; split
  · rfl
  · split <;> simp
@[simp] theorem testVerdict_segs (s : State) (i : Fin 16) : (testVerdict s i).segs = s.segs := by
  unfold testVerdict; split
  · rfl
  · split <;> simp
@[simp] theorem testVerdict_holds (s : State) (i : Fin 16) : (testVerdict s i).holds = s.holds := by
  unfold testVerdict; split
  · rfl
  · split <;> simp
@[simp] theorem testVerdict_notices (s : State) (i : Fin 16) : (testVerdict s i).notices = s.notices := by
  unfold testVerdict; split
  · rfl
  · split <;> simp

@[simp] theorem beginBlock_path (s : State) (i : Fin 16) : (beginBlock s i).path = s.path := by
  unfold beginBlock; dsimp only; split
  · split <;> simp
  · rfl
@[simp] theorem beginBlock_status (s : State) (i : Fin 16) : (beginBlock s i).status = s.status := by
  unfold beginBlock; dsimp only; split
  · split <;> simp
  · rfl
@[simp] theorem beginBlock_localTime (s : State) (i : Fin 16) : (beginBlock s i).localTime = s.localTime := by
  unfold beginBlock; dsimp only; split
  · split <;> simp
  · rfl
@[simp] theorem beginBlock_freeIndex (s : State) (i : Fin 16) : (beginBlock s i).freeIndex = s.freeIndex := by
  unfold beginBlock; dsimp only; split
  · split <;> simp
  · rfl
@[simp] theorem beginBlock_pending (s : State) (i : Fin 16) : (beginBlock s i).pending = s.pending := by
  unfold beginBlock; dsimp only; split
  · split <;> simp
  · rfl
@[simp] theorem beginBlock_cmd (s : State) (i : Fin 16) : (beginBlock s i).cmd = s.cmd := by
  unfold beginBlock; dsimp only; split
  · split <;> simp
  · rfl

@[simp] theorem enterQueue_path (s : State) (i : Fin 16) (d : BlockData) (g : Bool) (p : Nat) (u : Bool) : (enterQueue s i d g p u).path = s.path := by
  unfold enterQueue; dsimp only; split <;> simp
@[simp] theorem enterQueue_status (s : State) (i : Fin 16) (d : BlockData) (g : Bool) (p : Nat) (u : Bool) : (enterQueue s i d g p u).status = s.status := by
  unfold enterQueue; dsimp only; split <;> simp
@[simp] theorem enterQueue_localTime (s : State) (i : Fin 16) (d : BlockData) (g : Bool) (p : Nat) (u : Bool) : (enterQueue s i d g p u).localTime = s.localTime := by
  unfold enterQueue; dsimp only; split <;> simp
@[simp] theorem enterQueue_freeIndex (s : State) (i : Fin 16) (d : BlockData) (g : Bool) (p : Nat) (u : Bool) : (enterQueue s i d g p u).freeIndex = s.freeIndex := by
  unfold enterQueue; dsimp only; split <;> simp
@[simp] theorem enterQueue_pending (s : State) (i : Fin 16) (d : BlockData) (g : Bool) (p : Nat) (u : Bool) : (enterQueue s i d g p u).pending = s.pending := by
  unfold enterQueue; dsimp only; split <;> simp
@[simp] theorem enterQueue_cmd (s : State) (i : Fin 16) (d : BlockData) (g : Bool) (p : Nat) (u : Bool) : (enterQueue s i d g p u).cmd = s.cmd := by
  unfold enterQueue; dsimp only; split <;> simp

@[simp] theorem offerBlock_path (s : State) (i : Fin 16) (d : BlockData) (g : Bool) (p : Nat) : (offerBlock s i d g p).path = s.path := by
  unfold offerBlock; split <;> simp
@[simp] theorem offerBlock_status (s : State) (i : Fin 16) (d : BlockData) (g : Bool) (p : Nat) : (offerBlock s i d g p).status = s.status := by
  unfold offerBlock; split <;> simp
@[simp] theorem offerBlock_localTime (s : State) (i : Fin 16) (d : BlockData) (g : Bool) (p : Nat) : (offerBlock s i d g p).localTime = s.localTime := by
  unfold offerBlock; split <;> simp
@[simp] theorem offerBlock_freeIndex (s : State) (i : Fin 16) (d : BlockData) (g : Bool) (p : Nat) : (offerBlock s i d g p).freeIndex = s.freeIndex := by
  unfold offerBlock; split <;> simp
@[simp] theorem offerBlock_pending (s : State) (i : Fin 16) (d : BlockData) (g : Bool) (p : Nat) : (offerBlock s i d g p).pending = s.pending := by
  unfold offerBlock; split <;> simp
@[simp] theorem offerBlock_cmd (s : State) (i : Fin 16) (d : BlockData) (g : Bool) (p : Nat) : (offerBlock s i d g p).cmd = s.cmd := by
  unfold offerBlock; split <;> simp

@[simp] theorem testGood_path (s : State) (i : Fin 16) (r : TestRun) (d : BlockData) (m p : Nat) : (testGood s i r d m p).path = s.path := by
  unfold testGood; dsimp only; split
  · split
    · split <;> simp
    · simp
  · simp
@[simp] theorem testGood_status (s : State) (i : Fin 16) (r : TestRun) (d : BlockData) (m p : Nat) : (testGood s i r d m p).status = s.status := by
  unfold testGood; dsimp only; split
  · split
    · split <;> simp
    · simp
  · simp
@[simp] theorem testGood_localTime (s : State) (i : Fin 16) (r : TestRun) (d : BlockData) (m p : Nat) : (testGood s i r d m p).localTime = s.localTime := by
  unfold testGood; dsimp only; split
  · split
    · split <;> simp
    · simp
  · simp
@[simp] theorem testGood_freeIndex (s : State) (i : Fin 16) (r : TestRun) (d : BlockData) (m p : Nat) : (testGood s i r d m p).freeIndex = s.freeIndex := by
  unfold testGood; dsimp only; split
  · split
    · split <;> simp
    · simp
  · simp
@[simp] theorem testGood_pending (s : State) (i : Fin 16) (r : TestRun) (d : BlockData) (m p : Nat) : (testGood s i r d m p).pending = s.pending := by
  unfold testGood; dsimp only; split
  · split
    · split <;> simp
    · simp
  · simp
@[simp] theorem testGood_cmd (s : State) (i : Fin 16) (r : TestRun) (d : BlockData) (m p : Nat) : (testGood s i r d m p).cmd = s.cmd := by
  unfold testGood; dsimp only; split
  · split
    · split <;> simp
    · simp
  · simp

@[simp] theorem testBad_path (s : State) (i : Fin 16) (r : TestRun) : (testBad s i r).path = s.path := by
  unfold testBad; split <;> simp
@[simp] theorem testBad_status (s : State) (i : Fin 16) (r : TestRun) : (testBad s i r).status = s.status := by
  unfold testBad; split <;> simp
@[simp] theorem testBad_localTime (s : State) (i : Fin 16) (r : TestRun) : (testBad s i r).localTime = s.localTime := by
  unfold testBad; split <;> simp
@[simp] theorem testBad_freeIndex (s : State) (i : Fin 16) (r : TestRun) : (testBad s i r).freeIndex = s.freeIndex := by
  unfold testBad; split <;> simp
@[simp] theorem testBad_pending (s : State) (i : Fin 16) (r : TestRun) : (testBad s i r).pending = s.pending := by
  unfold testBad; split <;> simp
@[simp] theorem testBad_cmd (s : State) (i : Fin 16) (r : TestRun) : (testBad s i r).cmd = s.cmd := by
  unfold testBad; split <;> simp

@[simp] theorem goodBlock_path (s : State) (i : Fin 16) (d : BlockData) (m p : Nat) : (goodBlock s i d m p).path = s.path := by
  unfold goodBlock; dsimp only; split
  · split <;> simp
  · simp
  · simp
  · simp
  · simp
@[simp] theorem goodBlock_status (s : State) (i : Fin 16) (d : BlockData) (m p : Nat) : (goodBlock s i d m p).status = s.status := by
  unfold goodBlock; dsimp only; split
  · split <;> simp
  · simp
  · simp
  · simp
  · simp
@[simp] theorem goodBlock_localTime (s : State) (i : Fin 16) (d : BlockData) (m p : Nat) : (goodBlock s i d m p).localTime = s.localTime := by
  unfold goodBlock; dsimp only; split
  · split <;> simp
  · simp
  · simp
  · simp
  · simp
@[simp] theorem goodBlock_freeIndex (s : State) (i : Fin 16) (d : BlockData) (m p : Nat) : (goodBlock s i d m p).freeIndex = s.freeIndex := by
  unfold goodBlock; dsimp only; split
  · split <;> simp
  · simp
  · simp
  · simp
  · simp
@[simp] theorem goodBlock_pending (s : State) (i : Fin 16) (d : BlockData) (m p : Nat) : (goodBlock s i d m p).pending = s.pending := by
  unfold goodBlock; dsimp only; split
  · split <;> simp
  · simp
  · simp
  · simp
  · simp

@[simp] theorem badBlock_path (s : State) (i : Fin 16) (r : FaultReason) : (badBlock s i r).path = s.path := by
  unfold badBlock; dsimp only; split
  · simp
  · simp
  · simp
  · simp
  · split <;> simp
@[simp] theorem badBlock_status (s : State) (i : Fin 16) (r : FaultReason) : (badBlock s i r).status = s.status := by
  unfold badBlock; dsimp only; split
  · simp
  · simp
  · simp
  · simp
  · split <;> simp
@[simp] theorem badBlock_localTime (s : State) (i : Fin 16) (r : FaultReason) : (badBlock s i r).localTime = s.localTime := by
  unfold badBlock; dsimp only; split
  · simp
  · simp
  · simp
  · simp
  · split <;> simp
@[simp] theorem badBlock_freeIndex (s : State) (i : Fin 16) (r : FaultReason) : (badBlock s i r).freeIndex = s.freeIndex := by
  unfold badBlock; dsimp only; split
  · simp
  · simp
  · simp
  · simp
  · split <;> simp
@[simp] theorem badBlock_pending (s : State) (i : Fin 16) (r : FaultReason) : (badBlock s i r).pending = s.pending := by
  unfold badBlock; dsimp only; split
  · simp
  · simp
  · simp
  · simp
  · split <;> simp

@[simp] theorem laneSeesWrite_path (s : State) (i : Fin 16) (t : Transfer) (p : Nat) : (laneSeesWrite s i t p).path = s.path := by
  unfold laneSeesWrite; dsimp only; split <;> simp
@[simp] theorem laneSeesWrite_status (s : State) (i : Fin 16) (t : Transfer) (p : Nat) : (laneSeesWrite s i t p).status = s.status := by
  unfold laneSeesWrite; dsimp only; split <;> simp
@[simp] theorem laneSeesWrite_localTime (s : State) (i : Fin 16) (t : Transfer) (p : Nat) : (laneSeesWrite s i t p).localTime = s.localTime := by
  unfold laneSeesWrite; dsimp only; split <;> simp
@[simp] theorem laneSeesWrite_freeIndex (s : State) (i : Fin 16) (t : Transfer) (p : Nat) : (laneSeesWrite s i t p).freeIndex = s.freeIndex := by
  unfold laneSeesWrite; dsimp only; split <;> simp
@[simp] theorem laneSeesWrite_pending (s : State) (i : Fin 16) (t : Transfer) (p : Nat) : (laneSeesWrite s i t p).pending = s.pending := by
  unfold laneSeesWrite; dsimp only; split <;> simp

/-- Hits handed on one after another. -/
theorem handHits_induct {P : State → Prop} {k : Fin 4} (hp : ∀ s h, P s → P (handHit s k h)) (hs : List Hit) (s : State)
    (h : P s) : P (hs.foldl (fun s h => handHit s k h) s) := by
  induction hs generalizing s with
  | nil => exact h
  | cons x rest ih => exact ih _ (hp s x h)

@[simp] theorem advanceHorizon_path (s : State) (i : Fin 16) (k : Fin 4) (t : SampleTime) (d : Int) : (advanceHorizon s i k t d).path = s.path := by
  unfold advanceHorizon; dsimp only; split <;> simp
@[simp] theorem advanceHorizon_status (s : State) (i : Fin 16) (k : Fin 4) (t : SampleTime) (d : Int) : (advanceHorizon s i k t d).status = s.status := by
  unfold advanceHorizon; dsimp only; split <;> simp
@[simp] theorem advanceHorizon_localTime (s : State) (i : Fin 16) (k : Fin 4) (t : SampleTime) (d : Int) : (advanceHorizon s i k t d).localTime = s.localTime := by
  unfold advanceHorizon; dsimp only; split <;> simp
@[simp] theorem advanceHorizon_freeIndex (s : State) (i : Fin 16) (k : Fin 4) (t : SampleTime) (d : Int) : (advanceHorizon s i k t d).freeIndex = s.freeIndex := by
  unfold advanceHorizon; dsimp only; split <;> simp
@[simp] theorem advanceHorizon_pending (s : State) (i : Fin 16) (k : Fin 4) (t : SampleTime) (d : Int) : (advanceHorizon s i k t d).pending = s.pending := by
  unfold advanceHorizon; dsimp only; split <;> simp
@[simp] theorem advanceHorizon_cmd (s : State) (i : Fin 16) (k : Fin 4) (t : SampleTime) (d : Int) : (advanceHorizon s i k t d).cmd = s.cmd := by
  unfold advanceHorizon; dsimp only; split <;> simp

@[simp] theorem endAE_path (s : State) (i : Fin 16) (k : Fin 4) (r : Fin 6) (b : QueuedBlock) (q : List QueuedBlock) :
    (endAE s i k r b q).path = s.path := by
  simp only [endAE, advanceHorizon_path]
  exact handHits_induct (P := fun t => t.path = s.path) (fun t h ht => by simp [ht]) _ _ (by simp)
@[simp] theorem endAE_status (s : State) (i : Fin 16) (k : Fin 4) (r : Fin 6) (b : QueuedBlock) (q : List QueuedBlock) :
    (endAE s i k r b q).status = s.status := by
  simp only [endAE, advanceHorizon_status]
  exact handHits_induct (P := fun t => t.status = s.status) (fun t h ht => by simp [ht]) _ _ (by simp)
@[simp] theorem endAE_localTime (s : State) (i : Fin 16) (k : Fin 4) (r : Fin 6) (b : QueuedBlock) (q : List QueuedBlock) :
    (endAE s i k r b q).localTime = s.localTime := by
  simp only [endAE, advanceHorizon_localTime]
  exact handHits_induct (P := fun t => t.localTime = s.localTime) (fun t h ht => by simp [ht]) _ _ (by simp)
@[simp] theorem endAE_freeIndex (s : State) (i : Fin 16) (k : Fin 4) (r : Fin 6) (b : QueuedBlock) (q : List QueuedBlock) :
    (endAE s i k r b q).freeIndex = s.freeIndex := by
  simp only [endAE, advanceHorizon_freeIndex]
  exact handHits_induct (P := fun t => t.freeIndex = s.freeIndex) (fun t h ht => by simp [ht]) _ _ (by simp)
@[simp] theorem endAE_pending (s : State) (i : Fin 16) (k : Fin 4) (r : Fin 6) (b : QueuedBlock) (q : List QueuedBlock) :
    (endAE s i k r b q).pending = s.pending := by
  simp only [endAE, advanceHorizon_pending]
  exact handHits_induct (P := fun t => t.pending = s.pending) (fun t h ht => by simp [ht]) _ _ (by simp)
@[simp] theorem endAE_cmd (s : State) (i : Fin 16) (k : Fin 4) (r : Fin 6) (b : QueuedBlock) (q : List QueuedBlock) :
    (endAE s i k r b q).cmd = s.cmd := by
  simp only [endAE, advanceHorizon_cmd]
  exact handHits_induct (P := fun t => t.cmd = s.cmd) (fun t h ht => by simp [ht]) _ _ (by simp)

@[simp] theorem endVibration_path (s : State) (i : Fin 16) (k : Fin 4) (b : QueuedBlock) (q : List QueuedBlock) : (endVibration s i k b q).path = s.path := by
  unfold endVibration; dsimp only; split <;> simp
@[simp] theorem endVibration_status (s : State) (i : Fin 16) (k : Fin 4) (b : QueuedBlock) (q : List QueuedBlock) : (endVibration s i k b q).status = s.status := by
  unfold endVibration; dsimp only; split <;> simp
@[simp] theorem endVibration_localTime (s : State) (i : Fin 16) (k : Fin 4) (b : QueuedBlock) (q : List QueuedBlock) : (endVibration s i k b q).localTime = s.localTime := by
  unfold endVibration; dsimp only; split <;> simp
@[simp] theorem endVibration_freeIndex (s : State) (i : Fin 16) (k : Fin 4) (b : QueuedBlock) (q : List QueuedBlock) : (endVibration s i k b q).freeIndex = s.freeIndex := by
  unfold endVibration; dsimp only; split <;> simp
@[simp] theorem endVibration_pending (s : State) (i : Fin 16) (k : Fin 4) (b : QueuedBlock) (q : List QueuedBlock) : (endVibration s i k b q).pending = s.pending := by
  unfold endVibration; dsimp only; split <;> simp
@[simp] theorem endVibration_cmd (s : State) (i : Fin 16) (k : Fin 4) (b : QueuedBlock) (q : List QueuedBlock) : (endVibration s i k b q).cmd = s.cmd := by
  unfold endVibration; dsimp only; split <;> simp

@[simp] theorem endTestBlock_path (s : State) (i : Fin 16) (r : TestRun) (b : QueuedBlock) (q : List QueuedBlock) : (endTestBlock s i r b q).path = s.path := by
  simp [endTestBlock]
@[simp] theorem endTestBlock_status (s : State) (i : Fin 16) (r : TestRun) (b : QueuedBlock) (q : List QueuedBlock) : (endTestBlock s i r b q).status = s.status := by
  simp [endTestBlock]
@[simp] theorem endTestBlock_localTime (s : State) (i : Fin 16) (r : TestRun) (b : QueuedBlock) (q : List QueuedBlock) : (endTestBlock s i r b q).localTime = s.localTime := by
  simp [endTestBlock]
@[simp] theorem endTestBlock_freeIndex (s : State) (i : Fin 16) (r : TestRun) (b : QueuedBlock) (q : List QueuedBlock) : (endTestBlock s i r b q).freeIndex = s.freeIndex := by
  simp [endTestBlock]
@[simp] theorem endTestBlock_pending (s : State) (i : Fin 16) (r : TestRun) (b : QueuedBlock) (q : List QueuedBlock) : (endTestBlock s i r b q).pending = s.pending := by
  simp [endTestBlock]

@[simp] theorem endBlock_path (s : State) (i : Fin 16) : (endBlock s i).path = s.path := by
  unfold endBlock; dsimp only; split
  · split
    · simp
    · split <;> simp
  · rfl
@[simp] theorem endBlock_status (s : State) (i : Fin 16) : (endBlock s i).status = s.status := by
  unfold endBlock; dsimp only; split
  · split
    · simp
    · split <;> simp
  · rfl
@[simp] theorem endBlock_localTime (s : State) (i : Fin 16) : (endBlock s i).localTime = s.localTime := by
  unfold endBlock; dsimp only; split
  · split
    · simp
    · split <;> simp
  · rfl
@[simp] theorem endBlock_freeIndex (s : State) (i : Fin 16) : (endBlock s i).freeIndex = s.freeIndex := by
  unfold endBlock; dsimp only; split
  · split
    · simp
    · split <;> simp
  · rfl
@[simp] theorem endBlock_pending (s : State) (i : Fin 16) : (endBlock s i).pending = s.pending := by
  unfold endBlock; dsimp only; split
  · split
    · simp
    · split <;> simp
  · rfl

end Sys2Proof.Machine
end

