-- ==== Sys2Proof/Laws/Commands.lean ====
section
/-! SUPPORT. What the start of each command and each event's effect leave as they were. -/

namespace Sys2Proof.Machine

-- One theorem at a time: many at once exceed the check's memory limit.
set_option Elab.async false

/-! ### Starts of commands -/

@[simp] theorem startHoldSegment_localTime (c : Cmd) (s : State) : (startHoldSegment c s).localTime = s.localTime := by
  unfold startHoldSegment; dsimp only
  repeat' split
  all_goals simp
@[simp] theorem startHoldSegment_pending (c : Cmd) (s : State) : (startHoldSegment c s).pending = s.pending := by
  unfold startHoldSegment; dsimp only
  repeat' split
  all_goals simp
@[simp] theorem startHoldSegment_path (c : Cmd) (s : State) : (startHoldSegment c s).path = s.path := by
  unfold startHoldSegment; dsimp only
  repeat' split
  all_goals simp
@[simp] theorem startHoldSegment_lanes (c : Cmd) (s : State) : (startHoldSegment c s).lanes = s.lanes := by
  unfold startHoldSegment; dsimp only
  repeat' split
  all_goals simp
@[simp] theorem startHoldSegment_stations (c : Cmd) (s : State) : (startHoldSegment c s).stations = s.stations := by
  unfold startHoldSegment; dsimp only
  repeat' split
  all_goals simp
@[simp] theorem startHoldSegment_segs (c : Cmd) (s : State) : (startHoldSegment c s).segs = s.segs := by
  unfold startHoldSegment; dsimp only
  repeat' split
  all_goals simp
@[simp] theorem startHoldSegment_notices (c : Cmd) (s : State) : (startHoldSegment c s).notices = s.notices := by
  unfold startHoldSegment; dsimp only
  repeat' split
  all_goals simp
@[simp] theorem startHoldSegment_status (c : Cmd) (s : State) : (startHoldSegment c s).status = s.status := by
  unfold startHoldSegment; dsimp only
  repeat' split
  all_goals simp

@[simp] theorem releaseAll_localTime (s : State) (i : Fin 16) (n : Nat) : (releaseAll s i n).localTime = s.localTime := by
  simp [releaseAll]
@[simp] theorem releaseAll_pending (s : State) (i : Fin 16) (n : Nat) : (releaseAll s i n).pending = s.pending := by
  simp [releaseAll]
@[simp] theorem releaseAll_path (s : State) (i : Fin 16) (n : Nat) : (releaseAll s i n).path = s.path := by
  simp [releaseAll]
@[simp] theorem releaseAll_lanes (s : State) (i : Fin 16) (n : Nat) : (releaseAll s i n).lanes = s.lanes := by
  simp [releaseAll]
@[simp] theorem releaseAll_stations (s : State) (i : Fin 16) (n : Nat) : (releaseAll s i n).stations = s.stations := by
  simp [releaseAll]
@[simp] theorem releaseAll_cmd (s : State) (i : Fin 16) (n : Nat) : (releaseAll s i n).cmd = s.cmd := by
  simp [releaseAll]
@[simp] theorem releaseAll_notices (s : State) (i : Fin 16) (n : Nat) : (releaseAll s i n).notices = s.notices := by
  simp [releaseAll]
@[simp] theorem releaseAll_status (s : State) (i : Fin 16) (n : Nat) : (releaseAll s i n).status = s.status := by
  simp [releaseAll]
@[simp] theorem releaseAll_freeIndex (s : State) (i : Fin 16) (n : Nat) : (releaseAll s i n).freeIndex = s.freeIndex := by
  simp [releaseAll]

@[simp] theorem startReleaseHold_localTime (c : Cmd) (s : State) : (startReleaseHold c s).localTime = s.localTime := by
  unfold startReleaseHold; dsimp only
  repeat' split
  all_goals simp
@[simp] theorem startReleaseHold_pending (c : Cmd) (s : State) : (startReleaseHold c s).pending = s.pending := by
  unfold startReleaseHold; dsimp only
  repeat' split
  all_goals simp
@[simp] theorem startReleaseHold_path (c : Cmd) (s : State) : (startReleaseHold c s).path = s.path := by
  unfold startReleaseHold; dsimp only
  repeat' split
  all_goals simp
@[simp] theorem startReleaseHold_lanes (c : Cmd) (s : State) : (startReleaseHold c s).lanes = s.lanes := by
  unfold startReleaseHold; dsimp only
  repeat' split
  all_goals simp
@[simp] theorem startReleaseHold_stations (c : Cmd) (s : State) : (startReleaseHold c s).stations = s.stations := by
  unfold startReleaseHold; dsimp only
  repeat' split
  all_goals simp
@[simp] theorem startReleaseHold_notices (c : Cmd) (s : State) : (startReleaseHold c s).notices = s.notices := by
  unfold startReleaseHold; dsimp only
  repeat' split
  all_goals simp
@[simp] theorem startReleaseHold_status (c : Cmd) (s : State) : (startReleaseHold c s).status = s.status := by
  unfold startReleaseHold; dsimp only
  repeat' split
  all_goals simp

@[simp] theorem startSetMapCriteria_localTime (c : Cmd) (s : State) : (startSetMapCriteria c s).localTime = s.localTime := by
  unfold startSetMapCriteria; dsimp only
  repeat' split
  all_goals simp
@[simp] theorem startSetMapCriteria_pending (c : Cmd) (s : State) : (startSetMapCriteria c s).pending = s.pending := by
  unfold startSetMapCriteria; dsimp only
  repeat' split
  all_goals simp
@[simp] theorem startSetMapCriteria_path (c : Cmd) (s : State) : (startSetMapCriteria c s).path = s.path := by
  unfold startSetMapCriteria; dsimp only
  repeat' split
  all_goals simp
@[simp] theorem startSetMapCriteria_lanes (c : Cmd) (s : State) : (startSetMapCriteria c s).lanes = s.lanes := by
  unfold startSetMapCriteria; dsimp only
  repeat' split
  all_goals simp
@[simp] theorem startSetMapCriteria_segs (c : Cmd) (s : State) : (startSetMapCriteria c s).segs = s.segs := by
  unfold startSetMapCriteria; dsimp only
  repeat' split
  all_goals simp
@[simp] theorem startSetMapCriteria_holds (c : Cmd) (s : State) : (startSetMapCriteria c s).holds = s.holds := by
  unfold startSetMapCriteria; dsimp only
  repeat' split
  all_goals simp
@[simp] theorem startSetMapCriteria_notices (c : Cmd) (s : State) : (startSetMapCriteria c s).notices = s.notices := by
  unfold startSetMapCriteria; dsimp only
  repeat' split
  all_goals simp
@[simp] theorem startSetMapCriteria_status (c : Cmd) (s : State) : (startSetMapCriteria c s).status = s.status := by
  unfold startSetMapCriteria; dsimp only
  repeat' split
  all_goals simp

@[simp] theorem startClearCells_localTime (c : Cmd) (s : State) : (startClearCells c s).localTime = s.localTime := by
  unfold startClearCells; dsimp only
  repeat' split
  all_goals simp
@[simp] theorem startClearCells_pending (c : Cmd) (s : State) : (startClearCells c s).pending = s.pending := by
  unfold startClearCells; dsimp only
  repeat' split
  all_goals simp
@[simp] theorem startClearCells_path (c : Cmd) (s : State) : (startClearCells c s).path = s.path := by
  unfold startClearCells; dsimp only
  repeat' split
  all_goals simp
@[simp] theorem startClearCells_lanes (c : Cmd) (s : State) : (startClearCells c s).lanes = s.lanes := by
  unfold startClearCells; dsimp only
  repeat' split
  all_goals simp
@[simp] theorem startClearCells_segs (c : Cmd) (s : State) : (startClearCells c s).segs = s.segs := by
  unfold startClearCells; dsimp only
  repeat' split
  all_goals simp
@[simp] theorem startClearCells_holds (c : Cmd) (s : State) : (startClearCells c s).holds = s.holds := by
  unfold startClearCells; dsimp only
  repeat' split
  all_goals simp
@[simp] theorem startClearCells_notices (c : Cmd) (s : State) : (startClearCells c s).notices = s.notices := by
  unfold startClearCells; dsimp only
  repeat' split
  all_goals simp
@[simp] theorem startClearCells_status (c : Cmd) (s : State) : (startClearCells c s).status = s.status := by
  unfold startClearCells; dsimp only
  repeat' split
  all_goals simp

@[simp] theorem startCopyMap_localTime (c : Cmd) (s : State) : (startCopyMap c s).localTime = s.localTime := by
  unfold startCopyMap; dsimp only
  repeat' split
  all_goals simp
@[simp] theorem startCopyMap_pending (c : Cmd) (s : State) : (startCopyMap c s).pending = s.pending := by
  unfold startCopyMap; dsimp only
  repeat' split
  all_goals simp
@[simp] theorem startCopyMap_path (c : Cmd) (s : State) : (startCopyMap c s).path = s.path := by
  unfold startCopyMap; dsimp only
  repeat' split
  all_goals simp
@[simp] theorem startCopyMap_lanes (c : Cmd) (s : State) : (startCopyMap c s).lanes = s.lanes := by
  unfold startCopyMap; dsimp only
  repeat' split
  all_goals simp
@[simp] theorem startCopyMap_stations (c : Cmd) (s : State) : (startCopyMap c s).stations = s.stations := by
  unfold startCopyMap; dsimp only
  repeat' split
  all_goals simp
@[simp] theorem startCopyMap_segs (c : Cmd) (s : State) : (startCopyMap c s).segs = s.segs := by
  unfold startCopyMap; dsimp only
  repeat' split
  all_goals simp
@[simp] theorem startCopyMap_holds (c : Cmd) (s : State) : (startCopyMap c s).holds = s.holds := by
  unfold startCopyMap; dsimp only
  repeat' split
  all_goals simp
@[simp] theorem startCopyMap_notices (c : Cmd) (s : State) : (startCopyMap c s).notices = s.notices := by
  unfold startCopyMap; dsimp only
  repeat' split
  all_goals simp
@[simp] theorem startCopyMap_status (c : Cmd) (s : State) : (startCopyMap c s).status = s.status := by
  unfold startCopyMap; dsimp only
  repeat' split
  all_goals simp

@[simp] theorem startSetLocationLine_localTime (c : Cmd) (s : State) : (startSetLocationLine c s).localTime = s.localTime := by
  unfold startSetLocationLine; dsimp only
  repeat' split
  all_goals simp
@[simp] theorem startSetLocationLine_pending (c : Cmd) (s : State) : (startSetLocationLine c s).pending = s.pending := by
  unfold startSetLocationLine; dsimp only
  repeat' split
  all_goals simp
@[simp] theorem startSetLocationLine_path (c : Cmd) (s : State) : (startSetLocationLine c s).path = s.path := by
  unfold startSetLocationLine; dsimp only
  repeat' split
  all_goals simp
@[simp] theorem startSetLocationLine_lanes (c : Cmd) (s : State) : (startSetLocationLine c s).lanes = s.lanes := by
  unfold startSetLocationLine; dsimp only
  repeat' split
  all_goals simp
@[simp] theorem startSetLocationLine_segs (c : Cmd) (s : State) : (startSetLocationLine c s).segs = s.segs := by
  unfold startSetLocationLine; dsimp only
  repeat' split
  all_goals simp
@[simp] theorem startSetLocationLine_holds (c : Cmd) (s : State) : (startSetLocationLine c s).holds = s.holds := by
  unfold startSetLocationLine; dsimp only
  repeat' split
  all_goals simp
@[simp] theorem startSetLocationLine_notices (c : Cmd) (s : State) : (startSetLocationLine c s).notices = s.notices := by
  unfold startSetLocationLine; dsimp only
  repeat' split
  all_goals simp
@[simp] theorem startSetLocationLine_status (c : Cmd) (s : State) : (startSetLocationLine c s).status = s.status := by
  unfold startSetLocationLine; dsimp only
  repeat' split
  all_goals simp

@[simp] theorem mapLaneEffect_localTime (s : State) (i : Fin 16) (m : Mapping) : (mapLaneEffect s i m).localTime = s.localTime := by
  simp [mapLaneEffect]
@[simp] theorem mapLaneEffect_pending (s : State) (i : Fin 16) (m : Mapping) : (mapLaneEffect s i m).pending = s.pending := by
  simp [mapLaneEffect]
@[simp] theorem mapLaneEffect_path (s : State) (i : Fin 16) (m : Mapping) : (mapLaneEffect s i m).path = s.path := by
  simp [mapLaneEffect]
@[simp] theorem mapLaneEffect_stations (s : State) (i : Fin 16) (m : Mapping) : (mapLaneEffect s i m).stations = s.stations := by
  simp [mapLaneEffect]
@[simp] theorem mapLaneEffect_cmd (s : State) (i : Fin 16) (m : Mapping) : (mapLaneEffect s i m).cmd = s.cmd := by
  simp [mapLaneEffect]
@[simp] theorem mapLaneEffect_notices (s : State) (i : Fin 16) (m : Mapping) : (mapLaneEffect s i m).notices = s.notices := by
  simp [mapLaneEffect]
@[simp] theorem mapLaneEffect_status (s : State) (i : Fin 16) (m : Mapping) : (mapLaneEffect s i m).status = s.status := by
  simp [mapLaneEffect]
@[simp] theorem mapLaneEffect_freeIndex (s : State) (i : Fin 16) (m : Mapping) : (mapLaneEffect s i m).freeIndex = s.freeIndex := by
  simp [mapLaneEffect]

@[simp] theorem startMapLane_localTime (c : Cmd) (s : State) : (startMapLane c s).localTime = s.localTime := by
  unfold startMapLane
  repeat' split
  all_goals simp
@[simp] theorem startMapLane_pending (c : Cmd) (s : State) : (startMapLane c s).pending = s.pending := by
  unfold startMapLane
  repeat' split
  all_goals simp
@[simp] theorem startMapLane_path (c : Cmd) (s : State) : (startMapLane c s).path = s.path := by
  unfold startMapLane
  repeat' split
  all_goals simp
@[simp] theorem startMapLane_stations (c : Cmd) (s : State) : (startMapLane c s).stations = s.stations := by
  unfold startMapLane
  repeat' split
  all_goals simp
@[simp] theorem startMapLane_notices (c : Cmd) (s : State) : (startMapLane c s).notices = s.notices := by
  unfold startMapLane
  repeat' split
  all_goals simp
@[simp] theorem startMapLane_status (c : Cmd) (s : State) : (startMapLane c s).status = s.status := by
  unfold startMapLane
  repeat' split
  all_goals simp

@[simp] theorem startUnmapLane_localTime (c : Cmd) (s : State) : (startUnmapLane c s).localTime = s.localTime := by
  unfold startUnmapLane; dsimp only
  repeat' split
  all_goals simp
@[simp] theorem startUnmapLane_pending (c : Cmd) (s : State) : (startUnmapLane c s).pending = s.pending := by
  unfold startUnmapLane; dsimp only
  repeat' split
  all_goals simp
@[simp] theorem startUnmapLane_path (c : Cmd) (s : State) : (startUnmapLane c s).path = s.path := by
  unfold startUnmapLane; dsimp only
  repeat' split
  all_goals simp
@[simp] theorem startUnmapLane_stations (c : Cmd) (s : State) : (startUnmapLane c s).stations = s.stations := by
  unfold startUnmapLane; dsimp only
  repeat' split
  all_goals simp
@[simp] theorem startUnmapLane_notices (c : Cmd) (s : State) : (startUnmapLane c s).notices = s.notices := by
  unfold startUnmapLane; dsimp only
  repeat' split
  all_goals simp
@[simp] theorem startUnmapLane_status (c : Cmd) (s : State) : (startUnmapLane c s).status = s.status := by
  unfold startUnmapLane; dsimp only
  repeat' split
  all_goals simp

@[simp] theorem silenceCheck_localTime (s : State) (i : Fin 16) : (silenceCheck s i).localTime = s.localTime := by
  unfold silenceCheck; split <;> simp
@[simp] theorem silenceCheck_pending (s : State) (i : Fin 16) : (silenceCheck s i).pending = s.pending := by
  unfold silenceCheck; split <;> simp
@[simp] theorem silenceCheck_path (s : State) (i : Fin 16) : (silenceCheck s i).path = s.path := by
  unfold silenceCheck; split <;> simp
@[simp] theorem silenceCheck_cmd (s : State) (i : Fin 16) : (silenceCheck s i).cmd = s.cmd := by
  unfold silenceCheck; split <;> simp
@[simp] theorem silenceCheck_status (s : State) (i : Fin 16) : (silenceCheck s i).status = s.status := by
  unfold silenceCheck; split <;> simp
@[simp] theorem silenceCheck_freeIndex (s : State) (i : Fin 16) : (silenceCheck s i).freeIndex = s.freeIndex := by
  unfold silenceCheck; split <;> simp

@[simp] theorem startSetLaneConditioning_localTime (c : Cmd) (s : State) : (startSetLaneConditioning c s).localTime = s.localTime := by
  unfold startSetLaneConditioning; dsimp only
  repeat' split
  all_goals simp
@[simp] theorem startSetLaneConditioning_pending (c : Cmd) (s : State) : (startSetLaneConditioning c s).pending = s.pending := by
  unfold startSetLaneConditioning; dsimp only
  repeat' split
  all_goals simp
@[simp] theorem startSetLaneConditioning_path (c : Cmd) (s : State) : (startSetLaneConditioning c s).path = s.path := by
  unfold startSetLaneConditioning; dsimp only
  repeat' split
  all_goals simp
@[simp] theorem startSetLaneConditioning_status (c : Cmd) (s : State) : (startSetLaneConditioning c s).status = s.status := by
  unfold startSetLaneConditioning; dsimp only
  repeat' split
  all_goals simp

@[simp] theorem startTestLane_localTime (c : Cmd) (s : State) : (startTestLane c s).localTime = s.localTime := by
  unfold startTestLane; dsimp only
  repeat' split
  all_goals simp
@[simp] theorem startTestLane_pending (c : Cmd) (s : State) : (startTestLane c s).pending = s.pending := by
  unfold startTestLane; dsimp only
  repeat' split
  all_goals simp
@[simp] theorem startTestLane_path (c : Cmd) (s : State) : (startTestLane c s).path = s.path := by
  unfold startTestLane; dsimp only
  repeat' split
  all_goals simp
@[simp] theorem startTestLane_stations (c : Cmd) (s : State) : (startTestLane c s).stations = s.stations := by
  unfold startTestLane; dsimp only
  repeat' split
  all_goals simp
@[simp] theorem startTestLane_segs (c : Cmd) (s : State) : (startTestLane c s).segs = s.segs := by
  unfold startTestLane; dsimp only
  repeat' split
  all_goals simp
@[simp] theorem startTestLane_holds (c : Cmd) (s : State) : (startTestLane c s).holds = s.holds := by
  unfold startTestLane; dsimp only
  repeat' split
  all_goals simp
@[simp] theorem startTestLane_notices (c : Cmd) (s : State) : (startTestLane c s).notices = s.notices := by
  unfold startTestLane; dsimp only
  repeat' split
  all_goals simp
@[simp] theorem startTestLane_status (c : Cmd) (s : State) : (startTestLane c s).status = s.status := by
  unfold startTestLane; dsimp only
  repeat' split
  all_goals simp

@[simp] theorem startSetDetection_localTime (c : Cmd) (s : State) : (startSetDetection c s).localTime = s.localTime := by
  unfold startSetDetection; dsimp only
  repeat' split
  all_goals simp
@[simp] theorem startSetDetection_pending (c : Cmd) (s : State) : (startSetDetection c s).pending = s.pending := by
  unfold startSetDetection; dsimp only
  repeat' split
  all_goals simp
@[simp] theorem startSetDetection_path (c : Cmd) (s : State) : (startSetDetection c s).path = s.path := by
  unfold startSetDetection; dsimp only
  repeat' split
  all_goals simp
@[simp] theorem startSetDetection_stations (c : Cmd) (s : State) : (startSetDetection c s).stations = s.stations := by
  unfold startSetDetection; dsimp only
  repeat' split
  all_goals simp
@[simp] theorem startSetDetection_segs (c : Cmd) (s : State) : (startSetDetection c s).segs = s.segs := by
  unfold startSetDetection; dsimp only
  repeat' split
  all_goals simp
@[simp] theorem startSetDetection_holds (c : Cmd) (s : State) : (startSetDetection c s).holds = s.holds := by
  unfold startSetDetection; dsimp only
  repeat' split
  all_goals simp
@[simp] theorem startSetDetection_notices (c : Cmd) (s : State) : (startSetDetection c s).notices = s.notices := by
  unfold startSetDetection; dsimp only
  repeat' split
  all_goals simp
@[simp] theorem startSetDetection_status (c : Cmd) (s : State) : (startSetDetection c s).status = s.status := by
  unfold startSetDetection; dsimp only
  repeat' split
  all_goals simp

@[simp] theorem startSetStation_localTime (c : Cmd) (s : State) : (startSetStation c s).localTime = s.localTime := by
  unfold startSetStation; dsimp only
  repeat' split
  all_goals simp
@[simp] theorem startSetStation_pending (c : Cmd) (s : State) : (startSetStation c s).pending = s.pending := by
  unfold startSetStation; dsimp only
  repeat' split
  all_goals simp
@[simp] theorem startSetStation_path (c : Cmd) (s : State) : (startSetStation c s).path = s.path := by
  unfold startSetStation; dsimp only
  repeat' split
  all_goals simp
@[simp] theorem startSetStation_lanes (c : Cmd) (s : State) : (startSetStation c s).lanes = s.lanes := by
  unfold startSetStation; dsimp only
  repeat' split
  all_goals simp
@[simp] theorem startSetStation_segs (c : Cmd) (s : State) : (startSetStation c s).segs = s.segs := by
  unfold startSetStation; dsimp only
  repeat' split
  all_goals simp
@[simp] theorem startSetStation_holds (c : Cmd) (s : State) : (startSetStation c s).holds = s.holds := by
  unfold startSetStation; dsimp only
  repeat' split
  all_goals simp
@[simp] theorem startSetStation_notices (c : Cmd) (s : State) : (startSetStation c s).notices = s.notices := by
  unfold startSetStation; dsimp only
  repeat' split
  all_goals simp
@[simp] theorem startSetStation_status (c : Cmd) (s : State) : (startSetStation c s).status = s.status := by
  unfold startSetStation; dsimp only
  repeat' split
  all_goals simp

@[simp] theorem startStartStation_localTime (c : Cmd) (s : State) : (startStartStation c s).localTime = s.localTime := by
  unfold startStartStation; dsimp only
  repeat' split
  all_goals simp
@[simp] theorem startStartStation_pending (c : Cmd) (s : State) : (startStartStation c s).pending = s.pending := by
  unfold startStartStation; dsimp only
  repeat' split
  all_goals simp
@[simp] theorem startStartStation_path (c : Cmd) (s : State) : (startStartStation c s).path = s.path := by
  unfold startStartStation; dsimp only
  repeat' split
  all_goals simp
@[simp] theorem startStartStation_segs (c : Cmd) (s : State) : (startStartStation c s).segs = s.segs := by
  unfold startStartStation; dsimp only
  repeat' split
  all_goals simp
@[simp] theorem startStartStation_holds (c : Cmd) (s : State) : (startStartStation c s).holds = s.holds := by
  unfold startStartStation; dsimp only
  repeat' split
  all_goals simp
@[simp] theorem startStartStation_notices (c : Cmd) (s : State) : (startStartStation c s).notices = s.notices := by
  unfold startStartStation; dsimp only
  repeat' split
  all_goals simp
@[simp] theorem startStartStation_status (c : Cmd) (s : State) : (startStartStation c s).status = s.status := by
  unfold startStartStation; dsimp only
  repeat' split
  all_goals simp

@[simp] theorem startStopStation_localTime (c : Cmd) (s : State) : (startStopStation c s).localTime = s.localTime := by
  unfold startStopStation
  repeat' split
  all_goals simp
@[simp] theorem startStopStation_pending (c : Cmd) (s : State) : (startStopStation c s).pending = s.pending := by
  unfold startStopStation
  repeat' split
  all_goals simp
@[simp] theorem startStopStation_path (c : Cmd) (s : State) : (startStopStation c s).path = s.path := by
  unfold startStopStation
  repeat' split
  all_goals simp
@[simp] theorem startStopStation_segs (c : Cmd) (s : State) : (startStopStation c s).segs = s.segs := by
  unfold startStopStation
  repeat' split
  all_goals simp
@[simp] theorem startStopStation_holds (c : Cmd) (s : State) : (startStopStation c s).holds = s.holds := by
  unfold startStopStation
  repeat' split
  all_goals simp
@[simp] theorem startStopStation_notices (c : Cmd) (s : State) : (startStopStation c s).notices = s.notices := by
  unfold startStopStation
  repeat' split
  all_goals simp
@[simp] theorem startStopStation_status (c : Cmd) (s : State) : (startStopStation c s).status = s.status := by
  unfold startStopStation
  repeat' split
  all_goals simp

@[simp] theorem startSetNoticeRing_localTime (c : Cmd) (s : State) : (startSetNoticeRing c s).localTime = s.localTime := by
  unfold startSetNoticeRing; dsimp only
  repeat' split
  all_goals simp
@[simp] theorem startSetNoticeRing_pending (c : Cmd) (s : State) : (startSetNoticeRing c s).pending = s.pending := by
  unfold startSetNoticeRing; dsimp only
  repeat' split
  all_goals simp
@[simp] theorem startSetNoticeRing_lanes (c : Cmd) (s : State) : (startSetNoticeRing c s).lanes = s.lanes := by
  unfold startSetNoticeRing; dsimp only
  repeat' split
  all_goals simp
@[simp] theorem startSetNoticeRing_stations (c : Cmd) (s : State) : (startSetNoticeRing c s).stations = s.stations := by
  unfold startSetNoticeRing; dsimp only
  repeat' split
  all_goals simp
@[simp] theorem startSetNoticeRing_segs (c : Cmd) (s : State) : (startSetNoticeRing c s).segs = s.segs := by
  unfold startSetNoticeRing; dsimp only
  repeat' split
  all_goals simp
@[simp] theorem startSetNoticeRing_holds (c : Cmd) (s : State) : (startSetNoticeRing c s).holds = s.holds := by
  unfold startSetNoticeRing; dsimp only
  repeat' split
  all_goals simp
@[simp] theorem startSetNoticeRing_status (c : Cmd) (s : State) : (startSetNoticeRing c s).status = s.status := by
  unfold startSetNoticeRing; dsimp only
  repeat' split
  all_goals simp

@[simp] theorem startStatusWrite_localTime (s : State) : (startStatusWrite s).localTime = s.localTime := by
  rfl
@[simp] theorem startStatusWrite_pending (s : State) : (startStatusWrite s).pending = s.pending := by
  rfl
@[simp] theorem startStatusWrite_path (s : State) : (startStatusWrite s).path = s.path := by
  rfl
@[simp] theorem startStatusWrite_lanes (s : State) : (startStatusWrite s).lanes = s.lanes := by
  rfl
@[simp] theorem startStatusWrite_stations (s : State) : (startStatusWrite s).stations = s.stations := by
  rfl
@[simp] theorem startStatusWrite_segs (s : State) : (startStatusWrite s).segs = s.segs := by
  rfl
@[simp] theorem startStatusWrite_holds (s : State) : (startStatusWrite s).holds = s.holds := by
  rfl
@[simp] theorem startStatusWrite_cmd (s : State) : (startStatusWrite s).cmd = s.cmd := by
  rfl
@[simp] theorem startStatusWrite_notices (s : State) : (startStatusWrite s).notices = s.notices := by
  rfl
@[simp] theorem startStatusWrite_freeIndex (s : State) : (startStatusWrite s).freeIndex = s.freeIndex := by
  rfl

@[simp] theorem settleStatusWrite_localTime (s : State) : (settleStatusWrite s).localTime = s.localTime := by
  unfold settleStatusWrite; split
  · rfl
  · split
    · rfl
    · split <;> simp
@[simp] theorem settleStatusWrite_pending (s : State) : (settleStatusWrite s).pending = s.pending := by
  unfold settleStatusWrite; split
  · rfl
  · split
    · rfl
    · split <;> simp
@[simp] theorem settleStatusWrite_path (s : State) : (settleStatusWrite s).path = s.path := by
  unfold settleStatusWrite; split
  · rfl
  · split
    · rfl
    · split <;> simp
@[simp] theorem settleStatusWrite_lanes (s : State) : (settleStatusWrite s).lanes = s.lanes := by
  unfold settleStatusWrite; split
  · rfl
  · split
    · rfl
    · split <;> simp
@[simp] theorem settleStatusWrite_stations (s : State) : (settleStatusWrite s).stations = s.stations := by
  unfold settleStatusWrite; split
  · rfl
  · split
    · rfl
    · split <;> simp
@[simp] theorem settleStatusWrite_segs (s : State) : (settleStatusWrite s).segs = s.segs := by
  unfold settleStatusWrite; split
  · rfl
  · split
    · rfl
    · split <;> simp
@[simp] theorem settleStatusWrite_holds (s : State) : (settleStatusWrite s).holds = s.holds := by
  unfold settleStatusWrite; split
  · rfl
  · split
    · rfl
    · split <;> simp
@[simp] theorem settleStatusWrite_notices (s : State) : (settleStatusWrite s).notices = s.notices := by
  unfold settleStatusWrite; split
  · rfl
  · split
    · rfl
    · split <;> simp
@[simp] theorem settleStatusWrite_freeIndex (s : State) : (settleStatusWrite s).freeIndex = s.freeIndex := by
  unfold settleStatusWrite; split
  · rfl
  · split
    · rfl
    · split <;> simp

@[simp] theorem statusPartAnswered_localTime (s : State) (r : Response) : (statusPartAnswered s r).localTime = s.localTime := by
  unfold statusPartAnswered; split <;> simp
@[simp] theorem statusPartAnswered_pending (s : State) (r : Response) : (statusPartAnswered s r).pending = s.pending := by
  unfold statusPartAnswered; split <;> simp
@[simp] theorem statusPartAnswered_path (s : State) (r : Response) : (statusPartAnswered s r).path = s.path := by
  unfold statusPartAnswered; split <;> simp
@[simp] theorem statusPartAnswered_lanes (s : State) (r : Response) : (statusPartAnswered s r).lanes = s.lanes := by
  unfold statusPartAnswered; split <;> simp
@[simp] theorem statusPartAnswered_stations (s : State) (r : Response) : (statusPartAnswered s r).stations = s.stations := by
  unfold statusPartAnswered; split <;> simp
@[simp] theorem statusPartAnswered_segs (s : State) (r : Response) : (statusPartAnswered s r).segs = s.segs := by
  unfold statusPartAnswered; split <;> simp
@[simp] theorem statusPartAnswered_holds (s : State) (r : Response) : (statusPartAnswered s r).holds = s.holds := by
  unfold statusPartAnswered; split <;> simp
@[simp] theorem statusPartAnswered_notices (s : State) (r : Response) : (statusPartAnswered s r).notices = s.notices := by
  unfold statusPartAnswered; split <;> simp
@[simp] theorem statusPartAnswered_freeIndex (s : State) (r : Response) : (statusPartAnswered s r).freeIndex = s.freeIndex := by
  unfold statusPartAnswered; split <;> simp

@[simp] theorem startSetStatusBlock_localTime (c : Cmd) (s : State) : (startSetStatusBlock c s).localTime = s.localTime := by
  unfold startSetStatusBlock; dsimp only
  repeat' split
  all_goals simp
@[simp] theorem startSetStatusBlock_pending (c : Cmd) (s : State) : (startSetStatusBlock c s).pending = s.pending := by
  unfold startSetStatusBlock; dsimp only
  repeat' split
  all_goals simp
@[simp] theorem startSetStatusBlock_lanes (c : Cmd) (s : State) : (startSetStatusBlock c s).lanes = s.lanes := by
  unfold startSetStatusBlock; dsimp only
  repeat' split
  all_goals simp
@[simp] theorem startSetStatusBlock_stations (c : Cmd) (s : State) : (startSetStatusBlock c s).stations = s.stations := by
  unfold startSetStatusBlock; dsimp only
  repeat' split
  all_goals simp
@[simp] theorem startSetStatusBlock_segs (c : Cmd) (s : State) : (startSetStatusBlock c s).segs = s.segs := by
  unfold startSetStatusBlock; dsimp only
  repeat' split
  all_goals simp
@[simp] theorem startSetStatusBlock_holds (c : Cmd) (s : State) : (startSetStatusBlock c s).holds = s.holds := by
  unfold startSetStatusBlock; dsimp only
  repeat' split
  all_goals simp
@[simp] theorem startSetStatusBlock_notices (c : Cmd) (s : State) : (startSetStatusBlock c s).notices = s.notices := by
  unfold startSetStatusBlock; dsimp only
  repeat' split
  all_goals simp

@[simp] theorem startWriteStatus_localTime (c : Cmd) (s : State) : (startWriteStatus c s).localTime = s.localTime := by
  unfold startWriteStatus; dsimp only
  repeat' split
  all_goals simp
@[simp] theorem startWriteStatus_pending (c : Cmd) (s : State) : (startWriteStatus c s).pending = s.pending := by
  unfold startWriteStatus; dsimp only
  repeat' split
  all_goals simp
@[simp] theorem startWriteStatus_path (c : Cmd) (s : State) : (startWriteStatus c s).path = s.path := by
  unfold startWriteStatus; dsimp only
  repeat' split
  all_goals simp
@[simp] theorem startWriteStatus_lanes (c : Cmd) (s : State) : (startWriteStatus c s).lanes = s.lanes := by
  unfold startWriteStatus; dsimp only
  repeat' split
  all_goals simp
@[simp] theorem startWriteStatus_stations (c : Cmd) (s : State) : (startWriteStatus c s).stations = s.stations := by
  unfold startWriteStatus; dsimp only
  repeat' split
  all_goals simp
@[simp] theorem startWriteStatus_segs (c : Cmd) (s : State) : (startWriteStatus c s).segs = s.segs := by
  unfold startWriteStatus; dsimp only
  repeat' split
  all_goals simp
@[simp] theorem startWriteStatus_holds (c : Cmd) (s : State) : (startWriteStatus c s).holds = s.holds := by
  unfold startWriteStatus; dsimp only
  repeat' split
  all_goals simp
@[simp] theorem startWriteStatus_notices (c : Cmd) (s : State) : (startWriteStatus c s).notices = s.notices := by
  unfold startWriteStatus; dsimp only
  repeat' split
  all_goals simp

@[simp] theorem abortWriteStatus_localTime (s : State) (slot : Fin 32) : (abortWriteStatus s slot).localTime = s.localTime := by
  unfold abortWriteStatus; dsimp only; split
  · simp
  · split
    · simp
    · split <;> simp
@[simp] theorem abortWriteStatus_pending (s : State) (slot : Fin 32) : (abortWriteStatus s slot).pending = s.pending := by
  unfold abortWriteStatus; dsimp only; split
  · simp
  · split
    · simp
    · split <;> simp
@[simp] theorem abortWriteStatus_path (s : State) (slot : Fin 32) : (abortWriteStatus s slot).path = s.path := by
  unfold abortWriteStatus; dsimp only; split
  · simp
  · split
    · simp
    · split <;> simp
@[simp] theorem abortWriteStatus_lanes (s : State) (slot : Fin 32) : (abortWriteStatus s slot).lanes = s.lanes := by
  unfold abortWriteStatus; dsimp only; split
  · simp
  · split
    · simp
    · split <;> simp
@[simp] theorem abortWriteStatus_stations (s : State) (slot : Fin 32) : (abortWriteStatus s slot).stations = s.stations := by
  unfold abortWriteStatus; dsimp only; split
  · simp
  · split
    · simp
    · split <;> simp
@[simp] theorem abortWriteStatus_segs (s : State) (slot : Fin 32) : (abortWriteStatus s slot).segs = s.segs := by
  unfold abortWriteStatus; dsimp only; split
  · simp
  · split
    · simp
    · split <;> simp
@[simp] theorem abortWriteStatus_holds (s : State) (slot : Fin 32) : (abortWriteStatus s slot).holds = s.holds := by
  unfold abortWriteStatus; dsimp only; split
  · simp
  · split
    · simp
    · split <;> simp
@[simp] theorem abortWriteStatus_notices (s : State) (slot : Fin 32) : (abortWriteStatus s slot).notices = s.notices := by
  unfold abortWriteStatus; dsimp only; split
  · simp
  · split
    · simp
    · split <;> simp
@[simp] theorem abortWriteStatus_freeIndex (s : State) (slot : Fin 32) : (abortWriteStatus s slot).freeIndex = s.freeIndex := by
  unfold abortWriteStatus; dsimp only; split
  · simp
  · split
    · simp
    · split <;> simp

@[simp] theorem startBadKind_localTime (c : Cmd) (s : State) : (startBadKind c s).localTime = s.localTime := by
  simp [startBadKind]
@[simp] theorem startBadKind_pending (c : Cmd) (s : State) : (startBadKind c s).pending = s.pending := by
  simp [startBadKind]
@[simp] theorem startBadKind_path (c : Cmd) (s : State) : (startBadKind c s).path = s.path := by
  simp [startBadKind]
@[simp] theorem startBadKind_lanes (c : Cmd) (s : State) : (startBadKind c s).lanes = s.lanes := by
  simp [startBadKind]
@[simp] theorem startBadKind_stations (c : Cmd) (s : State) : (startBadKind c s).stations = s.stations := by
  simp [startBadKind]
@[simp] theorem startBadKind_segs (c : Cmd) (s : State) : (startBadKind c s).segs = s.segs := by
  simp [startBadKind]
@[simp] theorem startBadKind_holds (c : Cmd) (s : State) : (startBadKind c s).holds = s.holds := by
  simp [startBadKind]
@[simp] theorem startBadKind_notices (c : Cmd) (s : State) : (startBadKind c s).notices = s.notices := by
  simp [startBadKind]
@[simp] theorem startBadKind_status (c : Cmd) (s : State) : (startBadKind c s).status = s.status := by
  simp [startBadKind]
@[simp] theorem startBadKind_freeIndex (c : Cmd) (s : State) : (startBadKind c s).freeIndex = s.freeIndex := by
  simp [startBadKind]

@[simp] theorem abortCopy_localTime (s : State) (slot : Fin 32) : (abortCopy s slot).localTime = s.localTime := by
  simp [abortCopy]
@[simp] theorem abortCopy_pending (s : State) (slot : Fin 32) : (abortCopy s slot).pending = s.pending := by
  simp [abortCopy]
@[simp] theorem abortCopy_path (s : State) (slot : Fin 32) : (abortCopy s slot).path = s.path := by
  simp [abortCopy]
@[simp] theorem abortCopy_lanes (s : State) (slot : Fin 32) : (abortCopy s slot).lanes = s.lanes := by
  simp [abortCopy]
@[simp] theorem abortCopy_stations (s : State) (slot : Fin 32) : (abortCopy s slot).stations = s.stations := by
  simp [abortCopy]
@[simp] theorem abortCopy_segs (s : State) (slot : Fin 32) : (abortCopy s slot).segs = s.segs := by
  simp [abortCopy]
@[simp] theorem abortCopy_holds (s : State) (slot : Fin 32) : (abortCopy s slot).holds = s.holds := by
  simp [abortCopy]
@[simp] theorem abortCopy_notices (s : State) (slot : Fin 32) : (abortCopy s slot).notices = s.notices := by
  simp [abortCopy]
@[simp] theorem abortCopy_status (s : State) (slot : Fin 32) : (abortCopy s slot).status = s.status := by
  simp [abortCopy]
@[simp] theorem abortCopy_freeIndex (s : State) (slot : Fin 32) : (abortCopy s slot).freeIndex = s.freeIndex := by
  simp [abortCopy]

@[simp] theorem abortTarget_localTime (s : State) (c : Cmd) : (abortTarget s c).localTime = s.localTime := by
  unfold abortTarget; split
  · simp
  · split
    · split <;> simp
    · simp
    · simp
    · rfl
  · rfl
@[simp] theorem abortTarget_pending (s : State) (c : Cmd) : (abortTarget s c).pending = s.pending := by
  unfold abortTarget; split
  · simp
  · split
    · split <;> simp
    · simp
    · simp
    · rfl
  · rfl
@[simp] theorem abortTarget_path (s : State) (c : Cmd) : (abortTarget s c).path = s.path := by
  unfold abortTarget; split
  · simp
  · split
    · split <;> simp
    · simp
    · simp
    · rfl
  · rfl
@[simp] theorem abortTarget_stations (s : State) (c : Cmd) : (abortTarget s c).stations = s.stations := by
  unfold abortTarget; split
  · simp
  · split
    · split <;> simp
    · simp
    · simp
    · rfl
  · rfl
@[simp] theorem abortTarget_segs (s : State) (c : Cmd) : (abortTarget s c).segs = s.segs := by
  unfold abortTarget; split
  · simp
  · split
    · split <;> simp
    · simp
    · simp
    · rfl
  · rfl
@[simp] theorem abortTarget_holds (s : State) (c : Cmd) : (abortTarget s c).holds = s.holds := by
  unfold abortTarget; split
  · simp
  · split
    · split <;> simp
    · simp
    · simp
    · rfl
  · rfl
@[simp] theorem abortTarget_notices (s : State) (c : Cmd) : (abortTarget s c).notices = s.notices := by
  unfold abortTarget; split
  · simp
  · split
    · split <;> simp
    · simp
    · simp
    · rfl
  · rfl
@[simp] theorem abortTarget_freeIndex (s : State) (c : Cmd) : (abortTarget s c).freeIndex = s.freeIndex := by
  unfold abortTarget; split
  · simp
  · split
    · split <;> simp
    · simp
    · simp
    · rfl
  · rfl

/-- A property that ending one target keeps, ending them all keeps. -/
theorem abortTargets_induct {P : State → Prop} (hp : ∀ s c, P s → P (abortTarget s c)) (cs : List Cmd) (s : State)
    (h : P s) : P (cs.foldl abortTarget s) := by
  induction cs generalizing s with
  | nil => exact h
  | cons c rest ih => exact ih _ (hp s c h)

@[simp] theorem abortAll_localTime (cs : List Cmd) (s : State) : (cs.foldl abortTarget s).localTime = s.localTime :=
  abortTargets_induct (P := fun t => t.localTime = s.localTime) (fun t c h => by simp [h]) cs s rfl
@[simp] theorem abortAll_pending (cs : List Cmd) (s : State) : (cs.foldl abortTarget s).pending = s.pending :=
  abortTargets_induct (P := fun t => t.pending = s.pending) (fun t c h => by simp [h]) cs s rfl
@[simp] theorem abortAll_path (cs : List Cmd) (s : State) : (cs.foldl abortTarget s).path = s.path :=
  abortTargets_induct (P := fun t => t.path = s.path) (fun t c h => by simp [h]) cs s rfl
@[simp] theorem abortAll_stations (cs : List Cmd) (s : State) : (cs.foldl abortTarget s).stations = s.stations :=
  abortTargets_induct (P := fun t => t.stations = s.stations) (fun t c h => by simp [h]) cs s rfl
@[simp] theorem abortAll_segs (cs : List Cmd) (s : State) : (cs.foldl abortTarget s).segs = s.segs :=
  abortTargets_induct (P := fun t => t.segs = s.segs) (fun t c h => by simp [h]) cs s rfl
@[simp] theorem abortAll_holds (cs : List Cmd) (s : State) : (cs.foldl abortTarget s).holds = s.holds :=
  abortTargets_induct (P := fun t => t.holds = s.holds) (fun t c h => by simp [h]) cs s rfl
@[simp] theorem abortAll_notices (cs : List Cmd) (s : State) : (cs.foldl abortTarget s).notices = s.notices :=
  abortTargets_induct (P := fun t => t.notices = s.notices) (fun t c h => by simp [h]) cs s rfl
@[simp] theorem abortAll_freeIndex (cs : List Cmd) (s : State) : (cs.foldl abortTarget s).freeIndex = s.freeIndex :=
  abortTargets_induct (P := fun t => t.freeIndex = s.freeIndex) (fun t c h => by simp [h]) cs s rfl

@[simp] theorem startAbort_localTime (c : Cmd) (s : State) : (startAbort c s).localTime = s.localTime := by
  unfold startAbort; dsimp only
  repeat' split
  all_goals simp
@[simp] theorem startAbort_pending (c : Cmd) (s : State) : (startAbort c s).pending = s.pending := by
  unfold startAbort; dsimp only
  repeat' split
  all_goals simp
@[simp] theorem startAbort_path (c : Cmd) (s : State) : (startAbort c s).path = s.path := by
  unfold startAbort; dsimp only
  repeat' split
  all_goals simp
@[simp] theorem startAbort_stations (c : Cmd) (s : State) : (startAbort c s).stations = s.stations := by
  unfold startAbort; dsimp only
  repeat' split
  all_goals simp
@[simp] theorem startAbort_segs (c : Cmd) (s : State) : (startAbort c s).segs = s.segs := by
  unfold startAbort; dsimp only
  repeat' split
  all_goals simp
@[simp] theorem startAbort_holds (c : Cmd) (s : State) : (startAbort c s).holds = s.holds := by
  unfold startAbort; dsimp only
  repeat' split
  all_goals simp
@[simp] theorem startAbort_notices (c : Cmd) (s : State) : (startAbort c s).notices = s.notices := by
  unfold startAbort; dsimp only
  repeat' split
  all_goals simp

@[simp] theorem startRestart_localTime (c : Cmd) (s : State) : (startRestart c s).localTime = s.localTime := by
  simp [startRestart]
@[simp] theorem startRestart_pending (c : Cmd) (s : State) : (startRestart c s).pending = s.pending := by
  simp [startRestart]
@[simp] theorem startRestart_path (c : Cmd) (s : State) : (startRestart c s).path = s.path := by
  simp [startRestart]
@[simp] theorem startRestart_stations (c : Cmd) (s : State) : (startRestart c s).stations = s.stations := by
  simp [startRestart]
@[simp] theorem startRestart_segs (c : Cmd) (s : State) : (startRestart c s).segs = s.segs := by
  simp [startRestart]
@[simp] theorem startRestart_holds (c : Cmd) (s : State) : (startRestart c s).holds = s.holds := by
  simp [startRestart]
@[simp] theorem startRestart_notices (c : Cmd) (s : State) : (startRestart c s).notices = s.notices := by
  simp [startRestart]
@[simp] theorem startRestart_freeIndex (c : Cmd) (s : State) : (startRestart c s).freeIndex = s.freeIndex := by
  simp [startRestart]

/-! ### Capture (R143 to R145) -/

@[simp] theorem submit_path (s : State) (slot : Fin 32) : (submit s slot).path = s.path := by
  unfold submit; split
  · rfl
  · split
    · rfl
    · dsimp only; split <;> rfl
@[simp] theorem submit_lanes (s : State) (slot : Fin 32) : (submit s slot).lanes = s.lanes := by
  unfold submit; split
  · rfl
  · split
    · rfl
    · dsimp only; split <;> rfl
@[simp] theorem submit_stations (s : State) (slot : Fin 32) : (submit s slot).stations = s.stations := by
  unfold submit; split
  · rfl
  · split
    · rfl
    · dsimp only; split <;> rfl
@[simp] theorem submit_segs (s : State) (slot : Fin 32) : (submit s slot).segs = s.segs := by
  unfold submit; split
  · rfl
  · split
    · rfl
    · dsimp only; split <;> rfl
@[simp] theorem submit_holds (s : State) (slot : Fin 32) : (submit s slot).holds = s.holds := by
  unfold submit; split
  · rfl
  · split
    · rfl
    · dsimp only; split <;> rfl
@[simp] theorem submit_notices (s : State) (slot : Fin 32) : (submit s slot).notices = s.notices := by
  unfold submit; split
  · rfl
  · split
    · rfl
    · dsimp only; split <;> rfl
@[simp] theorem submit_status (s : State) (slot : Fin 32) : (submit s slot).status = s.status := by
  unfold submit; split
  · rfl
  · split
    · rfl
    · dsimp only; split <;> rfl
@[simp] theorem submit_localTime (s : State) (slot : Fin 32) : (submit s slot).localTime = s.localTime := by
  unfold submit; split
  · rfl
  · split
    · rfl
    · dsimp only; split <;> rfl
@[simp] theorem submit_freeIndex (s : State) (slot : Fin 32) : (submit s slot).freeIndex = s.freeIndex := by
  unfold submit; split
  · rfl
  · split
    · rfl
    · dsimp only; split <;> rfl
@[simp] theorem submit_pending (s : State) (slot : Fin 32) : (submit s slot).pending = s.pending := by
  unfold submit; split
  · rfl
  · split
    · rfl
    · dsimp only; split <;> rfl

/-- A property that a submission keeps, the submissions of a write keep. -/
theorem submits_induct {P : State → Prop} (hp : ∀ s slot, P s → P (submit s slot)) (l : List (Fin 32)) (s : State)
    (h : P s) : P (l.foldl submit s) := by
  induction l generalizing s with
  | nil => exact h
  | cons c rest ih => exact ih _ (hp s c h)

@[simp] theorem captureWrite_path (s : State) (bs : List (Nat × Beat)) : (captureWrite s bs).path = s.path :=
  submits_induct (P := fun t => t.path = s.path) (fun t c h => by simp [h]) _ _ rfl
@[simp] theorem captureWrite_lanes (s : State) (bs : List (Nat × Beat)) : (captureWrite s bs).lanes = s.lanes :=
  submits_induct (P := fun t => t.lanes = s.lanes) (fun t c h => by simp [h]) _ _ rfl
@[simp] theorem captureWrite_stations (s : State) (bs : List (Nat × Beat)) : (captureWrite s bs).stations = s.stations :=
  submits_induct (P := fun t => t.stations = s.stations) (fun t c h => by simp [h]) _ _ rfl
@[simp] theorem captureWrite_segs (s : State) (bs : List (Nat × Beat)) : (captureWrite s bs).segs = s.segs :=
  submits_induct (P := fun t => t.segs = s.segs) (fun t c h => by simp [h]) _ _ rfl
@[simp] theorem captureWrite_holds (s : State) (bs : List (Nat × Beat)) : (captureWrite s bs).holds = s.holds :=
  submits_induct (P := fun t => t.holds = s.holds) (fun t c h => by simp [h]) _ _ rfl
@[simp] theorem captureWrite_notices (s : State) (bs : List (Nat × Beat)) : (captureWrite s bs).notices = s.notices :=
  submits_induct (P := fun t => t.notices = s.notices) (fun t c h => by simp [h]) _ _ rfl
@[simp] theorem captureWrite_status (s : State) (bs : List (Nat × Beat)) : (captureWrite s bs).status = s.status :=
  submits_induct (P := fun t => t.status = s.status) (fun t c h => by simp [h]) _ _ rfl
@[simp] theorem captureWrite_localTime (s : State) (bs : List (Nat × Beat)) : (captureWrite s bs).localTime = s.localTime :=
  submits_induct (P := fun t => t.localTime = s.localTime) (fun t c h => by simp [h]) _ _ rfl
@[simp] theorem captureWrite_freeIndex (s : State) (bs : List (Nat × Beat)) : (captureWrite s bs).freeIndex = s.freeIndex :=
  submits_induct (P := fun t => t.freeIndex = s.freeIndex) (fun t c h => by simp [h]) _ _ rfl
@[simp] theorem captureWrite_pending (s : State) (bs : List (Nat × Beat)) : (captureWrite s bs).pending = s.pending :=
  submits_induct (P := fun t => t.pending = s.pending) (fun t c h => by simp [h]) _ _ rfl

/-! ### The memory path (chapter 7) -/

@[simp] theorem reportRead_path (s : State) (o : List Nat) (n : Nat) : (reportRead s o n).path = s.path := by
  unfold reportRead; split <;> rfl
@[simp] theorem reportRead_lanes (s : State) (o : List Nat) (n : Nat) : (reportRead s o n).lanes = s.lanes := by
  unfold reportRead; split <;> rfl
@[simp] theorem reportRead_stations (s : State) (o : List Nat) (n : Nat) : (reportRead s o n).stations = s.stations := by
  unfold reportRead; split <;> rfl
@[simp] theorem reportRead_segs (s : State) (o : List Nat) (n : Nat) : (reportRead s o n).segs = s.segs := by
  unfold reportRead; split <;> rfl
@[simp] theorem reportRead_holds (s : State) (o : List Nat) (n : Nat) : (reportRead s o n).holds = s.holds := by
  unfold reportRead; split <;> rfl
@[simp] theorem reportRead_cmd (s : State) (o : List Nat) (n : Nat) : (reportRead s o n).cmd = s.cmd := by
  unfold reportRead; split <;> rfl
@[simp] theorem reportRead_status (s : State) (o : List Nat) (n : Nat) : (reportRead s o n).status = s.status := by
  unfold reportRead; split <;> rfl
@[simp] theorem reportRead_localTime (s : State) (o : List Nat) (n : Nat) : (reportRead s o n).localTime = s.localTime := by
  unfold reportRead; split <;> rfl
@[simp] theorem reportRead_freeIndex (s : State) (o : List Nat) (n : Nat) : (reportRead s o n).freeIndex = s.freeIndex := by
  unfold reportRead; split <;> rfl
@[simp] theorem reportRead_pending (s : State) (o : List Nat) (n : Nat) : (reportRead s o n).pending = s.pending := by
  unfold reportRead; split <;> rfl

@[simp] theorem returnResponse_lanes (s : State) (a : Accepted) (x : Answer) (l : List Nat) : (returnResponse s a x l).lanes = s.lanes := by
  unfold returnResponse; dsimp only; split <;> simp
@[simp] theorem returnResponse_stations (s : State) (a : Accepted) (x : Answer) (l : List Nat) : (returnResponse s a x l).stations = s.stations := by
  unfold returnResponse; dsimp only; split <;> simp
@[simp] theorem returnResponse_segs (s : State) (a : Accepted) (x : Answer) (l : List Nat) : (returnResponse s a x l).segs = s.segs := by
  unfold returnResponse; dsimp only; split <;> simp
@[simp] theorem returnResponse_holds (s : State) (a : Accepted) (x : Answer) (l : List Nat) : (returnResponse s a x l).holds = s.holds := by
  unfold returnResponse; dsimp only; split <;> simp
@[simp] theorem returnResponse_cmd (s : State) (a : Accepted) (x : Answer) (l : List Nat) : (returnResponse s a x l).cmd = s.cmd := by
  unfold returnResponse; dsimp only; split <;> simp
@[simp] theorem returnResponse_status (s : State) (a : Accepted) (x : Answer) (l : List Nat) : (returnResponse s a x l).status = s.status := by
  unfold returnResponse; dsimp only; split <;> simp
@[simp] theorem returnResponse_localTime (s : State) (a : Accepted) (x : Answer) (l : List Nat) : (returnResponse s a x l).localTime = s.localTime := by
  unfold returnResponse; dsimp only; split <;> simp
@[simp] theorem returnResponse_freeIndex (s : State) (a : Accepted) (x : Answer) (l : List Nat) : (returnResponse s a x l).freeIndex = s.freeIndex := by
  unfold returnResponse; dsimp only; split <;> simp
@[simp] theorem returnResponse_pending (s : State) (a : Accepted) (x : Answer) (l : List Nat) : (returnResponse s a x l).pending = s.pending := by
  unfold returnResponse; dsimp only; split <;> simp

/-- A property that the return of a response keeps, the delivery of a master's responses keeps. -/
theorem deliver_induct {P : State → Prop} (m : Fin 16)
    (hp : ∀ s a x l, oldestOf s m = some a → a.phase = .answered x l → P s → P (returnResponse s a x l)) (n : Nat)
    (s : State) (h : P s) : P (deliver n s m) := by
  induction n generalizing s with
  | zero => exact h
  | succ n ih =>
    unfold deliver; split
    · exact h
    · next a ha => split
                   · next x l hx => exact ih _ (hp s a x l ha hx h)
                   · exact h
                   · exact h
                   · exact h

@[simp] theorem deliverAll_lanes (s : State) (m : Fin 16) : (deliverAll s m).lanes = s.lanes :=
  deliver_induct (P := fun t => t.lanes = s.lanes) m (fun t a x l _ _ h => by simp [h]) _ s rfl
@[simp] theorem deliverAll_stations (s : State) (m : Fin 16) : (deliverAll s m).stations = s.stations :=
  deliver_induct (P := fun t => t.stations = s.stations) m (fun t a x l _ _ h => by simp [h]) _ s rfl
@[simp] theorem deliverAll_segs (s : State) (m : Fin 16) : (deliverAll s m).segs = s.segs :=
  deliver_induct (P := fun t => t.segs = s.segs) m (fun t a x l _ _ h => by simp [h]) _ s rfl
@[simp] theorem deliverAll_holds (s : State) (m : Fin 16) : (deliverAll s m).holds = s.holds :=
  deliver_induct (P := fun t => t.holds = s.holds) m (fun t a x l _ _ h => by simp [h]) _ s rfl
@[simp] theorem deliverAll_cmd (s : State) (m : Fin 16) : (deliverAll s m).cmd = s.cmd :=
  deliver_induct (P := fun t => t.cmd = s.cmd) m (fun t a x l _ _ h => by simp [h]) _ s rfl
@[simp] theorem deliverAll_status (s : State) (m : Fin 16) : (deliverAll s m).status = s.status :=
  deliver_induct (P := fun t => t.status = s.status) m (fun t a x l _ _ h => by simp [h]) _ s rfl
@[simp] theorem deliverAll_localTime (s : State) (m : Fin 16) : (deliverAll s m).localTime = s.localTime :=
  deliver_induct (P := fun t => t.localTime = s.localTime) m (fun t a x l _ _ h => by simp [h]) _ s rfl
@[simp] theorem deliverAll_freeIndex (s : State) (m : Fin 16) : (deliverAll s m).freeIndex = s.freeIndex :=
  deliver_induct (P := fun t => t.freeIndex = s.freeIndex) m (fun t a x l _ _ h => by simp [h]) _ s rfl
@[simp] theorem deliverAll_pending (s : State) (m : Fin 16) : (deliverAll s m).pending = s.pending :=
  deliver_induct (P := fun t => t.pending = s.pending) m (fun t a x l _ _ h => by simp [h]) _ s rfl

@[simp] theorem acceptTransfer_lanes (s : State) (a : Arrived) : (acceptTransfer s a).lanes = s.lanes := by
  simp [acceptTransfer]
@[simp] theorem acceptTransfer_stations (s : State) (a : Arrived) : (acceptTransfer s a).stations = s.stations := by
  simp [acceptTransfer]
@[simp] theorem acceptTransfer_segs (s : State) (a : Arrived) : (acceptTransfer s a).segs = s.segs := by
  simp [acceptTransfer]
@[simp] theorem acceptTransfer_holds (s : State) (a : Arrived) : (acceptTransfer s a).holds = s.holds := by
  simp [acceptTransfer]
@[simp] theorem acceptTransfer_cmd (s : State) (a : Arrived) : (acceptTransfer s a).cmd = s.cmd := by
  simp [acceptTransfer]
@[simp] theorem acceptTransfer_status (s : State) (a : Arrived) : (acceptTransfer s a).status = s.status := by
  simp [acceptTransfer]
@[simp] theorem acceptTransfer_localTime (s : State) (a : Arrived) : (acceptTransfer s a).localTime = s.localTime := by
  simp [acceptTransfer]
@[simp] theorem acceptTransfer_freeIndex (s : State) (a : Arrived) : (acceptTransfer s a).freeIndex = s.freeIndex := by
  simp [acceptTransfer]
@[simp] theorem acceptTransfer_pending (s : State) (a : Arrived) : (acceptTransfer s a).pending = s.pending := by
  simp [acceptTransfer]

@[simp] theorem laneWrite_localTime (s : State) (i : Fin 16) (m : Mapping) (t : Transfer) : (laneWrite s i m t).1.localTime = s.localTime := by
  unfold laneWrite; dsimp only; split <;> simp
@[simp] theorem laneWrite_freeIndex (s : State) (i : Fin 16) (m : Mapping) (t : Transfer) : (laneWrite s i m t).1.freeIndex = s.freeIndex := by
  unfold laneWrite; dsimp only; split <;> simp
@[simp] theorem laneWrite_pending (s : State) (i : Fin 16) (m : Mapping) (t : Transfer) : (laneWrite s i m t).1.pending = s.pending := by
  unfold laneWrite; dsimp only; split <;> simp
@[simp] theorem laneWrite_path (s : State) (i : Fin 16) (m : Mapping) (t : Transfer) : (laneWrite s i m t).1.path = s.path := by
  unfold laneWrite; dsimp only; split <;> simp
@[simp] theorem laneWrite_status (s : State) (i : Fin 16) (m : Mapping) (t : Transfer) : (laneWrite s i m t).1.status = s.status := by
  unfold laneWrite; dsimp only; split <;> simp

@[simp] theorem writeEffects_localTime (s : State) (t : Transfer) : (writeEffects s t).1.localTime = s.localTime := by
  unfold writeEffects; split
  · simp
  · split <;> simp
@[simp] theorem writeEffects_freeIndex (s : State) (t : Transfer) : (writeEffects s t).1.freeIndex = s.freeIndex := by
  unfold writeEffects; split
  · simp
  · split <;> simp
@[simp] theorem writeEffects_pending (s : State) (t : Transfer) : (writeEffects s t).1.pending = s.pending := by
  unfold writeEffects; split
  · simp
  · split <;> simp
@[simp] theorem writeEffects_path (s : State) (t : Transfer) : (writeEffects s t).1.path = s.path := by
  unfold writeEffects; split
  · simp
  · split <;> simp
@[simp] theorem writeEffects_status (s : State) (t : Transfer) : (writeEffects s t).1.status = s.status := by
  unfold writeEffects; split
  · simp
  · split <;> simp

@[simp] theorem issueForwarded_localTime (s : State) (a : Accepted) : (issueForwarded s a).localTime = s.localTime := by
  unfold issueForwarded; dsimp only; split <;> simp
@[simp] theorem issueForwarded_freeIndex (s : State) (a : Accepted) : (issueForwarded s a).freeIndex = s.freeIndex := by
  unfold issueForwarded; dsimp only; split <;> simp
@[simp] theorem issueForwarded_pending (s : State) (a : Accepted) : (issueForwarded s a).pending = s.pending := by
  unfold issueForwarded; dsimp only; split <;> simp
@[simp] theorem issueForwarded_status (s : State) (a : Accepted) : (issueForwarded s a).status = s.status := by
  unfold issueForwarded; dsimp only; split <;> simp

@[simp] theorem issueOwn_lanes (s : State) (w : OwnWrite) : (issueOwn s w).lanes = s.lanes := by
  rfl
@[simp] theorem issueOwn_stations (s : State) (w : OwnWrite) : (issueOwn s w).stations = s.stations := by
  rfl
@[simp] theorem issueOwn_segs (s : State) (w : OwnWrite) : (issueOwn s w).segs = s.segs := by
  rfl
@[simp] theorem issueOwn_holds (s : State) (w : OwnWrite) : (issueOwn s w).holds = s.holds := by
  rfl
@[simp] theorem issueOwn_cmd (s : State) (w : OwnWrite) : (issueOwn s w).cmd = s.cmd := by
  rfl
@[simp] theorem issueOwn_notices (s : State) (w : OwnWrite) : (issueOwn s w).notices = s.notices := by
  rfl
@[simp] theorem issueOwn_status (s : State) (w : OwnWrite) : (issueOwn s w).status = s.status := by
  rfl
@[simp] theorem issueOwn_localTime (s : State) (w : OwnWrite) : (issueOwn s w).localTime = s.localTime := by
  rfl
@[simp] theorem issueOwn_freeIndex (s : State) (w : OwnWrite) : (issueOwn s w).freeIndex = s.freeIndex := by
  rfl
@[simp] theorem issueOwn_pending (s : State) (w : OwnWrite) : (issueOwn s w).pending = s.pending := by
  rfl

@[simp] theorem copyAnswered_path (s : State) (slot : Fin 32) (r : Response) : (copyAnswered s slot r).path = s.path := by
  unfold copyAnswered; dsimp only; split
  · split
    · split <;> simp
    · simp
  · split
    · split <;> simp
    · simp
@[simp] theorem copyAnswered_lanes (s : State) (slot : Fin 32) (r : Response) : (copyAnswered s slot r).lanes = s.lanes := by
  unfold copyAnswered; dsimp only; split
  · split
    · split <;> simp
    · simp
  · split
    · split <;> simp
    · simp
@[simp] theorem copyAnswered_stations (s : State) (slot : Fin 32) (r : Response) : (copyAnswered s slot r).stations = s.stations := by
  unfold copyAnswered; dsimp only; split
  · split
    · split <;> simp
    · simp
  · split
    · split <;> simp
    · simp
@[simp] theorem copyAnswered_segs (s : State) (slot : Fin 32) (r : Response) : (copyAnswered s slot r).segs = s.segs := by
  unfold copyAnswered; dsimp only; split
  · split
    · split <;> simp
    · simp
  · split
    · split <;> simp
    · simp
@[simp] theorem copyAnswered_holds (s : State) (slot : Fin 32) (r : Response) : (copyAnswered s slot r).holds = s.holds := by
  unfold copyAnswered; dsimp only; split
  · split
    · split <;> simp
    · simp
  · split
    · split <;> simp
    · simp
@[simp] theorem copyAnswered_notices (s : State) (slot : Fin 32) (r : Response) : (copyAnswered s slot r).notices = s.notices := by
  unfold copyAnswered; dsimp only; split
  · split
    · split <;> simp
    · simp
  · split
    · split <;> simp
    · simp
@[simp] theorem copyAnswered_status (s : State) (slot : Fin 32) (r : Response) : (copyAnswered s slot r).status = s.status := by
  unfold copyAnswered; dsimp only; split
  · split
    · split <;> simp
    · simp
  · split
    · split <;> simp
    · simp
@[simp] theorem copyAnswered_localTime (s : State) (slot : Fin 32) (r : Response) : (copyAnswered s slot r).localTime = s.localTime := by
  unfold copyAnswered; dsimp only; split
  · split
    · split <;> simp
    · simp
  · split
    · split <;> simp
    · simp
@[simp] theorem copyAnswered_freeIndex (s : State) (slot : Fin 32) (r : Response) : (copyAnswered s slot r).freeIndex = s.freeIndex := by
  unfold copyAnswered; dsimp only; split
  · split
    · split <;> simp
    · simp
  · split
    · split <;> simp
    · simp
@[simp] theorem copyAnswered_pending (s : State) (slot : Fin 32) (r : Response) : (copyAnswered s slot r).pending = s.pending := by
  unfold copyAnswered; dsimp only; split
  · split
    · split <;> simp
    · simp
  · split
    · split <;> simp
    · simp

@[simp] theorem cutPartAnswered_path (s : State) (id : Nat) : (cutPartAnswered s id).path = s.path := rfl
@[simp] theorem cutPartAnswered_lanes (s : State) (id : Nat) : (cutPartAnswered s id).lanes = s.lanes := rfl
@[simp] theorem cutPartAnswered_stations (s : State) (id : Nat) : (cutPartAnswered s id).stations = s.stations := rfl
@[simp] theorem cutPartAnswered_segs (s : State) (id : Nat) : (cutPartAnswered s id).segs = s.segs := rfl
@[simp] theorem cutPartAnswered_holds (s : State) (id : Nat) : (cutPartAnswered s id).holds = s.holds := rfl
@[simp] theorem cutPartAnswered_cmd (s : State) (id : Nat) : (cutPartAnswered s id).cmd = s.cmd := rfl
@[simp] theorem cutPartAnswered_notices (s : State) (id : Nat) : (cutPartAnswered s id).notices = s.notices := rfl
@[simp] theorem cutPartAnswered_localTime (s : State) (id : Nat) : (cutPartAnswered s id).localTime = s.localTime := rfl
@[simp] theorem cutPartAnswered_freeIndex (s : State) (id : Nat) : (cutPartAnswered s id).freeIndex = s.freeIndex := rfl
@[simp] theorem cutPartAnswered_pending (s : State) (id : Nat) : (cutPartAnswered s id).pending = s.pending := rfl

@[simp] theorem reportOwn_path (s : State) (w : OwnWrite) (r : Response) : (reportOwn s w r).path = s.path := by
  unfold reportOwn; split
  · split <;> rfl
  · split <;> rfl
  · split <;> simp
  · simp
@[simp] theorem reportOwn_lanes (s : State) (w : OwnWrite) (r : Response) : (reportOwn s w r).lanes = s.lanes := by
  unfold reportOwn; split
  · split <;> rfl
  · split <;> rfl
  · split <;> simp
  · simp
@[simp] theorem reportOwn_stations (s : State) (w : OwnWrite) (r : Response) : (reportOwn s w r).stations = s.stations := by
  unfold reportOwn; split
  · split <;> rfl
  · split <;> rfl
  · split <;> simp
  · simp
@[simp] theorem reportOwn_segs (s : State) (w : OwnWrite) (r : Response) : (reportOwn s w r).segs = s.segs := by
  unfold reportOwn; split
  · split <;> rfl
  · split <;> rfl
  · split <;> simp
  · simp
@[simp] theorem reportOwn_holds (s : State) (w : OwnWrite) (r : Response) : (reportOwn s w r).holds = s.holds := by
  unfold reportOwn; split
  · split <;> rfl
  · split <;> rfl
  · split <;> simp
  · simp
@[simp] theorem reportOwn_localTime (s : State) (w : OwnWrite) (r : Response) : (reportOwn s w r).localTime = s.localTime := by
  unfold reportOwn; split
  · split <;> rfl
  · split <;> rfl
  · split <;> simp
  · simp
@[simp] theorem reportOwn_freeIndex (s : State) (w : OwnWrite) (r : Response) : (reportOwn s w r).freeIndex = s.freeIndex := by
  unfold reportOwn; split
  · split <;> rfl
  · split <;> rfl
  · split <;> simp
  · simp
@[simp] theorem reportOwn_pending (s : State) (w : OwnWrite) (r : Response) : (reportOwn s w r).pending = s.pending := by
  unfold reportOwn; split
  · split <;> rfl
  · split <;> rfl
  · split <;> simp
  · simp

@[simp] theorem answerOwn_lanes (s : State) (w : OwnWrite) (r : Response) : (answerOwn s w r).lanes = s.lanes := by
  simp [answerOwn]
@[simp] theorem answerOwn_stations (s : State) (w : OwnWrite) (r : Response) : (answerOwn s w r).stations = s.stations := by
  simp [answerOwn]
@[simp] theorem answerOwn_segs (s : State) (w : OwnWrite) (r : Response) : (answerOwn s w r).segs = s.segs := by
  simp [answerOwn]
@[simp] theorem answerOwn_holds (s : State) (w : OwnWrite) (r : Response) : (answerOwn s w r).holds = s.holds := by
  simp [answerOwn]
@[simp] theorem answerOwn_localTime (s : State) (w : OwnWrite) (r : Response) : (answerOwn s w r).localTime = s.localTime := by
  simp [answerOwn]
@[simp] theorem answerOwn_freeIndex (s : State) (w : OwnWrite) (r : Response) : (answerOwn s w r).freeIndex = s.freeIndex := by
  simp [answerOwn]
@[simp] theorem answerOwn_pending (s : State) (w : OwnWrite) (r : Response) : (answerOwn s w r).pending = s.pending := by
  simp [answerOwn]

end Sys2Proof.Machine
end

