-- ==== Sys2Proof/Laws/PerInstr.lean ====
section
/-! SUPPORT. Per command: which operands make its term well-formed. -/

namespace Sys2Proof.Laws.Operands

-- One theorem at a time: many at once exceed the check's memory limit.
set_option Elab.async false

/-- A command term is well-formed when its transfer has 1 to 16 beats and its answer at most 16 beats of data; a command
without either always is (07 7.1). -/
def Statement (c : Instr) : Prop :=
  WellFormed c = true ↔
    (∀ t, c = .transferArrival t → 1 ≤ t.payload.beats ∧ t.payload.beats ≤ 16)
    ∧ (∀ id a, c = .forwardedResponse id a → a.data.length ≤ 16)
    ∧ (∀ a, c = .strayResponse a → a.data.length ≤ 16)

theorem transferArrival (t : Transfer) : Statement (.transferArrival t) := by simp [Statement, WellFormed, Transfer.wf]
theorem transferAcceptance (m : Fin 16) : Statement (.transferAcceptance m) := by simp [Statement, WellFormed]
theorem forwardedIssue : Statement .forwardedIssue := by simp [Statement, WellFormed]
theorem forwardedResponse (id : Nat) (a : Answer) : Statement (.forwardedResponse id a) := by simp [Statement, WellFormed, Answer.wf]
theorem ownWriteIssue : Statement .ownWriteIssue := by simp [Statement, WellFormed]
theorem ownWriteResponse (id : Nat) (r : Response) : Statement (.ownWriteResponse id r) := by simp [Statement, WellFormed]
theorem strayResponse (a : Answer) : Statement (.strayResponse a) := by simp [Statement, WellFormed, Answer.wf]
theorem resetNAssertion : Statement .resetNAssertion := by simp [Statement, WellFormed]
theorem resetNRelease (straps : BitVec 8) : Statement (.resetNRelease straps) := by simp [Statement, WellFormed]
theorem silenceTimeout (lane : Fin 16) : Statement (.silenceTimeout lane) := by simp [Statement, WellFormed]
theorem blockAnalysisEnd (lane : Fin 16) : Statement (.blockAnalysisEnd lane) := by simp [Statement, WellFormed]
theorem testTimeout (lane : Fin 16) : Statement (.testTimeout lane) := by simp [Statement, WellFormed]
theorem quietTimeout (station : Fin 4) : Statement (.quietTimeout station) := by simp [Statement, WellFormed]
theorem noticeWriteHandOn : Statement .noticeWriteHandOn := by simp [Statement, WellFormed]
theorem statusWriteStart : Statement .statusWriteStart := by simp [Statement, WellFormed]
theorem statusPartHandOn : Statement .statusPartHandOn := by simp [Statement, WellFormed]
theorem snapshotWriteHandOn (slot : Fin 32) : Statement (.snapshotWriteHandOn slot) := by simp [Statement, WellFormed]
theorem completion : Statement .completion := by simp [Statement, WellFormed]
theorem badKind : Statement .badKind := by simp [Statement, WellFormed]
theorem mapLane : Statement .mapLane := by simp [Statement, WellFormed]
theorem unmapLane : Statement .unmapLane := by simp [Statement, WellFormed]
theorem setLaneConditioning : Statement .setLaneConditioning := by simp [Statement, WellFormed]
theorem testLane : Statement .testLane := by simp [Statement, WellFormed]
theorem setDetection : Statement .setDetection := by simp [Statement, WellFormed]
theorem setStation : Statement .setStation := by simp [Statement, WellFormed]
theorem startStation : Statement .startStation := by simp [Statement, WellFormed]
theorem stopStation : Statement .stopStation := by simp [Statement, WellFormed]
theorem setLocationLine : Statement .setLocationLine := by simp [Statement, WellFormed]
theorem setMapCriteria : Statement .setMapCriteria := by simp [Statement, WellFormed]
theorem clearCells : Statement .clearCells := by simp [Statement, WellFormed]
theorem copyMap : Statement .copyMap := by simp [Statement, WellFormed]
theorem holdSegment : Statement .holdSegment := by simp [Statement, WellFormed]
theorem releaseHold : Statement .releaseHold := by simp [Statement, WellFormed]
theorem abort : Statement .abort := by simp [Statement, WellFormed]
theorem restart : Statement .restart := by simp [Statement, WellFormed]
theorem queueDrained : Statement .queueDrained := by simp [Statement, WellFormed]
theorem setNoticeRing : Statement .setNoticeRing := by simp [Statement, WellFormed]
theorem setStatusBlock : Statement .setStatusBlock := by simp [Statement, WellFormed]
theorem writeStatus : Statement .writeStatus := by simp [Statement, WellFormed]

end Sys2Proof.Laws.Operands
end

