-- ==== Sys2Proof/Laws/Starts.lean ====
section
/-! SUPPORT. The start of a command (R147) and the decision of its outcome (R150), for a state that keeps
CommandLaw. -/

namespace Sys2Proof.Machine

open Sys2Proof.Safety

/-- In a queue without a shared slot the entry of a slot is the command found there. -/
theorem find_slot {q : List Cmd} {c : Cmd} (hn : (q.map (·.slot)).Nodup) (hc : c ∈ q) :
    q.find? (fun d => decide (d.slot = c.slot)) = some c := by
  induction q with
  | nil => simp at hc
  | cons d rest ih =>
    rw [List.map_cons, List.nodup_cons] at hn
    rcases List.mem_cons.mp hc with rfl | hc
    · simp
    · have hne : d.slot ≠ c.slot := fun h => hn.1 (h ▸ List.mem_map_of_mem hc)
      simpa [List.find?_cons, hne] using ih hn.2 hc

/-- R146: a command of the queue is the one in its slot. -/
theorem cmdAt_of_mem {s : State} {c : Cmd} (hl : CommandLaw s) (hc : c ∈ s.cmd.queue) : s.cmdAt c.slot = some c :=
  find_slot hl.1 hc

/-- R112: a QUEUED command has no Copy Map under way. -/
theorem no_copy_of_queued {s : State} {c : Cmd} (hl : CommandLaw s) (hc : c ∈ s.cmd.queue) (hq : c.state = .queued) :
    ∀ r ∈ s.cmd.copies, r.slot ≠ c.slot := by
  intro r hr he
  obtain ⟨d, hd, hs, hst⟩ := hl.2.2.2 r hr
  have h1 := cmdAt_of_mem hl hc
  have h2 := cmdAt_of_mem hl hd
  rw [hs, he] at h2
  rw [h1] at h2
  cases h2
  exact hst hq

/-- R150: deciding the outcome of a command of the queue that has no Copy Map, whatever else has changed. -/
theorem decideCmd_ended {s u : State} {c : Cmd} (r : Result) (d : BitVec 16) (hl : CommandLaw s) (hu : u.cmd = s.cmd)
    (hc : c ∈ s.cmd.queue) (hn : ∀ x ∈ s.cmd.copies, x.slot ≠ c.slot) :
    decideCmd u c.slot r d [] = { u with cmd := ended s.cmd c r d } := by
  have h1 : u.cmdAt c.slot = some c := by unfold State.cmdAt; rw [hu]; exact cmdAt_of_mem hl hc
  rw [decideCmd_of_cmdAt u c r d h1, detailOf_eq u c.slot d (by rw [hu]; exact hn), hu]
  rfl

/-- R148: a started command that completes at once. -/
theorem complete_started {s u : State} {c : Cmd} (n : Nat) (hl : CommandLaw s) (h : nextStart s = some c)
    (hu : u.cmd = s.cmd) : complete u c.slot n = { u with cmd := ended s.cmd c .done (BitVec.ofNat 16 n) } :=
  decideCmd_ended _ _ hl hu (nextStart_some h).2.1 (no_copy_of_queued hl (nextStart_some h).2.1 (nextStart_some h).2.2)

/-- R147: a started command decided at once with a detail of its chapter. -/
theorem decide_started {s u : State} {c : Cmd} (r : Result) (d : BitVec 16) (hl : CommandLaw s)
    (h : nextStart s = some c) (hu : u.cmd = s.cmd) : decideCmd u c.slot r d [] = { u with cmd := ended s.cmd c r d } :=
  decideCmd_ended _ _ hl hu (nextStart_some h).2.1 (no_copy_of_queued hl (nextStart_some h).2.1 (nextStart_some h).2.2)

/-- R147: a started command refused, its detail the free value of log 5. -/
theorem refuse_started {s : State} {c : Cmd} (r : Result) (hl : CommandLaw s) (h : nextStart s = some c) :
    .next (commit s (completeStarted c (refuse s c.slot r))) = refused s c r := by
  unfold refuse refused
  exact congrArg (fun u => Host.Outcome.next (commit s (completeStarted c u)))
    (decide_started (u := { s with freeIndex := s.freeIndex + 1 }) r _ hl h rfl)

/-- R147: the step of a kind starts the next command when it is of that kind. -/
theorem startStep_starts {s : State} {c : Cmd} {kind : Nat → Bool} (f : Cmd → State → State) (h : nextStart s = some c)
    (hk : kind (kindCode c.bytes) = true) : startStep kind f s = .next (commit s (completeStarted c (f c s))) := by
  unfold startStep; rw [h]; simp [hk]

/-- The lane a number in range names. -/
@[simp] theorem laneOf_val (i : Fin 16) : laneOf i.val = some i := by simp [laneOf]
/-- The station a number in range names. -/
@[simp] theorem stationOf_val (k : Fin 4) : stationOf k.val = some k := by simp [stationOf]
/-- The line a number in range names. -/
@[simp] theorem lineOf_val (n : Fin 3) : lineOf n.val = some n := by simp [lineOf]
/-- No lane has a number from 16 on. -/
theorem laneOf_big {n : Nat} (h : 16 ≤ n) : laneOf n = none := by simp [laneOf]; omega
/-- No station has a number from 4 on. -/
theorem stationOf_big {n : Nat} (h : 4 ≤ n) : stationOf n = none := by simp [stationOf]; omega

/-- A lane without a mapping has no station to be running; one with a mapping asks its own. -/
theorem laneStation_stopped {s : State} {i : Fin 16} : laneStation s (s.lane i) = .stopped ↔ StationStopped s i := by
  unfold laneStation StationStopped Lane.stationOf
  cases h : (s.lane i).mapping <;> simp

end Sys2Proof.Machine
end

