-- ==== Sys2Proof/Tests/Slice0.lean ====
section
/-! SUPPORT. Tests: ill-formed terms refused, the spec's worked examples, and for every statement with hypotheses a
concrete state and operands that meet them (`witness_<statement>`). Expected values are the spec's. -/

namespace Sys2Proof.Tests

open Sys2Proof Sys2Proof.Machine Sys2Proof.Safety

-- One theorem at a time: many at once exceed the check's memory limit.
set_option Elab.async false

/-! ### Small states -/

/-- Out of reset, the command window strapped to 0x20 (11 11.1). -/
def out : State := { State.reset with path := { Path.reset with resetLow := false, cmdBase := some 0x20 } }

/-- A command record from its first bytes. -/
def record (l : List Nat) : CmdBytes := Vector.ofFn fun i => BitVec.ofNat 8 (l.getD i.val 0)

/-- A QUEUED command in slot 3. -/
def cmd (l : List Nat) : Cmd := { slot := 3, bytes := record l, state := .queued }

/-- `s` with one QUEUED command. -/
def sub (s : State) (l : List Nat) : State := { s with cmd := { s.cmd with queue := [cmd l] } }

/-- A beat of eight bytes with every strobe. -/
def beat (v : Nat) : Beat := { bytes := Vector.replicate 8 (BitVec.ofNat 8 v), strobes := Vector.replicate 8 true }

/-- A read of `n` beats. -/
def read (m : Fin 16) (a : Addr) (n : Nat) : Transfer := { master := m, addr := a, payload := .read n }

/-- A write of `n` beats. -/
def write (m : Fin 16) (a : Addr) (n : Nat) : Transfer := { master := m, addr := a, payload := .write (List.replicate n (beat 1)) }

/-- `s` with one transfer accepted. -/
def accepted (s : State) (t : Transfer) (ph : Phase) : State :=
  { s with path := { s.path with accepted := [{ id := 0, t := t, stamp := 1, phase := ph }], now := 2 } }

/-- `s` with one transfer arrived. -/
def arrived (s : State) (t : Transfer) : State :=
  { s with path := { s.path with arrived := [{ id := 0, t := t }], now := 2 } }

/-- An own write of one beat. -/
def own (p : Producer) (issued : Bool) : OwnWrite := { id := 1, producer := p, addr := 0x1000, beats := [beat 0], issued := issued }

/-- `s` with one own write queued. -/
def owning (s : State) (p : Producer) (issued : Bool) : State :=
  { s with path := { s.path with own := [own p issued], now := 2 } }

/-- The mapping of lane 1 in 11 11.1. -/
def mapping1 : Mapping := { station := 0, role := .ae 0, master := 2, base := 0x01100000, blocks := 1024, logical := 4, spares := 2 }

/-- Lane 1 as mapped, in a state. -/
def lane1 (st : LaneState) : Lane := { Lane.reset with state := st, mapping := some mapping1 }

/-- `s` with lane 1 mapped. -/
def mapped (s : State) (l : Lane) : State :=
  { s with lanes := s.lanes.set 1 l, segs := s.segs.set 1 { table := some (SegTable.mapped 4 2), held := 0, dropped := 0 } }

/-- The vibration lane of station 0 (11 11.1). -/
def lane0 (st : LaneState) : Lane :=
  { Lane.reset with state := st, mapping := some { mapping1 with role := .vibration, base := 0x01000000 } }

/-- Lane 2, AE role 1 of station 0. -/
def lane2 (st : LaneState) : Lane :=
  { Lane.reset with state := st, mapping := some { mapping1 with role := .ae 1, base := 0x01200000 } }

/-- Station 0 with its lanes 0 to 2 mapped. -/
def plant (st : LaneState) : State :=
  { out with lanes := ((out.lanes.set 0 (lane0 st)).set 1 (lane1 st)).set 2 (lane2 st) }

/-- `s` with station 0 changed. -/
def station0 (s : State) (f : Station → Station) : State := s.onStation 0 f

/-- A hit of AE role `r` at `t`. -/
def hit (r : Fin 6) (t : SampleTime) (energy peak : Nat) : Hit :=
  { lane := 1, role := r, arrival := t, peak := peak, rise := 0, duration := 1, crossings := 1, energy := energy,
    segment := 3, truncated := false, long := false, saturated := false }

/-- A cycle's record with start 0. -/
def cycleRecord (n : BitVec 32) (e : Option SampleTime) : CycleRecord :=
  { number := n, start := 0, finish := e, incomplete := false, forced := false }

/-! ### Laws of small states -/

/-- A queue of one command, without a Copy Map, keeps CommandLaw. -/
theorem law_one {s : State} (c : Cmd) (hq : s.cmd.queue = [c]) (hc : s.cmd.copies = []) : CommandLaw s := by
  refine ⟨by rw [hq]; simp, by rw [hq]; simp, by rw [hc]; simp, ?_⟩
  rw [hc]; intro r hr; cases hr

/-- PathLaw by its parts. -/
theorem path_law {s : State} (h1 : (s.path.arrived.map (·.id) ++ s.path.accepted.map (·.id)).Nodup)
    (h2 : (s.path.own.map (·.id)).Nodup) (h3 : s.path.arrived.all (fun x => decide (x.id < s.path.now)) = true)
    (h4 : s.path.accepted.all (fun a => decide (a.id < s.path.now ∧ a.stamp < s.path.now)) = true)
    (h5 : s.path.own.all (fun w => decide (w.id < s.path.now)) = true)
    (h6 : ∀ m, ((oldestOf s m).all Accepted.unanswered) = true) : PathLaw s := by
  simp only [List.all_eq_true, decide_eq_true_eq] at h3 h4 h5
  refine ⟨h1, h2, h3, h4, h5, fun m a h => ?_⟩
  have := h6 m
  rw [h] at this
  simpa using this

/-- SegmentLaw of a state with one mapped lane. -/
theorem segment_law {s : State} (j : Fin 16) (m : Mapping) (hn : (s.holds.map fun h => (h.lane, h.segment)).Nodup)
    (hm : (s.lane j).mapping = some m) (hs : MappedSegments s j m)
    (ho : ∀ i, i ≠ j → (s.lane i).mapping = none ∧ (s.seg i).table = none ∧ (s.seg i).held = 0)
    (hh : s.holds.all (fun h => decide (h.lane = j)) = true) : SegmentLaw s := by
  simp only [List.all_eq_true, decide_eq_true_eq] at hh
  refine ⟨hn, fun i => ?_⟩
  by_cases h : i = j
  · subst h; rw [hm]; exact hs
  · obtain ⟨h1, h2, h3⟩ := ho i h
    rw [h1]
    exact ⟨h2, h3, fun x hx he => h (he ▸ hh x hx)⟩

/-! ### Ill-formed terms (07 7.1) -/

theorem test_no_read_of_0 : WellFormed (.transferArrival (read 2 0 0)) = false := by decide
theorem test_no_read_of_17 : WellFormed (.transferArrival (read 2 0 17)) = false := by decide
theorem test_no_write_of_0 : WellFormed (.transferArrival (write 2 0 0)) = false := by decide
theorem test_no_write_of_17 : WellFormed (.transferArrival (write 2 0 17)) = false := by decide
theorem test_no_answer_of_17 :
    WellFormed (.forwardedResponse 0 { resp := .done, data := List.replicate 17 (Vector.replicate 8 0) }) = false := by decide
theorem test_no_stray_of_17 :
    WellFormed (.strayResponse { resp := .done, data := List.replicate 17 (Vector.replicate 8 0) }) = false := by decide
theorem test_transfer_of_16 : WellFormed (.transferArrival (write 2 0 16)) = true := by decide
theorem test_ill_formed_refused :
    exec (.transferArrival (read 2 0 17)) out = .refused .illFormedTransfer := rfl

/-! ### The spec's worked examples -/

/-- R26: means 200, 200, 200 and -37 from an estimate of 0; with R = 20 the estimate holds at 20. -/
theorem test_offset :
    trackOffset 0 4095 (List.replicate 60 200) = 12 ∧ trackOffset 12 4095 (List.replicate 60 200) = 23 ∧
    trackOffset 23 4095 (List.replicate 60 200) = 34 ∧ trackOffset 34 4095 (List.replicate 60 (-37)) = 30 ∧
    trackOffset 12 20 (List.replicate 60 200) = 20 ∧ trackOffset 20 20 (List.replicate 60 200) = 20 := by decide

/-- R31: a window of 128 whose 40 quiet levels sum to 1600 makes the noise 40; one of 20 quiet blocks leaves it. -/
theorem test_window_end :
    let w : DetectSettings := { DetectSettings.mapped with windowLength := 128 }
    let l : Lane := { Lane.reset with used := { InForce.mapped with detect := w }, winBlocks := 127, winQuiet := 39, winSum := 1560 }
    (l.addToWindow true 40).noise = 40 ∧ (l.addToWindow true 40).noiseValid = true ∧
    (Lane.addToWindow { l with winQuiet := 20, noise := 40 } false 0).noise = 40 := by decide

/-- R33: the table of thresholds. -/
theorem test_threshold :
    let d (gain off : Nat) : DetectSettings := { DetectSettings.mapped with gain := gain, thresholdOffset := off }
    thresholdFor (d 36 60) 40 true = some 240 ∧ thresholdFor (d 8 0) 0 true = some 16 ∧
    thresholdFor (d 255 4095) 30000 true = some 32767 ∧ thresholdFor (d 32 64) 13 true = some 116 ∧
    thresholdFor (d 32 64) 13 false = none := by decide

/-- R21: from seed 0x0001 the samples 0x0006 and 0x0014 are predicted, and a damaged one costs one error. -/
theorem test_generator :
    predicted 0x0001 = 0x0006 ∧ predicted 0x0006 = 0x0014 ∧
    checkSamples none [0x0001, 0x0006, 0x0016] 0 = (some 0x0014, 1) := by decide

/-- The settings of the worked hit of 02 2.6. -/
def workedBlock : BlockContext :=
  { lane := 1, role := 0, threshold := 240, deadTime := 8, rearmTime := 4, segment := 3, overload := false }

/-- A detector that is ARMED. -/
def armed : DetectRun := { state := .armed, hit := none, rearm := 0, closed := [], hitFree := true }

/-- 02 2.6: the magnitudes at block positions 10 to 29 of the worked hit, with 200 for "below 240". -/
def workedHit : DetectRun :=
  detectAll workedBlock armed 120008
    [100, 260, 900, 1500, 400, 200, 180, 300, 150, 200, 200, 200, 200, 200, 200, 200, 0, 0, 0, 0]

/-- 02 2.6: the record handed on, and the detector ARMED again after position 29. -/
theorem test_worked_hit :
    workedHit.closed = [
      { lane := 1, role := 0, arrival := 120009, peak := 1500, rise := 2, duration := 7, crossings := 2, energy := 13255,
        segment := 3, truncated := false, long := false, saturated := false }] ∧
    workedHit.state = .armed ∧ workedHit.hitFree = false := by decide +kernel

/-- R19: the horizon of lane 5 with trim +3 after the block of first sample time 60420. -/
theorem test_horizon : newHorizon none 60420 3 = some 60482 := by decide

/-- R54: codes 30, 130, 200 and 255. -/
theorem test_quiet_codes :
    quietSeconds 30 = 30 ∧ quietSeconds 130 = 400 ∧ quietSeconds 200 = 1600 ∧ quietSeconds 255 = 4900 := by decide

/-- 03 3.4: locking and following a period. -/
theorem test_period :
    let x := Station.reset.measure 20000
    let y := (x.measure 20400).measure 19900
    x.period = some 20000 ∧ (x.measure 20400).period = some 20100 ∧ y.period = some 20050 ∧
    ((y.measure 40700).rejectRun, (y.measure 40700).period) = (1, some 20050) ∧
    ((y.measure 40700).measure 20100).period = some 20062 := by decide

/-- R64: the examples of phase bins, and R65: bin 24 lies in 20 to 28. -/
theorem test_phase :
    let x : Station := { Station.reset with period := some 20000, history := [980000, 1000000] }
    phaseBin x 1007500 = 24 ∧ phaseBin x 995000 = 48 ∧ phaseBin x 1041000 = 3 ∧
    phaseBin { x with history := [1000000] } 995000 = 48 ∧ inTension 20 28 24 = true ∧ inTension 60 3 24 = false := by
  decide

/-- R77: the LINEAR increments. -/
theorem test_increment :
    linearIncrement 400 = 1310 ∧ linearIncrement 10 = 52428 ∧ linearIncrement 8 = 65535 ∧ linearIncrement 4095 = 128 := by
  decide

/-- 04 4.5: the worked examples of location. -/
theorem test_location :
    let a : Line := { form := .table, roleA := 0, roleB := 1, tmax := 400,
                      increments := #v[1200, 1200, 1400, 1400, 1400, 1400, 1200, 1200] }
    let b : Line := { form := .linear, roleA := 1, roleB := 2, tmax := 400, increments := Vector.replicate 8 1310 }
    let at_ (n : Nat) (c : Bool) : Located := { cell := some n, clamped := c }
    locateDiff a 130 = at_ 10 false ∧ locateDiff a (-400) = at_ 31 false ∧ locateDiff a (-500) = at_ 31 true ∧
    locateDiff a 400 = at_ 0 false ∧ locateDiff b (-250) = at_ 25 false := by decide

/-- R97: the tally of events 5, coherent 3, energy 40000 is active with f = 8 and inactive with f = 10. -/
theorem test_active :
    let c : Cell := { Cell.cleared with events := 5, coherent := 3, energy := 40000 }
    let k : Criteria := { Criteria.reset with minEnergy := 20000 }
    c.active k = true ∧ c.active { k with fraction := 10 } = false := by decide

/-- 05 5.6: two active cycles of a confirmed cell. -/
theorem test_surge :
    surges { Criteria.reset with surge := 3 } 50000 160000 = true ∧ updateReference 50000 160000 = 63750 ∧
    surges { Criteria.reset with surge := 3 } 63750 10000 = false ∧ updateReference 63750 10000 = 57032 := by decide

/-- R117: 0x0010_4A80 lies in logical segment 2 and goes to 0x0010_CA80 with m(2) = 6. -/
theorem test_redirect :
    let m : Mapping := { mapping1 with base := 0x00100000, blocks := 64, logical := 6, spares := 2 }
    logicalOf m 0x00104A80 = 2 ∧ redirect m 2 0x00104A80 = 0x00104A80 ∧ redirect m 6 0x00104A80 = 0x0010CA80 := by decide

/-- R168: trims 0x25, 0xC0, 0x80; and R5: the detail counts the first two as clamped. -/
theorem test_trim :
    let given (b : Nat) := (conditioningOf .track ((record [3, 0, 0, 0, 0, 0, 0, 0, 0, 0, b]).toList)).trim
    given 0x25 = 31 ∧ given 0xC0 = -31 ∧ given 0x80 = 0 := by decide

/-- 11 11.4: a ring of 16 entries, c = 3: a read of entries 3 to 6 consumes 4. -/
theorem test_consume :
    let w : NoticeWriter := { NoticeWriter.reset with p := 3, c := 3, u := 16, unconsumed := List.replicate 16 { alarm := false, overrun := false, stamp := 0 } }
    let w1 := w.consume 16 (consumedCount w 16 ((List.range 16).map fun j => 96 + 8 * j) 5)
    (w1.c, w1.u, w1.p) = (7, 12, 3) := by decide

/-- R163: an unconsumed alarm asserts ATTN; nothing does after reset. -/
theorem test_attn :
    State.reset.attn = false ∧
    ({ out with notices := { NoticeWriter.reset with unconsumed := [{ alarm := true, overrun := false, stamp := 0 }] } } : State).attn = true := by
  decide +kernel

/-- 10 10.4: the bytes of an OVERRUN notice with sequence 881 and values 3, 0, 880. -/
theorem test_notice_bytes :
    noticeBytes 881 { kind := .overrun, station := 255, lane := 255, cell := 0xFFFF, cycle := 0, time := 0, v1 := 3, v2 := 0, v3 := 880 }
      = [0x71, 3, 0, 0, 8, 1, 255, 255, 255, 255, 0, 0, 0, 0, 0, 0, 0, 0, 0, 0, 3, 0, 0, 0, 0, 0, 0, 0, 0x70, 3, 0, 0] := by
  decide

/-- 10 10.6: the status block is 1024 bytes, begins with 0x00C4 and revision 1 and repeats the generation at 1020. -/
theorem test_status_bytes :
    let b := statusBytes 0x01020304 (shown out)
    b.length = 1024 ∧ b.take 8 = [0xC4, 0, 1, 0, 4, 3, 2, 1] ∧ b.drop 1016 = [0, 0, 0, 0, 4, 3, 2, 1] := by decide +kernel

/-- 10 10.5: a cell record is 32 bytes; R113: a snapshot is 24 writes of 128 bytes. -/
theorem test_cell_bytes : (cellBytes Cell.cleared).length = 32 := by decide

/-! ### Witnesses: steps and the memory path -/

theorem witness_IdleStepPassesTime : State.reset.pending = [] ∧ out.pending = [] := ⟨rfl, rfl⟩

theorem witness_CommandsKeepQueue : exec (.strayResponse { resp := .done, data := [] }) out = .next out := rfl

theorem witness_TransferArrives :
    (1 ≤ (read 2 0 1).payload.beats ∧ (read 2 0 1).payload.beats ≤ 16) ∧
    1 ≤ (write 2 0 16).payload.beats ∧ (write 2 0 16).payload.beats ≤ 16 := by decide

/-- Master 15; an address that is no multiple of 8; a span that ends 8 bytes past a 4 KiB boundary. -/
theorem witness_RefusedTransferAnswered :
    (PathLaw (arrived out (read 15 0 1)) ∧ OutOfReset out ∧ (read 15 0 1).master = 15) ∧
    (read 2 4 1).addr.toNat % 8 ≠ 0 ∧ 4096 < (read 2 4088 2).addr.toNat % 4096 + 8 * (read 2 4088 2).payload.beats ∧
    (arrived out (read 15 0 1)).path.arrived.find? (fun y => decide (y.t.master = 15)) = some { id := 0, t := read 15 0 1 } ∧
    (∀ a ∈ (arrived out (read 15 0 1)).path.accepted, a.t.master ≠ 15) :=
  ⟨⟨path_law (by decide) (by decide) (by decide) (by decide) (by decide) (by decide), rfl, rfl⟩, by decide, by decide,
    by decide, by decide⟩

/-- A refused transfer behind an earlier one that is not answered, and a master with a held transfer. -/
theorem witness_RefusedTransferAnswered_behind :
    let a (ph : Phase) : Accepted := { id := 1, t := read 15 0x2000 1, stamp := 1, phase := ph }
    let s (ph : Phase) : State := { arrived out (read 15 0 1) with path := { (arrived out (read 15 0 1)).path with accepted := [a ph] } }
    PathLaw (s .ready) ∧ a .ready ∈ (s .ready).path.accepted ∧
    (((s .ready).path.accepted.map (·.phase)) = [.ready] ∧ ((s (.held [0])).path.accepted.map (·.phase)) = [.held [0]]) ∧
    (match exec (.transferAcceptance 15) (s .ready) with | .next t => (t.path.masterPort.length, t.path.accepted.length) | _ => (0, 0)) = (0, 2) :=
  ⟨path_law (by decide) (by decide) (by decide) (by decide) (by decide) (by decide), by decide, by decide, by decide +kernel⟩

/-- A transfer that ends at a 4 KiB boundary and shares its last beat with a queued own write. -/
theorem witness_AcceptedTransferReadyOrHeld :
    let s := arrived (owning out (.noticeWriter true) false) (read 2 0xFF8 1)
    PathLaw s ∧ OutOfReset s ∧
    s.path.arrived.find? (fun y => decide (y.t.master = 2)) = some { id := 0, t := read 2 0xFF8 1 } ∧
    (read 2 0xFF8 1).master ≠ 15 ∧ (read 2 0xFF8 1).addr.toNat % 8 = 0 ∧
    (read 2 0xFF8 1).addr.toNat % 4096 + 8 * (read 2 0xFF8 1).payload.beats ≤ 4096 ∧ s.path.accepted = [] :=
  ⟨path_law (by decide) (by decide) (by decide) (by decide) (by decide) (by decide), rfl, by decide, by decide, by decide,
    by decide, rfl⟩

/-- A read, and a write that lies in no window. -/
theorem witness_PlainTransferIssued :
    let a (t : Transfer) : Accepted := { id := 0, t := t, stamp := 1, phase := .ready }
    (OutOfReset out ∧ firstReady (accepted out (read 2 0x1000 1) .ready) = some (a (read 2 0x1000 1)) ∧
      waitingOwn (accepted out (read 2 0x1000 1) .ready) = none) ∧
    firstReady (accepted out (write 2 0x1000 1) .ready) = some (a (write 2 0x1000 1)) ∧
    laneAt out 0x1000 = none ∧ beatsIn 0x1000 (cmdWindowBase 0x20) 2048 [beat 1] = [] := by
  exact ⟨⟨rfl, by decide, by decide⟩, by decide, by decide +kernel, by decide⟩

/-- The block of lane 1 with sequence 5 and first sample time 1000; its second byte is `flags`. -/
def blockBeats (flags : Nat) : List Beat := beatsOf 16 ([0xA7, flags, 5, 0, 0xE8, 3].map (BitVec.ofNat 8))

/-- A block at the last place of logical segment 3, the last of lane 1's logical area. -/
theorem witness_LaneWriteRedirected :
    let t : Transfer := { master := 2, addr := 0x0117FF80, payload := .write (blockBeats 1) }
    let s := accepted (mapped out (lane1 .idle)) t .ready
    SegmentLaw s ∧ OutOfReset s ∧ firstReady s = some { id := 0, t := t, stamp := 1, phase := .ready } ∧
    waitingOwn s = none ∧ t.payload = .write (blockBeats 1) ∧
    laneAt s t.addr.toNat = some (1, mapping1) ∧ t.master = mapping1.master ∧
    (t.addr.toNat - mapping1.base.toNat) / (mapping1.blocks * 128) < mapping1.logical :=
  ⟨segment_law 1 mapping1 (by decide) rfl ⟨_, rfl, by decide, by decide, by decide, by decide, by decide, by decide⟩
      (by decide +kernel) (by decide), rfl, by decide, by decide, rfl, by decide +kernel, rfl, by decide⟩

/-- Blocks of each sort: good with no record, next in order and after a gap of one; repeated, out of time, of another
lane, without the sync byte, of 15 beats; and runs, queues and a test at the bounds of the clauses. -/
theorem witness_LaneWriteRedirected_clauses :
    let d (bs : List Beat) := blockData (bs.flatMap fun b => b.bytes.toList)
    let good := blockBeats 1
    let l : Lane := lane1 .live
    let b : QueuedBlock := queueEntry (d good) 3 false false
    (good.length = 16 ∧ (0x0117FF80 : Addr).toNat % 128 = 0 ∧ (good.all fun b => b.strobes.toList.all id) = true ∧
      (d good).sync = 0xA7 ∧ (d good).laneId = 1 ∧ (d good).testFlag = false ∧ (d (blockBeats 0x21)).testFlag = true) ∧
    (l.continuity = none ∧ ((d good).sequence - 4).toNat = 0 + 1 ∧ (d good).first = 940 + BitVec.ofNat 32 (60 * (0 + 1)) ∧
      ((d good).sequence - 3).toNat = 1 + 1 ∧ (d good).first = 880 + BitVec.ofNat 32 (60 * (1 + 1))) ∧
    ((d good).sequence = 5 ∧ (d good).first ≠ 941 + BitVec.ofNat 32 (60 * ((d good).sequence - 4).toNat) ∧
      (d (blockBeats 2)).laneId ≠ 1 ∧ (d (List.replicate 16 (beat 1))).sync ≠ 0xA7 ∧ (good.drop 1).length ≠ 16) ∧
    (({ l with badRun := 6 } : Lane).badRun + 1 < 8 ∧ 8 ≤ ({ l with badRun := 7 } : Lane).badRun + 1 ∧ l.queue = [] ∧
      ({ l with queue := [b, b, b] } : Lane).queue.length < 4 ∧ 4 ≤ ({ l with queue := [b, b, b, b] } : Lane).queue.length) ∧
    (({ lane1 .faulted with goodRun := 14 } : Lane).goodRun + 1 < 16 ∧ 16 ≤ ({ lane1 .faulted with goodRun := 15 } : Lane).goodRun + 1) ∧
    (lane1 .test).state = .test ∧ (2 : Nat) + 1 < 4 ∧ (1 : Nat) + 1 + 1 < 4 ∧ (4 : Nat) ≤ 3 + 1 := by decide +kernel

/-- R22, R23: in a test of 4 blocks that has counted 3, a good block after a gap of one ends it, the gap being the fourth;
after none it enters the queue, the test going on. R17, R56: the sixteenth good block in a row of a FAULTED vibration lane
takes its BLIND station to WAITING. -/
theorem test_lane_writes :
    let d := blockData (bytesOf (blockBeats 0x21))
    let r : TestRun :=
      { slot := 3, blocks := 4, limit := 0, timeoutUs := 1000000, elapsed := 0, errors := 0, counted := 3,
        generator := none, unseedDue := true, clampedFields := 0 }
    let s := mapped out { lane1 .test with test := some r }
    let u := station0 (plant .faulted) fun x => { x with state := .blind }
    let v := { u with lanes := u.lanes.set 0 { lane0 .faulted with goodRun := 15 } }
    (((goodBlock s 1 d 1 3).lane 1).state, ((goodBlock s 1 d 1 3).lane 1).lastTest.counted,
      ((goodBlock s 1 d 1 3).lane 1).lastTest.errors) = (.idle, 4, 60) ∧
    (((goodBlock s 1 d 0 3).lane 1).state, ((goodBlock s 1 d 0 3).lane 1).queue.map (·.unseed)) = (.test, [true]) ∧
    (((goodBlock v 0 d 0 3).lane 0).state, ((goodBlock v 0 d 0 3).station 0).state) = (.live, .waiting) := by decide +kernel

/-- R11, R14: a block that a full queue skips leaves the bad run standing; one with room ends it. -/
theorem test_skipped_keeps_bad_run :
    let d := blockData (bytesOf (blockBeats 1))
    let b : QueuedBlock := queueEntry d 3 false false
    let s (n : Nat) := mapped out { lane1 .live with queue := List.replicate n b, badRun := 7 }
    let after (n : Nat) := (goodBlock (s n) 1 d 0 3).lane 1
    ((after 4).badRun, (after 4).skipped, (after 4).continuity) = (7, 1, some (5, 1000)) ∧
    ((after 3).badRun, (after 3).skipped) = (0, 0) := by decide +kernel

/-- Another master in the logical area, and the lane's master at the first byte of the spare area. -/
theorem witness_ForeignWriteCounted :
    let s (t : Transfer) := accepted (mapped out (lane1 .idle)) t .ready
    let t := write 2 0x01180000 16
    let u := write 5 0x01100000 1
    (OutOfReset (s t) ∧ firstReady (s t) = some { id := 0, t := t, stamp := 1, phase := .ready } ∧ waitingOwn (s t) = none ∧
      laneAt (s t) t.addr.toNat = some (1, mapping1) ∧
      mapping1.logical ≤ (t.addr.toNat - mapping1.base.toNat) / (mapping1.blocks * 128)) ∧
    firstReady (s u) = some { id := 0, t := u, stamp := 1, phase := .ready } ∧
    laneAt (s u) u.addr.toNat = some (1, mapping1) ∧ u.master ≠ mapping1.master :=
  ⟨⟨rfl, by decide, by decide, by decide +kernel, by decide⟩, by decide, by decide +kernel, by decide⟩

/-- Lane 1 with a PENDING hold on segment 3; `free` is its free list. -/
def holding (free : List Nat) (held : List HoldEntry) : State :=
  let g : SegTable := { SegTable.mapped 4 2 with free := free }
  { mapped out (lane1 .live) with
    segs := out.segs.set 1 { table := some g, held := held.length, dropped := 0 }
    holds := { lane := 1, segment := 3, logical := 3, state := .pending, reason := .event 10, range := none } :: held }

/-- Both spares of lane 1 HELD. -/
def bothHeld : List HoldEntry :=
  [{ lane := 1, segment := 4, logical := 0, state := .held, reason := .command, range := none },
   { lane := 1, segment := 5, logical := 0, state := .held, reason := .command, range := none }]

/-- An entry into logical segment 3 with both spares free, and with both HELD (11 11.3, steps h and i). -/
theorem witness_EntryServesHold :
    let h : HoldEntry := { lane := 1, segment := 3, logical := 3, state := .pending, reason := .event 10, range := none }
    (SegmentLaw (holding [4, 5] []) ∧ ((holding [4, 5] []).lane 1).mapping = some mapping1 ∧
      ((holding [4, 5] []).seg 1).table = some (SegTable.mapped 4 2) ∧ 3 < mapping1.logical ∧
      (SegTable.mapped 4 2).position ≠ some 3 ∧ h ∈ (holding [4, 5] []).holds) ∧
    SegmentLaw (holding [] bothHeld) ∧ ((holding [] bothHeld).lane 1).mapping = some mapping1 ∧
    ((holding [] bothHeld).seg 1).table = some { SegTable.mapped 4 2 with free := [] } ∧
    h ∈ (holding [] bothHeld).holds :=
  ⟨⟨segment_law 1 mapping1 (by decide) rfl ⟨_, rfl, by decide, by decide, by decide, by decide, by decide, by decide⟩
      (by decide +kernel) (by decide), rfl, rfl, by decide, by decide, by decide⟩,
    segment_law 1 mapping1 (by decide) rfl ⟨_, rfl, by decide, by decide, by decide, by decide, by decide, by decide⟩
      (by decide +kernel) (by decide), rfl, rfl, by decide⟩

/-- A report that is no entry and an entry without a hold; a write of 15 beats at a bad run of 6, and a block that finds
another queued. -/
theorem witness_EntryServesHold_clauses :
    let g : SegTable := { SegTable.mapped 4 2 with position := some 3 }
    let b := queueEntry (blockData (bytesOf (blockBeats 1))) 3 false false
    let t (bs : List Beat) : Transfer := { master := 2, addr := 0x0117FF80, payload := .write bs }
    let s (bs : List Beat) := accepted (mapped out { lane1 .idle with badRun := 6, queue := [b] }) (t bs) .ready
    let short := (blockBeats 1).drop 1
    (g.position = some 3 ∧ (SegTable.mapped 4 2).position ≠ some 3 ∧ (SegTable.mapped 4 2).map[3]? = some 3 ∧ out.holds = []) ∧
    (firstReady (s short) = some { id := 0, t := t short, stamp := 1, phase := .ready } ∧ waitingOwn (s short) = none ∧
      laneAt (s short) 0x0117FF80 = some (1, mapping1) ∧ short.length ≠ 16 ∧ ((s short).lane 1).badRun < 7) ∧
    ((blockBeats 1).length = 16 ∧ (t (blockBeats 1)).addr.toNat % 128 = 0 ∧
      ((blockBeats 1).all fun b => b.strobes.toList.all id) = true) ∧ (blockData (bytesOf (blockBeats 1))).sync = 0xA7 ∧
    (blockData (bytesOf (blockBeats 1))).laneId = 1 ∧ ((s (blockBeats 1)).lane 1).continuity = none ∧
    ((s (blockBeats 1)).lane 1).queue ≠ [] := by decide +kernel

/-- An issued read alone, and one behind an earlier transfer of its master. -/
theorem witness_ResponseReturnedInOrder :
    let a : Accepted := { id := 0, t := read 2 0x1000 1, stamp := 1, phase := .issued [24] }
    let s := accepted out (read 2 0x1000 1) (.issued [24])
    let b : Accepted := { id := 2, t := read 2 0x2000 1, stamp := 3, phase := .issued [] }
    let u : State := { s with path := { s.path with accepted := [a, b], now := 4 } }
    (PathLaw s ∧ OutOfReset s ∧ a ∈ s.path.accepted ∧ ∀ x ∈ s.path.accepted, x.t.master = a.t.master → x = a) ∧
    PathLaw u ∧ b ∈ u.path.accepted ∧ oldestOf u b.t.master = some a ∧ a.id ≠ b.id :=
  ⟨⟨path_law (by decide) (by decide) (by decide) (by decide) (by decide) (by decide), rfl, by decide, by decide⟩,
    path_law (by decide) (by decide) (by decide) (by decide) (by decide) (by decide), by decide, by decide, by decide⟩

/-- The oldest of three transfers of a master, the second answered and the third not, among those of another. -/
theorem witness_ResponseReturnedInOrder_behind :
    let a (id : Nat) (m : Fin 16) (ph : Phase) : Accepted := { id := id, t := read m 0x2000 1, stamp := id, phase := ph }
    let ok : Answer := { resp := .done, data := [] }
    let s : State := { out with path := { out.path with
      accepted := [a 0 3 .ready, a 1 2 (.issued [24]), a 2 2 (.answered ok [56]), a 3 2 .ready], now := 4 } }
    PathLaw s ∧ a 1 2 (.issued [24]) ∈ s.path.accepted ∧
    (s.path.accepted.filter fun x => decide (x.t.master = 2)) =
      a 1 2 (.issued [24]) :: [(a 2 2 (.answered ok [56]), ok, [56])].map (·.1) ++ [a 3 2 .ready] ∧
    (a 3 2 .ready).unanswered = true ∧
    (match exec (.forwardedResponse 1 ok) s with | .next t => t.path.masterPort.map fun (x : PortReturn) => x.id | _ => []) = [1, 2] :=
  ⟨path_law (by decide) (by decide) (by decide) (by decide) (by decide) (by decide), by decide, by decide, by decide,
    by decide +kernel⟩

/-- Of three unconsumed entries from place 15 of 16 on, a read of the last two that was accepted before the third was
handed on covers the second alone, and two are consumed, an OVERRUN among them. -/
theorem witness_ResponseReturnedInOrder_clauses :
    let e (n : Nat) : Unconsumed := { alarm := true, overrun := decide (n = 3), stamp := n }
    let w : NoticeWriter := { NoticeWriter.reset with c := 15, u := 3, p := 2, overrun := true, unconsumed := [e 3, e 4, e 6] }
    consumedCount w 16 [32 * 0 + 24, 32 * 1 + 24] 6 = 2 ∧ (w.unconsumed[1]? = some (e 4) ∧ (e 4).stamp < 6 ∧ (15 + 1) % 16 = 0) ∧
    ((w.consume 16 2).c, (w.consume 16 2).u, (w.consume 16 2).overrun) = (1, 1, false) := by decide

/-- R137: of the producers that wait, a place goes to those that began to wait first, together or alone. -/
theorem test_places_in_order :
    let s (l : List (Client × Nat)) : State := { out with path := { out.path with waits := l } }
    let l := [(Client.noticeWriter, 4), (.commandUnit, 3), (.crackMap 2, 3)]
    ([.noticeWriter, .commandUnit, .crackMap 2, .statusWriter].map fun c => placeFor (s l) c) = [false, true, true, false] ∧
    ([.noticeWriter, .statusWriter].map fun c => placeFor (s []) c) = [true, true] := by decide

/-- No ready transfer, and a ready one with the starvation count at 8. -/
theorem witness_OwnWriteIssued :
    let s := owning out .commandUnit false
    let u := accepted s (read 2 0x2000 1) .ready
    (OutOfReset s ∧ waitingOwn s = some (own .commandUnit false) ∧ firstReady s = none) ∧
    waitingOwn { u with path := { u.path with starvation := 8 } } = some (own .commandUnit false) := by
  exact ⟨⟨rfl, by decide, by decide⟩, by decide⟩

theorem witness_OwnWriteAnswered :
    (PathLaw (owning out .commandUnit true) ∧ OutOfReset out ∧
      own .commandUnit true ∈ (owning out .commandUnit true).path.own ∧ (own .commandUnit true).issued = true) ∧
    PathLaw (owning out (.noticeWriter true) true) ∧
    own (.noticeWriter true) true ∈ (owning out (.noticeWriter true) true).path.own :=
  ⟨⟨path_law (by decide) (by decide) (by decide) (by decide) (by decide) (by decide), rfl, by decide, rfl⟩,
    path_law (by decide) (by decide) (by decide) (by decide) (by decide) (by decide), by decide⟩

theorem witness_StrayResponseDiscarded : ({ resp := .fault, data := [] } : Answer).data.length ≤ 16 := by decide

theorem witness_ResetPin : OutOfReset out ∧ State.reset.path.resetLow = true := ⟨rfl, rfl⟩

/-- A FREE slot; a FREE slot with the zero record's tag in the queue; an occupied slot; a Restart. -/
theorem witness_SubmissionTaken :
    (out.cmd.restart = none ∧ out.cmd.queue = [] ∧ out.cmd.completions = []) ∧
    ((sub out [1]).cmd.queue.map (·.slot) = [3] ∧ (sub out [1]).cmd.queue.map (fun c => tagOf c.bytes) = [0]) ∧
    ({ out with cmd := { out.cmd with restart := some { slot := 3, bytes := record [16], cleared := false } } } : State).cmd.restart ≠ none := by
  decide

/-- A write of the submit mark of slot 31, one of the first beat of slot 0, the whole of slot 3, and 16 beats of which
the last 8 lie beyond the window. -/
theorem witness_CommandWindowCaptured :
    let t (a : Addr) (n : Nat) := write 2 a n
    (OutOfReset out ∧ firstReady (accepted out (t 0x200007F8 1) .ready) = some { id := 0, t := t 0x200007F8 1, stamp := 1, phase := .ready } ∧
      waitingOwn (accepted out (t 0x200007F8 1) .ready) = none ∧ laneAt out 0x200007F8 = none ∧
      (0x200007F8 : Addr).toNat = cmdWindowBase 0x20 + 64 * (31 : Fin 32).val + 8 * (7 : Fin 8).val) ∧
    (0x20000000 : Addr).toNat = cmdWindowBase 0x20 + 64 * (0 : Fin 32).val + 8 * (0 : Fin 8).val ∧
    (firstReady (accepted out (t 0x200000C0 8) .ready) = some { id := 0, t := t 0x200000C0 8, stamp := 1, phase := .ready } ∧
      waitingOwn (accepted out (t 0x200000C0 8) .ready) = none ∧ laneAt out 0x200000C0 = none ∧
      (0x200000C0 : Addr).toNat % 8 = 0) ∧
    firstReady (accepted out (t 0x200007C0 16) .ready) = some { id := 0, t := t 0x200007C0 16, stamp := 1, phase := .ready } ∧
    laneAt out 0x200007C0 = none := by
  exact ⟨⟨rfl, by decide, by decide, by decide +kernel, by decide⟩, by decide,
    ⟨by decide, by decide, by decide +kernel, by decide⟩, by decide, by decide +kernel⟩

/-! ### Witnesses: lanes, stations, events, cells -/

/-- A queued block of lane 1 that carries the break mark. -/
def zeros : QueuedBlock :=
  { samples := List.replicate 60 0, first := 0, sequence := 0, overload := true, testFlag := false, segment := 0,
    breakMark := true, unseed := false }

/-- A hit of lane 1 in progress when a block of first sample time 70000 begins, at the bounds of R39. -/
def inProgress : HitInProgress :=
  { arrival := 100, peak := 16, peakTime := 100, last := 65633, crossings := 1, energy := 1, pending := 0, below := 7,
    segment := 3, overloadSeen := false }

/-- One queued block that began in IDLE, from a full window; one in SETTLING; two in LIVE with a hit in progress, which
the second's break mark cuts; an empty queue. -/
theorem witness_IdleLaneAnalysis :
    let s (st : LaneState) (q : List QueuedBlock) := mapped out { lane1 st with
      queue := q, winBlocks := 255, winQuiet := 63, hit := some inProgress, threshold := some 240, used := { InForce.mapped with state := st } }
    (OutOfReset (s .idle [zeros]) ∧ ((s .idle [zeros]).lane 1).mapping = some mapping1 ∧ mapping1.role = .ae 0 ∧
      ((s .idle [zeros]).lane 1).state = .idle ∧ ((s .idle [zeros]).lane 1).used.state = .idle ∧
      ((s .idle [zeros]).lane 1).queue = [zeros]) ∧
    (((s .settling [zeros]).lane 1).state = .settling ∧ ((s .settling [zeros]).lane 1).used.state ≠ .test) ∧
    (((s .live [zeros, zeros]).lane 1).state = .live ∧ ((s .live [zeros, zeros]).lane 1).used.state = .live ∧
      ((s .live [zeros, zeros]).lane 1).queue = zeros :: [zeros] ∧ ((s .live [zeros, zeros]).lane 1).hit = some inProgress) ∧
    ((s .idle []).lane 1).queue = [] := by
  exact ⟨⟨rfl, by decide, rfl, by decide, by decide, by decide⟩, by decide, by decide, by decide⟩

/-- Beginnings: a LIVE lane whose noise is not valid, a SETTLING one due to be LIVE, a vibration lane, a lane in TEST. -/
theorem witness_IdleLaneAnalysis_begins :
    let s (l : Lane) := mapped out { l with queue := [zeros] }
    ((((s (lane1 .live)).lane 1).state, ((s (lane1 .live)).lane 1).detect.mode, ((s (lane1 .live)).lane 1).noiseValid) =
      (.live, .auto, false) ∧ ((s (lane1 .live)).lane 1).mapping = some mapping1) ∧
    ((s { lane1 .settling with liveDue := true }).lane 1).liveDue = true ∧
    (((s (lane0 .live)).lane 1).mapping = some { mapping1 with role := .vibration, base := 0x01000000 } ∧
      ((s (lane0 .live)).lane 1).queue = zeros :: []) ∧
    ((s (lane1 .test)).lane 1).state = .test ∧
    ((beginBlock (s (lane1 .live)) 1).lane 1).state = .settling := by decide +kernel

/-- A hit that opens and closes in the block, and the hit in progress that its first sample closes. -/
theorem witness_HitRecordRanges :
    let run : DetectRun := { armed with state := .trailing, hit := some inProgress }
    (16 ≤ workedBlock.threshold ∧ armed.closed = [] ∧ armed.hit = none ∧
      (detectAll workedBlock armed 0 (240 :: List.replicate 8 0)).closed.length = 1) ∧
    (run.closed = [] ∧ 16 ≤ inProgress.peak ∧ inProgress.peak ≤ 32767 ∧ 1 ≤ inProgress.crossings ∧ inProgress.energy = 1 ∧
      0 ≤ signedDiff inProgress.peakTime inProgress.arrival ∧
      signedDiff inProgress.peakTime inProgress.arrival ≤ signedDiff inProgress.last inProgress.arrival ∧
      signedDiff inProgress.last inProgress.arrival + 1 < 65535 ∧ 1 ≤ signedDiff 70000 inProgress.last ∧
      signedDiff 70000 inProgress.last ≤ 65535) ∧
    (detectAll workedBlock run 70000 [0]).closed.map (fun x => (x.rise, x.duration)) = [(0, 65534)] := by decide

/-- One sample at the bounds of R36 to R39: the threshold and one below, dead times of 1 and 2, durations of 65534 and
65535, rearm times of 0 and 1. -/
theorem witness_HitRecordRanges_sample :
    let run (st : DetectorState) (below : Nat) : DetectRun := { armed with state := st, hit := some { inProgress with below := below } }
    (armed.state = .armed ∧ (239 : Nat) < workedBlock.threshold ∧ workedBlock.threshold ≤ 240) ∧
    ((run .opened 0).hit = some { inProgress with below := 0 } ∧ signedDiff 65633 inProgress.arrival + 1 < 65535 ∧
      65535 ≤ signedDiff 65634 inProgress.arrival + 1) ∧
    ((run .trailing 6).state = .trailing ∧ (6 : Nat) + 1 < workedBlock.deadTime ∧ workedBlock.deadTime ≤ 7 + 1) ∧
    (detectSample { workedBlock with rearmTime := 0 } (run .trailing 7) 65641 0).state = .armed ∧
    (detectSample { workedBlock with rearmTime := 1 } (run .trailing 7) 65641 0).state = .rearm ∧
    0 ≤ signedDiff inProgress.peakTime inProgress.arrival ∧ 0 ≤ signedDiff inProgress.last inProgress.arrival ∧
    (inProgress.close 1 0 true false).saturated = false ∧
    ({ inProgress with peak := 32767 }.close 1 0 true false).saturated = true := by decide +kernel

/-- Lane `i` at exactly its limit of 50 ms. -/
def silentLane (l : Lane) : Lane := { l with silenceLimit := 50, silenceTimer := some 50000 }

/-- A SETTLING AE lane of a station with nothing pooled or open; the LIVE vibration lane of a WAITING one. -/
theorem witness_SilenceFaultsLane :
    let s : State := { plant .live with lanes := ((plant .live).lanes.set 1 (silentLane (lane1 .settling))).set 0 (silentLane (lane0 .live)) }
    let u := station0 s fun x => { x with state := .waiting }
    (OutOfReset s ∧ (s.lane 1).mapping = some mapping1 ∧ (s.lane 1).state = .settling ∧ 0 < (s.lane 1).silenceLimit ∧
      (s.lane 1).silenceTimer = some 50000 ∧ (s.lane 1).silenceLimit * 1000 ≤ 50000 ∧ (s.lane 1).hit = none ∧
      (s.station 0).pool = [] ∧ (s.station 0).boundary = []) ∧
    (u.lane 0).mapping = some { mapping1 with role := .vibration, base := 0x01000000 } ∧ (u.lane 0).state = .live ∧
    (u.lane 0).silenceTimer = some 50000 ∧ (u.station 0).state = .waiting := ⟨⟨rfl, by decide⟩, by decide⟩

/-- A test that has counted its 4 blocks with none queued, at its limit of errors and beyond it. -/
theorem witness_TestTimesOut_verdict :
    let r (e : Nat) : TestRun :=
      { slot := 3, blocks := 4, limit := 60, timeoutUs := 1000000, elapsed := 0, errors := e, counted := 4,
        generator := none, unseedDue := false, clampedFields := 0 }
    let s (e : Nat) := sub (mapped out { lane1 .test with test := some (r e) }) [4]
    (CommandLaw (s 60) ∧ ((s 60).lane 1).test = some (r 60) ∧ (r 60).blocks ≤ (r 60).counted ∧ ((s 60).lane 1).queue = [] ∧
      cmd [4] ∈ (s 60).cmd.queue ∧ (s 60).cmd.copies = []) ∧
    ((testVerdict (s 60) 1).lane 1).lastTest.result = .pass ∧ ((testVerdict (s 61) 1).lane 1).lastTest.result = .fail :=
  ⟨⟨law_one _ rfl rfl, by decide, by decide, by decide, by decide, rfl⟩, by decide +kernel⟩

/-- A hit in progress; a COMPACTING station whose open record stands alone, and a TAILING one with a closed record before it;
a horizon later than the record's start, and none. -/
theorem witness_SilenceFaultsLane_clauses :
    let s := mapped out { lane1 .live with hit := some inProgress }
    let x (st : StationState) (q : List CycleRecord) := station0 (plant .live) fun x => { x with state := st, boundary := q }
    (((s.lane 1).mapping = some mapping1 ∧ (s.lane 1).hit = some inProgress) ∧ (lane1 .idle).hit = none) ∧
    (((x .compacting [cycleRecord 8 none]).station 0).boundary = [] ++ [cycleRecord 8 none] ∧
      ((x .compacting [cycleRecord 8 none]).station 0).state = .compacting) ∧
    ((x .tailing [cycleRecord 7 (some 5), cycleRecord 8 none]).station 0).boundary = [cycleRecord 7 (some 5)] ++ [cycleRecord 8 none] ∧
    (later (cycleRecord 8 none).start 100 = false ∧ (lane0 .live).horizon = none) ∧
    (x .blind []).vibrationLane 0 = some 0 := by decide +kernel

/-- R17, R55, R40: a vibration lane's fault ends the open cycle INCOMPLETE at its horizon, and the record, alone in the
queue, is evaluated at once when no AE lane is analysed; an AE lane's fault hands its hit on TRUNCATED. -/
theorem test_lane_faults :
    let s := station0 out fun x => { x with state := .compacting, boundary := [cycleRecord 8 none] }
    let u := faultLane { s with lanes := s.lanes.set 0 { lane0 .live with horizon := some 100 } } 0 .silent
    let a := mapped out { lane1 .live with hit := some inProgress }
    ((u.station 0).state, (u.station 0).boundary, u.notices.queue.map (·.kind)) = (.blind, [], [.laneFault, .vibrationLost]) ∧
    (((faultLane a 1 .silent).station 0).pool, ((faultLane a 1 .silent).station 0).outOfCycle,
      ((faultLane a 1 .silent).lane 1).hit) = ([], 1, none) := by decide +kernel

/-- A test of 4 blocks that has counted 3, at exactly its time-out; one that has counted 4 and analyses its last block;
an unseeded and a seeded generator. -/
theorem witness_TestTimesOut :
    let r (n : Nat) : TestRun :=
      { slot := 3, blocks := 4, limit := 0, timeoutUs := 1000000, elapsed := 1000000, errors := 0, counted := n,
        generator := none, unseedDue := false, clampedFields := 0 }
    let s (n : Nat) := sub (mapped out { lane1 .test with
      test := some (r n), queue := [zeros], used := { InForce.mapped with state := .test } }) [4]
    (CommandLaw (s 3) ∧ OutOfReset (s 3) ∧ ((s 3).lane 1).state = .test ∧ ((s 3).lane 1).test = some (r 3) ∧
      (r 3).counted < (r 3).blocks ∧ (r 3).timeoutUs ≤ (r 3).elapsed ∧ cmd [4] ∈ (s 3).cmd.queue ∧
      (cmd [4]).slot = (r 3).slot ∧ (s 3).cmd.copies = []) ∧
    (((s 3).lane 1).mapping = some mapping1 ∧ ((s 3).lane 1).used.state = .test ∧ ((s 3).lane 1).queue = zeros :: []) ∧
    (CommandLaw (s 4) ∧ (r 4).blocks ≤ (r 4).counted ∧ cmd [4] ∈ (s 4).cmd.queue ∧ (s 4).cmd.copies = []) ∧
    (0x8000 : BitVec 16).setWidth 15 = (0 : BitVec 15) ∧ (0x0001 : BitVec 16).setWidth 15 ≠ (0 : BitVec 15) :=
  ⟨⟨law_one _ rfl rfl, rfl, by decide, by decide, by decide, by decide, by decide, by decide, rfl⟩, by decide,
    ⟨law_one _ rfl rfl, by decide, by decide, rfl⟩, by decide⟩

/-- A station in each state whose peak the tracker judges, with the boundary queue it then has; a vibration block that
began in LIVE and one that did not; a counted crossing in and out of a cycle. -/
theorem witness_TrackerFollowsPress :
    let r (n : BitVec 32) : CycleRecord := { number := n, start := 0, finish := none, incomplete := false, forced := false }
    let at_ (st : StationState) (q : List CycleRecord) (tail : Nat) : Station :=
      { Station.reset with state := st, boundary := q, tail := tail }
    let s (st : LaneState) : State := { plant .live with
      lanes := (plant .live).lanes.set 0 { lane0 .live with queue := [zeros], used := { InForce.mapped with state := st } } }
    let x (st : StationState) (m : Option SampleTime) : Station :=
      { Station.reset with state := st, primed := true, prevSample := some (-1), measureRef := m }
    ((at_ .waiting [] 0).settings.startLevel = 4000 ∧ (at_ .pressIdle [r 0, r 0, r 0] 0).boundary.length < 4) ∧
    ((at_ .compacting [r 1] 0).settings.stopLevel = 2000 ∧ 1 < (at_ .compacting [r 1] 0).settings.tailBlocks) ∧
    ((at_ .tailing [r 1] 14).tail + 1 < (at_ .tailing [r 1] 14).settings.tailBlocks) ∧
    ((at_ .tailing [r 1, r 2] 15).settings.tailBlocks ≤ (at_ .tailing [r 1, r 2] 15).tail + 1 ∧
      (at_ .tailing [r 1, r 2] 15).boundary = [r 1] ++ [r 2]) ∧
    (OutOfReset (s .live) ∧ ((s .live).lane 0).mapping = some { mapping1 with role := .vibration, base := 0x01000000 } ∧
      ((s .live).lane 0).queue = zeros :: [] ∧ ((s .live).lane 0).used.state = .live ∧
      ((s .settling).lane 0).used.state ≠ .live ∧ ((s .settling).lane 0).used.state ≠ .test) ∧
    ((x .waiting none).primed = true ∧ (0 : Int) ≤ 0 ∧ (x .waiting none).prevSample = some (-1) ∧ (-1 : Int) < 0) ∧
    ((x .compacting none).measureRef, (x .tailing (some 5)).measureRef) = (none, some 5) := by
  exact ⟨by decide, by decide, by decide, by decide, ⟨rfl, by decide⟩, by decide, by decide⟩

/-- A start with 4 records queued; a tail of 1 block; the end of a cycle whose record stands alone in the queue. -/
theorem witness_TrackerFollowsPress_clauses :
    let r := cycleRecord 1 (some 5)
    let x (st : StationState) (q : List CycleRecord) (blocks : Nat) : Station :=
      { Station.reset with state := st, boundary := q, tail := 0, settings := { Station.reset.settings with tailBlocks := blocks } }
    ((x .waiting [r, r, r, r] 16).boundary = r :: [r, r, r] ∧ 4 ≤ (x .waiting [r, r, r, r] 16).boundary.length ∧
      (x .waiting [] 16).settings.startLevel ≤ 4000 ∧ ¬(x .waiting [] 16).settings.startLevel ≤ 3999) ∧
    ((x .compacting [cycleRecord 1 none] 1).boundary = [] ++ [cycleRecord 1 none] ∧
      (1999 : Nat) < (x .compacting [] 1).settings.stopLevel ∧ (x .compacting [] 1).settings.tailBlocks ≤ 1) ∧
    (x .tailing [cycleRecord 1 none] 1).settings.tailBlocks ≤ (x .tailing [cycleRecord 1 none] 1).tail + 1 ∧
    (x .blind [] 1).state = .blind := by decide +kernel

/-- R52, R58, R82: with 4 closed records queued a start evaluates the head FORCED, and with no AE lane analysed the forming
pass then evaluates the others, the open one staying; a tail of 1 block ends the cycle at once, and the pass evaluates it. -/
theorem test_boundary_queue :
    let r (n : BitVec 32) := cycleRecord n (some 5)
    let s := station0 out fun x => { x with state := .waiting, cycle := 4, boundary := [r 1, r 2, r 3, r 4] }
    let t := station0 out fun x => { x with
      state := .compacting, boundary := [cycleRecord 5 none], settings := { x.settings with tailBlocks := 1 } }
    ((applyPeak s 0 100 159 4000).station 0).boundary.map (fun x => (x.number, x.start)) = [(5, 100)] ∧
    (((applyPeak t 0 100 159 0).station 0).state, ((applyPeak t 0 100 159 0).station 0).boundary) = (.waiting, []) := by
  decide +kernel

/-- Quiet code 30 at exactly 30 s. -/
theorem witness_QuietTimeOut :
    let s := station0 out fun x => { x with state := .waiting, quietTimer := some 30000000 }
    OutOfReset s ∧ (s.station 0).state = .waiting ∧ 0 < quietSeconds (s.station 0).settings.quietCode ∧
    (s.station 0).quietTimer = some 30000000 ∧ quietSeconds (s.station 0).settings.quietCode * 1000000 ≤ 30000000 :=
  ⟨rfl, by decide⟩

/-- Measurements at the bounds of R62 and R63. -/
theorem witness_PeriodLocks :
    let x := Station.reset
    let y : Station := { x with period := some 20000, rejectRun := 3 }
    ((x.measure 2000).period, (x.measure 65535).period, (x.measure 1999).period, (x.measure 65536).period)
      = (some 2000, some 65535, none, none) ∧
    ((y.measure 25000).period, (y.measure 25001).period, ({ y with rejectRun := 2 } : Station).measure 25001 |>.rejectRun)
      = (some 21250, none, 3) := by decide

theorem witness_TensionWindow : (60 : Nat) ≤ 63 ∧ (3 : Nat) ≤ 63 ∧ (3 : Nat) < 60 ∧ (20 : Nat) ≤ 28 := by decide

/-- Differences in order, beyond Tmax on both sides; an enabled line with both its roles, and without one. -/
theorem witness_LocationOnLine :
    let l : Line := { form := .linear, roleA := 0, roleB := 1, tmax := 400, increments := Vector.replicate 8 1310 }
    let ms := [hit 0 1000 100 100, hit 1 1130 100 100]
    ((-400 : Int) ≤ 130 ∧ ((400 : Nat) : Int) < 401 ∧ (-401 : Int) < -((400 : Nat) : Int)) ∧
    (l.form = .linear ∧ ms.find? (fun h => decide (h.role.val = l.roleA)) = some (hit 0 1000 100 100) ∧
      ms.find? (fun h => decide (h.role.val = l.roleB)) = some (hit 1 1130 100 100)) ∧
    (∀ h ∈ [hit 0 1000 100 100], h.role.val ≠ l.roleB) ∧ Line.reset.form = .disabled := by decide

/-- 04 4.8: with cycle 57 open hit a is assigned; before its start it is not. The policies NONE and SUSPECT_UP, with the
cell of the event SUSPECT. -/
theorem witness_EventFormed :
    let r : CycleRecord := { number := 57, start := 1000000, finish := none, incomplete := false, forced := false }
    let s := station0 out fun x => { x with boundary := [r], pool := [hit 0 1007500 8000 900, hit 1 1007630 5000 700] }
    let l : Line := { form := .linear, roleA := 0, roleB := 1, tmax := 400, increments := Vector.replicate 8 1310 }
    let u := station0 s fun x => { x with
      lines := x.lines.set 0 l, settings := { x.settings with policy := .suspectUp }
      cells := x.cells.map fun c => { c with state := .suspect } }
    let ms := members (hit 0 1007500 8000 900) (u.station 0).pool (u.station 0).settings.window
    assigned (s.station 0).boundary.head? 1007500 = true ∧ (s.station 0).settings.policy = .none ∧
    assigned (s.station 0).boundary.head? 999999 = false ∧
    ((formEvent s 0 (hit 0 1007500 8000 900) false).station 0).unlocated = 1 ∧
    (members (hit 0 1007500 8000 900) (s.station 0).pool 500).length = 2 ∧
    (cellIds (u.station 0).lines ms).find? (fun id => decide (((u.station 0).cells.toList.getD id .cleared).state = .suspect))
      = some 10 ∧ cellIds (s.station 0).lines ms = [] := by decide +kernel

/-- A request for a segment with a hold, with none, of a full list and of a free segment; a head whose close check holds,
a pool whose first hit is ripe, and one whose hit is not. -/
theorem witness_EventFormed_clauses :
    let s := mapped out (lane1 .live)
    let lane (h : SampleTime) := mapped out { lane1 .live with horizon := some h }
    let closing := station0 (lane 1500) fun x => { x with boundary := [cycleRecord 7 (some 1000)] }
    let pooled (h : SampleTime) := station0 (lane h) fun x => { x with pool := [hit 0 1000 100 100] }
    ((∃ h ∈ (holding [4, 5] []).holds, h.lane = 1 ∧ h.segment = 3) ∧ s.holds = [] ∧
      (s.seg 1).table = some (SegTable.mapped 4 2) ∧ 3 ∈ (SegTable.mapped 4 2).map ∧ 4 ∉ (SegTable.mapped 4 2).map) ∧
    ((closing.station 0).boundary = [cycleRecord 7 (some 1000)] ∧ (cycleRecord 7 (some 1000)).finish = some 1000 ∧
      reached closing 0 (1000 + BitVec.ofNat 32 (closing.station 0).settings.window) = true ∧ (closing.station 0).pool = []) ∧
    (((pooled 1500).station 0).boundary = [] ∧ reached (pooled 1500) 0 (1000 + BitVec.ofNat 32 ((pooled 1500).station 0).settings.window) = true ∧
      reached (pooled 1499) 0 (1000 + BitVec.ofNat 32 ((pooled 1499).station 0).settings.window) = false) ∧
    (reached out 0 5 = true ∧ reached s 0 5 = false) ∧
    ((List.replicate 63 (hit 0 1000 100 100)).length < 64 ∧ 64 ≤ (List.replicate 64 (hit 0 1000 100 100)).length ∧
      later 1000 999 = true ∧ (0 : Fin 6) ≤ 1 ∧ later 1001 1000 = true ∧ (1 : Fin 6) < 2) := by decide +kernel

/-- Two AE lanes of which the second is behind; members of three roles with one at the window's bound; a closed cycle at
both its ends; crossings before and after a first arrival; a cell no policy covers. -/
theorem witness_EventFormed_parts :
    let s (a b : SampleTime) : State := { plant .live with
      lanes := ((plant .live).lanes.set 1 { lane1 .live with horizon := some a }).set 2 { lane2 .live with horizon := some b } }
    let pool := [hit 0 1000 1 1, hit 2 1500 1 1, hit 1 1501 1 1, hit 2 1400 1 1]
    let r : CycleRecord := { cycleRecord 1 (some 900) with start := 500 }
    let x : Station := { Station.reset with period := some 20000, history := [980000, 1000000] }
    ((((s 200 100).lane 2).horizon, later 200 100) = (some 100, true) ∧ reached (s 200 100) 0 100 = true ∧ reached (s 200 100) 0 101 = false) ∧
    (members (hit 0 1000 1 1) pool 500).map (fun h => (h.role, h.arrival)) = [(0, 1000), (2, 1500)] ∧
    (assigned (some r) 500, assigned (some r) 900, assigned (some r) 499, assigned (some r) 901, assigned none 500)
      = (true, true, false, false, false) ∧
    (x.history = [980000] ++ 1000000 :: [] ∧ later 1000000 1007500 = false ∧ (x.history.head? = some 980000 ∧ later 980000 970000 = true)) ∧
    (((plant .live).station 0).cells.toList.getD 10 .cleared).state = .clear ∧
    ((Station.reset.tally [10] { energy := 7, peak := 3, coherent := true }).located,
      (Station.reset.tally [] { energy := 7, peak := 3, coherent := true }).unlocated) = (1, 1) := by decide +kernel

/-- R68: equal arrivals stand by role. R95, R107 to R109: an evaluation that ends an interval of one cycle hands on
UNLOCATED_ACTIVITY and CYCLE_SUMMARY, zeroes the tallies and removes the head. -/
theorem test_pool_order_and_evaluation :
    let s := station0 out fun x => { x with
      boundary := [cycleRecord 7 (some 5)], located := 3, unlocated := 20, sumCounter := 1
      settings := { x.settings with summaryInterval := 1, unlocatedLimit := 20 } }
    let u := evaluate s 0 (cycleRecord 7 (some 5))
    poolInsert (hit 1 1000 5 5) [hit 0 1000 5 5, hit 2 1000 5 5] = [hit 0 1000 5 5, hit 1 1000 5 5, hit 2 1000 5 5] ∧
    u.notices.queue.map (fun n => (n.kind, n.v1)) = [(.unlocatedActivity, 20), (.cycleSummary, 3 + 65536 * 20)] ∧
    ((u.station 0).boundary, (u.station 0).located, (u.station 0).unlocated, (u.station 0).sumCounter) = ([], 0, 0, 1) := by
  decide +kernel

/-- 11 11.2: cycles 301 to 305 of cell 10, and a cell in each other state at the bounds of its counts. -/
theorem witness_CellSteps :
    let k := Criteria.reset
    let tally (c : Cell) (ev co en : Nat) : Cell := { c with events := ev, coherent := co, energy := en }
    let c301 := (Cell.judge k 301 (tally Cell.cleared 4 3 14000)).1
    let c302 := (Cell.judge k 302 (tally c301 3 3 12500)).1
    let c303 := (Cell.judge k 303 (tally c302 3 1 9000)).1
    let c304 := (Cell.judge k 304 (tally c303 5 4 21000)).1
    let c305 := Cell.judge k 305 (tally c304 6 5 26000)
    (c301.state, c302.lock, c303.unlock, c304.lock) = (.suspect, 2, 1, 3) ∧
    (c305.1.state, c305.1.lock, c305.1.reference, c305.1.lastChange) = (.confirmed, 4, some 26000, 305) ∧
    c305.2 = [{ kind := .confirmed, v1 := 6, v2 := 5, v3 := 26000 }] ∧
    (Cell.judge { k with lock := 1 } 1 (tally Cell.cleared 3 3 1)).1.state = .confirmed ∧
    (Cell.judge k 1 { tally Cell.cleared 0 0 0 with state := .suspect, unlock := 2 }).1.state = .clear ∧
    (Cell.judge k 1 { tally Cell.cleared 0 0 0 with state := .suspect, unlock := 1 }).1.state = .suspect ∧
    (Cell.judge k 1 { tally Cell.cleared 0 0 0 with state := .confirmed, unlock := 5 }).1.state = .fading ∧
    (Cell.judge k 1 { tally Cell.cleared 0 0 0 with state := .confirmed, unlock := 4 }).1.state = .confirmed ∧
    (Cell.judge k 1 { tally Cell.cleared 3 3 80 with state := .fading, reference := some 20 }).2.map (·.kind) = [.reactivated, .surge] ∧
    (Cell.judge k 1 { tally Cell.cleared 0 0 0 with state := .fading }).1.state = .fading := by decide +kernel

/-! ### Witnesses: notices, the status block, the command unit -/

/-- A notice of a kind. -/
def notice (k : NoticeKind) : Notice :=
  { kind := k, station := 0, lane := 255, cell := 0xFFFF, cycle := 0, time := 0, v1 := 0, v2 := 0, v3 := 0 }

/-- 11 11.4: 60 info and 4 alarm notices; and 64 alarms. -/
theorem witness_NoticeQueueKeepsAlarms :
    let q := List.replicate 4 (notice .surge) ++ notice .fading :: List.replicate 59 (notice .fading)
    q.length = 64 ∧ (notice .holdLost).kind.alarm = true ∧ (notice .holdTaken).kind.alarm = false ∧
    (∀ y ∈ List.replicate 4 (notice .surge), y.kind.alarm = true) ∧ (notice .fading).kind.alarm = false ∧
    (List.replicate 64 (notice .surge)).length = 64 ∧ (∀ y ∈ List.replicate 64 (notice .surge), y.kind.alarm = true) ∧
    (List.replicate 63 (notice .surge)).length < 64 := by decide +kernel

/-- A ring of 16 entries with `u` unconsumed, one notice waiting, and `d` discards. -/
def ringing (u d : Nat) : State :=
  { out with notices :=
    { NoticeWriter.reset with
      state := .writing, ring := some { base := 0x20100000, entries := 16, info := true }, p := u % 16, u := u,
      unconsumed := List.replicate u { alarm := true, overrun := false, stamp := 0 }, queue := [notice .surge], discarded := d } }

/-- With one entry left in the ring: a queued notice, and an OVERRUN first. -/
theorem witness_NoticeWritten :
    (OutOfReset (ringing 15 0) ∧ placeFor (ringing 15 0) .noticeWriter = true ∧ (ringing 15 0).cmd.restart = none ∧
      (ringing 15 0).notices.state = .writing ∧ (ringing 15 0).notices.u < 16 ∧ (ringing 15 0).notices.discarded = 0 ∧
      (ringing 15 0).notices.queue = notice .surge :: []) ∧
    placeFor (ringing 15 3) .noticeWriter = true ∧ 0 < (ringing 15 3).notices.discarded ∧
    ((ringing 15 0).notices.unconsumed.any fun e => e.alarm) = true := by
  refine ⟨⟨rfl, by decide, rfl, rfl, by decide, rfl, rfl⟩, by decide, by decide, by decide⟩

/-- A status writer with block 0x20102000 and period 100 ms. -/
def status (st : StatusState) (change : Bool) (waiting : List (Fin 32)) (w : Option StatusWrite) : StatusWriter :=
  { StatusWriter.reset with
    state := st, place := some { base := 0x20102000, period := 100 }, timer := some 100000, change := change,
    waiting := waiting, write := w }

/-- A status write with so many parts handed on and answered. -/
def statusWrite (handed answered : Nat) : StatusWrite :=
  { shown := shown State.reset, generation := 1, handed := handed, answered := answered, done := answered,
    faulted := false, cut := false, scheduled := true, served := [] }

/-- SCHEDULED at exactly 100 ms; a Write Status waiting; the last of the eight parts. -/
theorem witness_StatusWriteProgress :
    let s (w : StatusWriter) : State := { out with status := w }
    (OutOfReset out ∧ out.cmd.restart = none ∧ (s (status .idle true [] none)).status.state = .idle ∧
      (s (status .idle true [] none)).status.change = true ∧ (s (status .idle true [] none)).status.timer = some 100000 ∧
      100 * 1000 ≤ 100000) ∧
    (s (status .idle false [3] none)).status.waiting ≠ [] ∧
    placeFor (s (status .writing false [] (some (statusWrite 7 0)))) .statusWriter = true ∧ (statusWrite 7 0).handed < 8 := by
  refine ⟨⟨rfl, rfl, rfl, rfl, rfl, by decide⟩, by decide, by decide, by decide⟩

/-- The eighth part answered; a FAULT with no part outstanding; a DONE after a FAULT; the first of two parts answered;
the third of three handed on so far. -/
theorem witness_StatusPartAnswered :
    let s := owning out (.statusWriter true) true
    let w : StatusWrite := { statusWrite 2 1 with faulted := true, done := 0 }
    PathLaw s ∧ OutOfReset s ∧ own (.statusWriter true) true ∈ s.path.own ∧ (own (.statusWriter true) true).issued = true ∧
    ((statusWrite 8 7).handed = 8 ∧ (statusWrite 8 7).answered = 7 ∧ (statusWrite 8 7).faulted = false) ∧
    (statusWrite 1 0).handed = (statusWrite 1 0).answered + 1 ∧ (w.handed = w.answered + 1 ∧ w.faulted = true) ∧
    ((statusWrite 3 2).handed = (statusWrite 3 2).answered + 1 ∧ (statusWrite 3 2).handed < 8 ∧ (statusWrite 3 2).cut = false) ∧
    (statusWrite 2 0).answered + 1 < (statusWrite 2 0).handed :=
  ⟨path_law (by decide) (by decide) (by decide) (by decide) (by decide) (by decide), rfl, by decide, rfl, by decide,
    by decide, by decide, by decide, by decide⟩

/-- R166: the last DONE of a write cut at three parts. -/
theorem witness_StatusPartAnswered_cut :
    let w : StatusWrite := { statusWrite 3 2 with cut := true, scheduled := false }
    let s : State := { owning out (.statusWriter true) true with status := status .writing true [] (some w) }
    PathLaw s ∧ OutOfReset s ∧ own (.statusWriter true) true ∈ s.path.own ∧ s.status.write = some w ∧
    (w.handed = w.answered + 1 ∧ w.faulted = false ∧ w.cut = true ∧ w.served = []) :=
  ⟨path_law (by decide) (by decide) (by decide) (by decide) (by decide) (by decide), rfl, by decide, rfl, by decide⟩

/-- The answer to a part of a cut write; a served Write Status with a part of such a write on its account, and one without. -/
theorem witness_StatusPartAnswered_carried :
    let s := owning out (.statusWriter false) true
    let u (l : List (Fin 32 × Nat)) : State :=
      { s with cmd := { s.cmd with queue := [{ cmd [19] with state := .running }] }, status := { s.status with carried := l } }
    (PathLaw s ∧ OutOfReset s ∧ own (.statusWriter false) true ∈ s.path.own) ∧
    (CommandLaw (u [(3, 1)]) ∧ (u [(3, 1)]).cmd.copies = [] ∧
      ((u [(3, 1)]).status.carried.filter fun x => decide (x.1 = 3)).map (·.2) = [1]) ∧
    ((u [(4, 1)]).status.carried.filter fun x => decide (x.1 = 3)).map (·.2) = [] :=
  ⟨⟨path_law (by decide) (by decide) (by decide) (by decide) (by decide) (by decide), rfl, by decide⟩,
    ⟨law_one _ rfl rfl, rfl, by decide⟩, by decide⟩

/-- Kind codes 0 and 20, and the completion of a command. -/
theorem witness_CommandCompletes :
    let h : Completed := { slot := 3, bytes := record [7, 0, 9, 1], result := .done, detail := 0 }
    let s : State := { out with cmd := { out.cmd with completions := [h] } }
    (CommandLaw (sub out [20]) ∧ nextStart (sub out [20]) = some (cmd [20]) ∧ 19 < kindCode (record [20]) ∧
      nextStart (sub out [0]) = some (cmd [0]) ∧ kindCode (record [0]) = 0) ∧
    OutOfReset s ∧ placeFor s .commandUnit = true ∧ s.cmd.completions = h :: [] ∧ notifyOf h.bytes = true := by
  refine ⟨⟨law_one _ rfl rfl, by decide, by decide, by decide, by decide⟩, rfl, by decide, rfl, by decide⟩

/-- A started command that is FINISHING, behind another entry and alone on the completion list, with a place and without;
and one that runs on. -/
theorem witness_CommandCompletes_started :
    let h (slot : Fin 32) : Completed := { slot := slot, bytes := record [7, 0, 9, 1], result := .done, detail := 0 }
    let d (st : CmdState) : Cmd := { cmd [7, 0, 9, 1] with state := st }
    let u (st : CmdState) (l : List Completed) : State := { out with cmd := { out.cmd with queue := [d st], completions := l } }
    let full : State := { out with path := { out.path with own := List.replicate 8 (own .commandUnit false) } }
    CommandLaw (u .running []) ∧ (CommandLaw (u (.finishing .done 0 []) [h 4, h 3]) ∧ placeFor (u (.finishing .done 0 []) [h 4, h 3]) .commandUnit = true) ∧
    (4 : Fin 32) ≠ 3 ∧ placeFor full .commandUnit = false :=
  ⟨law_one _ rfl rfl, ⟨law_one _ rfl rfl, by decide⟩, by decide, by decide⟩

/-- R147, 8.9: a refused command is gone when its start is over, its trailer handed on and its slot FREE. -/
theorem test_start_completes :
    let s := sub out [20]
    let t := completeStarted (cmd [20]) (startBadKind (cmd [20]) s)
    nextStart s = some (cmd [20]) ∧ t.cmd.queue = [] ∧ t.cmd.completions = [] ∧ t.cmd.completionCount = 1 ∧ t.path.own.length = 1 ∧ occupied t 3 = false := by
  decide +kernel

/-- R150: with the own-write queue full no command starts, nor with one place that the head of the completion list is to
take, nor with one that another producer waits for; with one place and neither the command starts. -/
theorem test_start_waits_for_place :
    let s (n : Nat) (l : List Completed) (w : List (Client × Nat)) : State :=
      { out with path := { out.path with own := List.replicate n (own .commandUnit false), waits := w }
                 cmd := { out.cmd with queue := [cmd [20]], completions := l } }
    let h : Completed := { slot := 4, bytes := record [7], result := .done, detail := 0 }
    (nextStart (s 8 [] []), nextStart (s 7 [h] []), nextStart (s 7 [] [(.noticeWriter, 1)])) = (none, none, none) ∧
    nextStart (s 7 [] []) = some (cmd [20]) ∧ nextStart (s 6 [h] []) = some (cmd [20]) := by decide

/-- R15, R149, R150: a silence limit that the timer has reached faults the lane in the step in which Set Lane Conditioning
completes; with the own-write queue full neither comes about. -/
theorem test_conditioning_faults_at_completion :
    let l : Lane := { lane1 .live with silenceTimer := some 50000 }
    let s (n : Nat) : State :=
      { sub (mapped out l) [3, 0, 9, 0, 1, 0, 0, 0, 0, 0, 0, 50] with
        path := { out.path with own := List.replicate n (own .commandUnit false) } }
    let after (n : Nat) : State := match exec .setLaneConditioning (s n) with | .next t => t | _ => out
    (((after 7).lane 1).state, (after 7).cmd.completionCount, (after 7).path.own.length) = (.faulted, 1, 8) ∧
    (((after 8).lane 1).state, (after 8).cmd.completionCount, ((after 8).lane 1).silenceLimit) = (.live, 0, 0) := by
  decide +kernel

/-- The last place of the own-write queue and an outcome decided at start; and two places, an entry ahead taking one. -/
theorem witness_CommandCompletes_within :
    let h : Completed := { slot := 4, bytes := record [7], result := .done, detail := 0 }
    let s (n : Nat) (l : List Completed) : State :=
      { out with path := { out.path with own := List.replicate n (own .commandUnit false) }
                 cmd := { out.cmd with queue := [cmd [20]], completions := l } }
    let u (s : State) : State := { s with cmd := ended s.cmd (cmd [20]) .badKind 0 }
    (CommandLaw (s 7 []) ∧ nextStart (s 7 []) = some (cmd [20])) ∧ (CommandLaw (s 6 [h]) ∧ nextStart (s 6 [h]) = some (cmd [20])) ∧
    ((completeStarted (cmd [20]) (u (s 7 []))).path.own.length, (completeStarted (cmd [20]) (u (s 7 []))).cmd.completions) = (8, []) ∧
    ((completeStarted (cmd [20]) (u (s 6 [h]))).path.own.length, (completeStarted (cmd [20]) (u (s 6 [h]))).cmd.completions) = (8, []) :=
  ⟨⟨law_one _ rfl rfl, by decide⟩, ⟨law_one _ rfl rfl, by decide⟩, by decide +kernel, by decide +kernel⟩

/-- R150, R152: an Abort of two commands with one place left: one completes, the other and the Abort itself stay. -/
theorem test_abort_outlasts_places :
    let q (slot : Fin 32) (tag : Nat) (l : List Nat) : Cmd := { slot := slot, bytes := record ([l.headD 0, 0, tag, 0] ++ l.drop 1), state := .queued }
    let s : State := { out with
      path := { out.path with own := List.replicate 7 (own .commandUnit false) }
      cmd := { out.cmd with queue := [q 3 9 [15, 255, 255], q 4 8 [7], q 5 7 [7]] } }
    let t : State := match exec .abort s with | .next t => t | _ => out
    (t.path.own.length, t.cmd.completions.map (·.slot), t.cmd.queue.map (·.slot)) = (8, [5, 3], [3, 5]) ∧ nextStart t = none := by
  decide +kernel

/-! ### Witnesses: the kinds of command -/

/-- Bytes of an address, least significant first. -/
def addr4 (a : Nat) : List Nat := [a % 256, a / 256 % 256, a / 65536 % 256, a / 16777216]

/-- Map Lane 1 of 11 11.1. -/
def mapLane1 : List Nat := [1, 0, 9, 0, 1, 0, 0, 2] ++ addr4 0x01100000 ++ [0, 4, 4, 2]

theorem witness_MapLaneTakes :
    let s := sub out mapLane1
    let l := (cmd mapLane1).bytes.toList
    CommandLaw s ∧ Starts s (cmd mapLane1) 0x01 ∧
    (u8 l 4 = 1 ∧ u8 l 5 = 0 ∧ roleOf (u8 l 6) = some mapping1.role ∧ u8 l 7 = 2 ∧ u32 l 8 = mapping1.base.toNat ∧
      u32 l 8 % 4096 = 0 ∧ u16 l 12 = mapping1.blocks ∧ u8 l 14 = mapping1.logical ∧ u8 l 15 = mapping1.spares) ∧
    ((s.lane 1).state ≠ .test ∧ (s.station 0).state = .stopped ∧ (∀ i, (s.lane i).mapping = none)) ∧
    windowClash s mapping1.base.toNat mapping1.windowSize (fun w => decide (w = .lane 1)) (fun _ => false) = false :=
  ⟨law_one _ rfl rfl, ⟨by decide, by decide⟩, by decide, by decide, by decide +kernel⟩

/-- Lane 1 mapped at a STOPPED station, and an UNMAPPED lane. -/
theorem witness_UnmapLaneTakes :
    let s := sub (mapped out (lane1 .idle)) [2, 0, 9, 0, 1]
    CommandLaw s ∧ Starts s (cmd [2, 0, 9, 0, 1]) 0x02 ∧ u8 (cmd [2, 0, 9, 0, 1]).bytes.toList 4 = 1 ∧
    ((s.lane 1).state ≠ .test ∧ (s.lane 1).state ≠ .unmapped) ∧ StationStopped s 1 ∧
    ((sub out [2, 0, 9, 0, 1]).lane 1).state = .unmapped :=
  ⟨law_one _ rfl rfl, ⟨by decide, by decide⟩, by decide, by decide,
    by intro m h; cases (show mapping1 = m from Option.some.inj h); rfl, by decide⟩

theorem witness_ConditioningTakes :
    let b := [3, 0, 9, 0, 1, 0, 255, 255, 0, 128, 0xC0, 50]
    let s := sub (mapped out (lane1 .idle)) b
    CommandLaw s ∧ Starts s (cmd b) 0x03 ∧ u8 (cmd b).bytes.toList 4 = 1 ∧
    offsetModeOf (u8 (cmd b).bytes.toList 5) = some .track ∧ (s.lane 1).state ≠ .unmapped :=
  ⟨law_one _ rfl rfl, ⟨by decide, by decide⟩, by decide, by decide, by decide⟩

theorem witness_TestLaneStarts :
    let b := [4, 0, 9, 0, 1, 0, 0, 0, 0, 0, 0, 1, 0]
    let s := sub (mapped out (lane1 .idle)) b
    CommandLaw s ∧ Starts s (cmd b) 0x04 ∧ u8 (cmd b).bytes.toList 4 = 1 ∧
    ((s.lane 1).state ≠ .unmapped ∧ (s.lane 1).state ≠ .test) ∧ StationStopped s 1 :=
  ⟨law_one _ rfl rfl, ⟨by decide, by decide⟩, by decide, by decide,
    by intro m h; cases (show mapping1 = m from Option.some.inj h); rfl⟩

theorem witness_DetectionTakes :
    let b := [5, 0, 9, 0, 1, 0, 1, 7, 0, 4]
    let s := sub (mapped out (lane1 .idle)) b
    CommandLaw s ∧ Starts s (cmd b) 0x05 ∧
    (u8 (cmd b).bytes.toList 4 = 1 ∧ thresholdModeOf (u8 (cmd b).bytes.toList 5) = some .auto ∧
      sourceOf (u8 (cmd b).bytes.toList 6) = some .any ∧ u16 (cmd b).bytes.toList 8 = 1024 ∧ (s.lane 1).state ≠ .unmapped) :=
  ⟨law_one _ rfl rfl, ⟨by decide, by decide⟩, by decide⟩

/-- A start level one above the stop level. -/
theorem witness_StationSet :
    let b := [6, 0, 9, 0, 3, 2, 30, 4, 0xA1, 0x0F, 0xA0, 0x0F, 16, 0, 244, 1, 60, 3]
    let s := sub out b
    CommandLaw s ∧ Starts s (cmd b) 0x06 ∧
    (u8 (cmd b).bytes.toList 4 = 3 ∧ policyOf (u8 (cmd b).bytes.toList 5) = some .suspectUp ∧
      (s.station 3).state = .stopped ∧
      max 1 (min 32767 (u16 (cmd b).bytes.toList 10)) < max 1 (min 32767 (u16 (cmd b).bytes.toList 8))) :=
  ⟨law_one _ rfl rfl, ⟨by decide, by decide⟩, by decide⟩

theorem witness_StationStarts :
    let s := sub (plant .idle) [7, 0, 9, 0, 0]
    CommandLaw s ∧ Starts s (cmd [7, 0, 9, 0, 0]) 0x07 ∧
    (u8 (cmd [7, 0, 9, 0, 0]).bytes.toList 4 = 0 ∧ (s.station 0).state = .stopped ∧ s.vibrationLane 0 = some 0 ∧
      2 ≤ ((s.lanesOf 0).filter fun i => (s.lane i).isAE).length ∧ (∀ i ∈ s.lanesOf 0, (s.lane i).state ≠ .test)) :=
  ⟨law_one _ rfl rfl, ⟨by decide, by decide⟩, by decide +kernel⟩

/-- A STOPPED station and a WAITING one. -/
theorem witness_StationStops :
    let b := [8, 0, 9, 0, 0]
    let s := sub (station0 (plant .live) fun x => { x with state := .waiting }) b
    (CommandLaw s ∧ Starts s (cmd b) 0x08 ∧ u8 (cmd b).bytes.toList 4 = 0 ∧ (s.station 0).state ≠ .stopped) ∧
    CommandLaw (sub out b) ∧ Starts (sub out b) (cmd b) 0x08 ∧ ((sub out b).station 0).state = .stopped :=
  ⟨⟨law_one _ rfl rfl, ⟨by decide, by decide⟩, by decide, by decide⟩, law_one _ rfl rfl, ⟨by decide, by decide⟩, by decide⟩

/-- LINEAR, TABLE and DISABLED. -/
theorem witness_LocationLineSet :
    let b (form : Nat) := [9, 0, 9, 0, 0, 2, form, 0, 5, 0, 144, 1]
    (CommandLaw (sub out (b 1)) ∧ Starts (sub out (b 1)) (cmd (b 1)) 0x09 ∧ (out.station 0).state = .stopped ∧
      (u8 (cmd (b 1)).bytes.toList 4, u8 (cmd (b 1)).bytes.toList 5, u8 (cmd (b 1)).bytes.toList 6,
        u8 (cmd (b 1)).bytes.toList 7, u8 (cmd (b 1)).bytes.toList 8) = (0, 2, 1, 0, 5)) ∧
    (Starts (sub out (b 2)) (cmd (b 2)) 0x09 ∧ u8 (cmd (b 2)).bytes.toList 6 = 2) ∧
    Starts (sub out (b 0)) (cmd (b 0)) 0x09 ∧ u8 (cmd (b 0)).bytes.toList 6 = 0 :=
  ⟨⟨law_one _ rfl rfl, ⟨by decide, by decide⟩, by decide, by decide⟩, ⟨⟨by decide, by decide⟩, by decide⟩,
    ⟨by decide, by decide⟩, by decide⟩

theorem witness_MapCriteriaSet :
    let b := [10, 0, 9, 0, 3]
    CommandLaw (sub out b) ∧ Starts (sub out b) (cmd b) 0x0A ∧ u8 (cmd b).bytes.toList 4 = 3 :=
  ⟨law_one _ rfl rfl, ⟨by decide, by decide⟩, by decide⟩

/-- The last cell of the last line, and ALL of both. -/
theorem witness_CellsCleared :
    let b := [11, 0, 9, 0, 0, 2, 31]
    let c := [11, 0, 9, 0, 0, 255, 255]
    (CommandLaw (sub out b) ∧ Starts (sub out b) (cmd b) 0x0B ∧
      (u8 (cmd b).bytes.toList 4, u8 (cmd b).bytes.toList 5, u8 (cmd b).bytes.toList 6) = (0, 2, 31)) ∧
    Starts (sub out c) (cmd c) 0x0B ∧ (u8 (cmd c).bytes.toList 5, u8 (cmd c).bytes.toList 6) = (255, 255) :=
  ⟨⟨law_one _ rfl rfl, ⟨by decide, by decide⟩, by decide⟩, ⟨by decide, by decide⟩, by decide⟩

/-- A Copy Map under way. -/
def copyRun (handed done : Nat) : CopyRun :=
  { slot := 3, dest := 0x30000000, snapshot := Vector.replicate 96 .cleared, handed := handed, done := done, stopped := false }

/-- `out` with a RUNNING Copy Map. -/
def copying (handed done : Nat) : State :=
  { out with cmd := { out.cmd with queue := [{ cmd [12] with state := .running }], copies := [copyRun handed done] } }

/-- Its start; the hand-on of its last write; the answers to its first and last writes. -/
theorem witness_CopyMapRuns :
    let b := [12, 0, 9, 0, 0, 0, 0, 0] ++ addr4 0x30000000
    let u (done : Nat) := owning (copying 24 done) (.crackMap 3) true
    (CommandLaw (sub out b) ∧ Starts (sub out b) (cmd b) 0x0C ∧ u8 (cmd b).bytes.toList 4 = 0 ∧
      u32 (cmd b).bytes.toList 8 % 4096 = 0 ∧
      windowClash (sub out b) (u32 (cmd b).bytes.toList 8) 3072 (fun _ => false) (fun _ => false) = false) ∧
    (OutOfReset (copying 23 0) ∧ placeFor (copying 23 0) (.crackMap 3) = true ∧
      (copying 23 0).cmd.copies.find? (fun x => decide (x.slot = 3)) = some (copyRun 23 0) ∧ (copyRun 23 0).handed < 24) ∧
    CommandLaw (u 23) ∧ PathLaw (u 23) ∧ OutOfReset (u 23) ∧ own (.crackMap 3) true ∈ (u 23).path.own ∧
    (u 23).cmd.copies = [copyRun 24 23] ∧ (copyRun 24 23).done = 23 ∧ (copyRun 24 22).done < 23 := by
  refine ⟨⟨law_one _ rfl rfl, ⟨by decide, by decide⟩, by decide, by decide, by decide +kernel⟩,
    ⟨rfl, by decide, by decide +kernel, by decide⟩, ⟨by decide, by decide, by decide, ?_⟩,
    path_law (by decide) (by decide) (by decide) (by decide) (by decide) (by decide), rfl, by decide, rfl, rfl, by decide⟩
  intro r hr
  rw [List.mem_singleton.mp hr]
  exact ⟨_, List.mem_singleton_self _, rfl, by decide⟩

/-- A FAULT answer for a RUNNING Copy Map with another write unanswered, beside a second Copy Map; the same when FINISHING. -/
theorem witness_CopyMapRuns_fault :
    let w (n : Nat) (slot : Fin 32) : OwnWrite := { own (.crackMap slot) true with id := n }
    let c (st : CmdState) : Cmd := { cmd [12, 0, 9] with state := st }
    let d : Cmd := { slot := 4, bytes := record [12, 0, 8], state := .running }
    let s (st : CmdState) : State := { out with
      cmd := { out.cmd with queue := [d, c st], copies := [{ copyRun 9 4 with slot := 4 }, copyRun 24 5] }
      path := { out.path with own := [w 1 3, w 2 4, w 3 3], now := 4 } }
    let left := ((s .running).path.own.filter fun x => decide (x.id ≠ 1 ∧ x.producer = .crackMap 3)).map (·.id)
    CommandLaw (s .running) ∧ PathLaw (s .running) ∧ OutOfReset (s .running) ∧
    (w 1 3 ∈ (s .running).path.own ∧ (w 1 3).issued = true ∧ copyRun 24 5 ∈ (s .running).cmd.copies ∧
      c .running ∈ (s .running).cmd.queue ∧ left = [3]) ∧
    CommandLaw (s (.finishing .aborted 0 [1, 3])) ∧ (c (.finishing .aborted 0 [1, 3])).state ≠ .running := by
  refine ⟨?_, path_law (by decide) (by decide) (by decide) (by decide) (by decide) (by decide), rfl, by decide +kernel, ?_,
    by decide⟩ <;> (unfold CommandLaw; decide +kernel)

/-- Lane 1 with no hold, with a PENDING and with HELD ones, and with a full list. -/
theorem witness_SegmentHeld :
    let b (p : Nat) := [13, 0, 9, 0, 1, p]
    let s := sub (mapped out (lane1 .live)) (b 3)
    let full := List.replicate 64 ({ lane := 2, segment := 3, logical := 3, state := .pending, reason := .command, range := none } : HoldEntry)
    (CommandLaw s ∧ Starts s (cmd (b 3)) 0x0D ∧ u8 (cmd (b 3)).bytes.toList 4 = 1 ∧ u8 (cmd (b 3)).bytes.toList 5 = 3 ∧
      (s.lane 1).mapping = some mapping1 ∧ (s.seg 1).table = some (SegTable.mapped 4 2) ∧
      3 < mapping1.logical + mapping1.spares ∧ s.holds = [] ∧ 3 ∈ (SegTable.mapped 4 2).map ∧ s.holds.length < 64) ∧
    (u8 (cmd (b 5)).bytes.toList 5 = 5 ∧ 5 < mapping1.logical + mapping1.spares ∧ 5 ∉ (SegTable.mapped 4 2).map) ∧
    ((∀ h ∈ full, h.lane ≠ 1) ∧ 64 ≤ full.length) ∧
    ((holding [4, 5] []).holds.map fun h => (h.lane, h.segment, h.state)) = [(1, 3, .pending)] ∧
    ((holding [] bothHeld).holds.map fun h => (h.lane, h.segment, h.state)) = [(1, 3, .pending), (1, 4, .held), (1, 5, .held)] :=
  ⟨⟨law_one _ rfl rfl, ⟨by decide, by decide⟩, by decide, by decide, rfl, rfl, by decide, rfl, by decide, by decide⟩,
    by decide, by decide, by decide, by decide⟩

/-- One named segment, and ALL. -/
theorem witness_HoldReleased :
    let b (p : Nat) := [14, 0, 9, 0, 1, p]
    let s (p : Nat) := sub (holding [] bothHeld) (b p)
    (CommandLaw (s 5) ∧ Starts (s 5) (cmd (b 5)) 0x0E ∧ u8 (cmd (b 5)).bytes.toList 4 = 1 ∧
      ((s 5).lane 1).mapping = some mapping1 ∧ u8 (cmd (b 5)).bytes.toList 5 = 5 ∧ 5 < mapping1.logical + mapping1.spares ∧
      ((s 5).holds.filter fun h => decide (h.lane = 1 ∧ (5 = 255 ∨ h.segment = 5))) ≠ []) ∧
    Starts (s 255) (cmd (b 255)) 0x0E ∧ u8 (cmd (b 255)).bytes.toList 5 = 255 :=
  ⟨⟨law_one _ rfl rfl, ⟨by decide, by decide⟩, by decide, rfl, by decide, by decide, by decide⟩, ⟨by decide, by decide⟩,
    by decide⟩

/-- A state whose queue holds an Abort in slot 3 and then a command with tag 8 in slot 4. -/
def aborting (target : List Nat) (d : Cmd) : State :=
  { mapped out (lane1 .idle) with cmd := { out.cmd with queue := [d, cmd ([15, 0, 9, 0] ++ target)] } }

/-- A QUEUED target of a tag and of ALL, a RUNNING test, and no target. -/
theorem witness_AbortEnds :
    let d : Cmd := { slot := 4, bytes := record [4, 0, 8], state := .running }
    let e : Cmd := { slot := 4, bytes := record [7, 0, 8], state := .finishing .done 0 [5] }
    let r : TestRun :=
      { slot := 4, blocks := 4, limit := 0, timeoutUs := 1000000, elapsed := 0, errors := 0, counted := 0,
        generator := none, unseedDue := false, clampedFields := 0 }
    let t : State := { aborting [8, 0] d with lanes := out.lanes.set 1 { lane1 .test with test := some r } }
    let a := cmd [15, 0, 9, 0, 8, 0]
    let all := cmd [15, 0, 9, 0, 255, 255]
    let named (s : State) (target : Nat) := s.cmd.queue.filter fun x => decide (x.slot ≠ 3 ∧
      (x.state = .queued ∨ x.state = .running) ∧ (target = 65535 ∨ tagOf x.bytes = target))
    (CommandLaw t ∧ Starts t a 0x0F ∧ u16 a.bytes.toList 4 = 8 ∧ named t 8 = [d] ∧ kindCode d.bytes = 0x04 ∧
      testLaneOf t d.slot = some 1 ∧ (t.lane 1).test = some r ∧ t.cmd.copies = []) ∧
    (let q : Cmd := { slot := 4, bytes := record [7, 0, 8], state := .queued }
     let s : State := { out with cmd := { out.cmd with queue := [a, q] } }
     Starts s a 0x0F ∧ named s 8 = [q]) ∧
    (Starts (aborting [8, 0] e) a 0x0F ∧ named (aborting [8, 0] e) 8 = []) ∧
    Starts (aborting [255, 255] e) all 0x0F ∧ u16 all.bytes.toList 4 = 65535 ∧ named (aborting [255, 255] e) 65535 = [] := by
  refine ⟨⟨⟨by decide +kernel, by decide +kernel, by decide, ?_⟩, ⟨by decide +kernel, by decide⟩, by decide, by decide +kernel,
    by decide, by decide +kernel, by decide, rfl⟩, ⟨⟨by decide +kernel, by decide⟩, by decide +kernel⟩,
    ⟨⟨by decide +kernel, by decide⟩, by decide +kernel⟩, ⟨by decide +kernel, by decide⟩, by decide, by decide +kernel⟩
  intro r hr; cases hr

/-- Targets of each sort: a RUNNING Copy Map; a Write Status that waits, one that a SCHEDULED write serves, and one that a
write of reason COMMAND serves alone, with parts unanswered and without, one of them carried; two targets of ALL. -/
theorem witness_AbortEnds_targets :
    let d (k : Nat) : Cmd := { cmd [k, 0, 9] with state := .running }
    let q : Cmd := { slot := 4, bytes := record [7, 0, 8], state := .queued }
    let abort : Cmd := { slot := 5, bytes := record [15, 0, 7, 0, 255, 255], state := .queued }
    let s (k : Nat) (copies : List CopyRun) (st : StatusWriter) : State :=
      { out with cmd := { out.cmd with queue := [d k, abort, q], copies := copies }, status := st }
    let w (scheduled : Bool) (handed : Nat) : StatusWrite :=
      { statusWrite handed 2 with scheduled := scheduled, served := [3] }
    let st (w : StatusWrite) : StatusWriter := { status .writing false [] (some w) with carried := [(3, 9)] }
    (CommandLaw (s 12 [copyRun 4 2] .reset) ∧ d 12 ∈ (s 12 [copyRun 4 2] .reset).cmd.queue ∧ (d 12).state = .running ∧
      (s 12 [copyRun 4 2] .reset).cmd.copies.find? (fun x => decide (x.slot = 3)) = some (copyRun 4 2)) ∧
    (CommandLaw (s 19 [] .reset) ∧ kindCode (d 19).bytes = 0x13 ∧ (3 : Fin 32) ∈ (status .idle false [3] none).waiting) ∧
    ((st (w true 3)).waiting = [] ∧ (st (w true 3)).write = some (w true 3) ∧ (w true 3).scheduled = true) ∧
    ((w false 3).served.erase 3 = [] ∧ (w false 3).answered < (w false 3).handed ∧ (w false 2).handed ≤ (w false 2).answered ∧
      (w false 2).faulted = false) ∧
    ((s 12 [copyRun 4 2] .reset).cmd.queue.filter fun x => decide (x.slot ≠ 5 ∧ (x.state = .queued ∨ x.state = .running))) = [d 12, q] ∧
    nextStart { s 12 [] .reset with cmd := { out.cmd with queue := [abort, q] } } = some abort := by
  refine ⟨⟨?_, by decide +kernel⟩, ⟨?_, by decide +kernel⟩, by decide +kernel, by decide +kernel, by decide +kernel,
    by decide +kernel⟩ <;> (unfold CommandLaw; decide +kernel)

/-- Its start, and the end of its draining. -/
theorem witness_RestartRuns :
    let r : RestartRun := { slot := 3, bytes := record [16], cleared := false }
    let s : State := { out with cmd := { out.cmd with restart := some r } }
    (CommandLaw (sub out [16]) ∧ Starts (sub out [16]) (cmd [16]) 0x10) ∧
    OutOfReset s ∧ s.cmd.restart = some r ∧ r.cleared = false ∧ s.path.own = [] ∧ s.path.waits = [] ∧
    s.cmd.completions = [] :=
  ⟨⟨law_one _ rfl rfl, ⟨by decide, by decide⟩⟩, rfl, rfl, rfl, rfl, rfl, rfl⟩

/-- 11 11.1, step 2; and the smallest and the largest ring. -/
theorem witness_NoticeRingSet :
    let b := [17, 0, 9, 0] ++ addr4 0x20100000 ++ [0, 1, 0]
    let l := (cmd b).bytes.toList
    CommandLaw (sub out b) ∧ Starts (sub out b) (cmd b) 0x11 ∧
    (u32 l 4 % 4096 = 0 ∧ u16 l 8 % 16 = 0 ∧ 16 ≤ u16 l 8 ∧ u16 l 8 ≤ 4096 ∧ u32 l 4 + u16 l 8 * 32 ≤ 4294967296) ∧
    windowClash (sub out b) (u32 l 4) (u16 l 8 * 32) (fun w => decide (w = .ring)) (fun p => decide (p.client = .noticeWriter)) = false ∧
    (ringOf ((record ([17, 0, 9, 0] ++ addr4 0x20100000 ++ [16, 0])).toList)).isSome = true ∧
    (ringOf ((record ([17, 0, 9, 0] ++ addr4 0x20100000 ++ [0, 16])).toList)).isSome = true :=
  ⟨law_one _ rfl rfl, ⟨by decide, by decide⟩, by decide, by decide +kernel, by decide, by decide⟩

/-- 11 11.1, step 2; and a Write Status in IDLE. -/
theorem witness_StatusBlockSet :
    let b := [18, 0, 9, 0] ++ addr4 0x20102000 ++ [100, 0]
    let s : State := { sub out [19] with status := status .idle false [] none }
    (CommandLaw (sub out b) ∧ Starts (sub out b) (cmd b) 0x12 ∧ u32 (cmd b).bytes.toList 4 % 1024 = 0 ∧
      windowClash (sub out b) (u32 (cmd b).bytes.toList 4) 1024 (fun w => decide (w = .status))
        (fun p => decide (p.client = .statusWriter)) = false ∧
      out.status.waiting = [] ∧ out.status.write = none) ∧
    CommandLaw s ∧ Starts s (cmd [19]) 0x13 ∧ s.status.state = .idle :=
  ⟨⟨law_one _ rfl rfl, ⟨by decide, by decide⟩, by decide, by decide +kernel, rfl, rfl⟩, law_one _ rfl rfl,
    ⟨by decide, by decide⟩, rfl⟩

/-- A Set Status Block with a write in progress that serves the command in slot 4, two of its parts unanswered. -/
def cutting : State :=
  let b := [18, 0, 9, 0] ++ addr4 0x20103000 ++ [100, 0]
  let part (n : Nat) : OwnWrite := { own (.statusWriter true) true with id := n }
  { out with
    cmd := { out.cmd with queue := [{ slot := 4, bytes := record [19, 0, 8], state := .running }, cmd b] }
    path := { out.path with own := [part 1, part 2], now := 3 }
    status := status .writing false [] (some { statusWrite 5 3 with served := [4] }) }

theorem witness_StatusBlockSet_cut :
    CommandLaw cutting ∧ nextStart cutting = some (cmd ([18, 0, 9, 0] ++ addr4 0x20103000 ++ [100, 0])) ∧
    cutting.status.write = some { statusWrite 5 3 with served := [4] } ∧
    windowClash cutting 0x20103000 1024 (fun w => decide (w = .status)) (fun p => decide (p.client = .statusWriter)) = false := by
  refine ⟨?_, by decide +kernel, by decide, by decide +kernel⟩
  unfold CommandLaw; decide +kernel

/-- R166, R152, R150: the parts of the cut write stay on the account of the Write Status, which the next write serves; an
abort leaves it FINISHING until they are answered. -/
theorem test_carried_parts :
    let t : State := match exec .setStatusBlock cutting with | .next t => t | _ => out
    let a (u : State) : State := match u.cmd.queue with | d :: _ => abortTarget u d | [] => u
    let answered (u : State) (n : Nat) : State := match exec (.ownWriteResponse n .done) u with | .next v => v | _ => out
    (t.status.carried, t.status.write.map (·.served), t.cmd.queue.length) = ([(4, 1), (4, 2)], some [4], 1) ∧
    (a t).cmd.completions = [] ∧ (a t).cmd.queue.map (·.state) = [.finishing .aborted 0 [1, 2]] ∧
    (answered (a t) 1).cmd.completions = [] ∧ (answered (answered (a t) 1) 2).cmd.completions.map (·.result) = [.aborted] ∧
    (answered (answered (a t) 1) 2).status.carried = [] := by decide +kernel

/-- For each clause of CommandsRefused a record whose fields fail the test, at the field's first bad value. -/
theorem witness_CommandsRefused :
    let k (b : List Nat) := kindCode (record b)
    let l (b : List Nat) := (record b).toList
    let run := station0 (plant .live) fun x => { x with state := .waiting }
    let one : State := { out with lanes := (out.lanes.set 0 (lane0 .idle)).set 1 (lane1 .idle) }
    let testing : State := { plant .idle with lanes := (plant .idle).lanes.set 1 (lane1 .test) }
    (∀ b ∈ [[0], [20], [1, 0, 9, 0, 16], [2, 0, 9, 0, 16], [19, 0, 9]], nextStart (sub out b) = some (cmd b)) ∧
    (k [0] = 0 ∧ 19 < k [20] ∧ mapParams (l ([1, 0, 9, 0, 16] ++ mapLane1.drop 5)) = none ∧
      mapParams (l mapLane1) = some (1, mapping1) ∧ (run.station 0).state ≠ .stopped ∧
      ((mapped out (lane1 .test)).lane 1).state = .test ∧ ((mapped out (lane1 .idle)).lane 1).state ≠ .test) ∧
    (16 ≤ u8 (l [2, 0, 9, 0, 16]) 4 ∧ 2 ≤ u8 (l [3, 0, 9, 0, 1, 2]) 5 ∧ (out.lane 1).state = .unmapped ∧
      u16 (l [5, 0, 9, 0, 1, 0, 0, 8, 129, 0]) 8 ∉ [128, 256, 512, 1024]) ∧
    (4 ≤ u8 (l [6, 0, 9, 0, 4]) 4 ∧ 3 ≤ u8 (l [6, 0, 9, 0, 0, 3]) 5 ∧ out.vibrationLane 0 = none ∧
      3 ≤ u8 (l [9, 0, 9, 0, 0, 3]) 5 ∧ 3 ≤ u8 (l [9, 0, 9, 0, 0, 0, 3]) 6 ∧
      max 1 (min 32767 (u16 (l [6, 0, 9, 0, 0, 0, 0, 0, 5, 0, 5, 0]) 8)) ≤ max 1 (min 32767 (u16 (l [6, 0, 9, 0, 0, 0, 0, 0, 5, 0, 5, 0]) 10)) ∧
      u8 (l [9, 0, 9, 0, 0, 0, 1, 3, 3]) 7 = u8 (l [9, 0, 9, 0, 0, 0, 1, 3, 3]) 8) ∧
    (((plant .idle).lane 2).mapping = some { mapping1 with role := .ae 1, base := 0x01200000 } ∧
      windowClash (plant .idle) 0x01200000 131072 (fun w => decide (w = .lane 1)) (fun _ => false) = true ∧
      (one.vibrationLane 0 = some 0 ∧ ((one.lanesOf 0).filter fun i => (one.lane i).isAE).length < 2) ∧
      ∃ i ∈ testing.lanesOf 0, (testing.lane i).state = .test) ∧
    (2 < u8 (l [11, 0, 9, 0, 0, 3]) 5 ∧ 31 < u8 (l [11, 0, 9, 0, 0, 0, 32]) 6 ∧
      u32 (l ([12, 0, 9, 0, 0, 0, 0, 0] ++ addr4 0x30000100)) 8 % 4096 ≠ 0 ∧
      windowClash out 0x20000000 3072 (fun _ => false) (fun _ => false) = true ∧
      windowClash out 0x20000000 512 (fun w => decide (w = .ring)) (fun p => decide (p.client = .noticeWriter)) = true ∧
      windowClash out 0x20000400 1024 (fun w => decide (w = .status)) (fun p => decide (p.client = .statusWriter)) = true) ∧
    ((out.lane 1).mapping = none ∧ 15 < u8 (l [14, 0, 9, 0, 1, 16]) 5 ∧ mapping1.logical + mapping1.spares ≤ u8 (l [13, 0, 9, 0, 1, 6]) 5 ∧
      ((mapped out (lane1 .idle)).lane 1).mapping = some mapping1 ∧ (mapped out (lane1 .idle)).holds = []) ∧
    (255 < u16 (l [15, 0, 9, 0, 0, 1]) 4 ∧ u16 (l [15, 0, 9, 0, 0, 1]) 4 ≠ 65535 ∧
      u16 (l ([17, 0, 9, 0] ++ addr4 0x20100000 ++ [8, 0])) 8 < 16 ∧
      4294967296 < u32 (l ([17, 0, 9, 0] ++ addr4 0xFFFFF000 ++ [144, 0])) 4 + u16 (l ([17, 0, 9, 0] ++ addr4 0xFFFFF000 ++ [144, 0])) 8 * 32 ∧
      u32 (l ([18, 0, 9, 0] ++ addr4 0x20100200)) 4 % 1024 ≠ 0 ∧ out.status.state = .unset) := by
  refine ⟨by decide +kernel, by decide +kernel, by decide +kernel, by decide +kernel, by decide +kernel, by decide +kernel,
    by decide +kernel, by decide +kernel⟩

/-! ### Witnesses: laws that steps keep -/

/-- Terms of both sorts: 1 and 16 beats, no beat and 17. -/
theorem witness_OnlyIllFormedTermsStop :
    WellFormed (.transferArrival (read 1 0 1)) = true ∧ WellFormed (.transferArrival (write 1 0 16)) = true ∧
    WellFormed (.transferArrival (read 1 0 0)) = false ∧ WellFormed (.transferArrival (write 1 0 17)) = false ∧
    WellFormed (.strayResponse { resp := .done, data := List.replicate 17 (beat 0).bytes }) = false := by decide

/-- A queue with a place and a full one with a completion to hand on; an own write that waits and one that is ISSUED. -/
theorem witness_EndOfStepFrame :
    let full : State := { out with
      path := { out.path with own := List.replicate 8 (own .commandUnit true) }
      cmd := { out.cmd with completions := [{ slot := 3, bytes := record [7], result := .done, detail := 0 }] } }
    (owning out .commandUnit true).path.own.length < 8 ∧ ¬full.path.own.length < 8 ∧
    clientReady full .commandUnit = true ∧ (settleWaits full).path.waits = [(.commandUnit, 0)] ∧
    waitingOwn full = none ∧ waitingOwn (owning out .commandUnit false) ≠ none := by decide

/-- A step of the idle block out of reset, from a state that keeps every law. -/
theorem witness_CapacitiesKept :
    step out = .next (tick out) ∧ LaneQueueLaw out ∧ OwnQueueLaw out ∧ StarvationLaw out ∧ NoticeQueueLaw out ∧
    PoolLaw out ∧ HoldListLaw out := by
  refine ⟨rfl, ?_, ?_, ?_, ?_, ?_, ?_⟩
  · unfold LaneQueueLaw; decide
  · show out.path.own.length ≤ 8; decide
  · show out.path.starvation ≤ 8; decide
  · show out.notices.queue.length ≤ 64; decide
  · unfold PoolLaw; decide
  · show out.holds.length ≤ 64; decide

/-- Station 0 COMPACTING with one closed and one open record. -/
def compacting : State :=
  station0 out fun x => { x with state := .compacting, cycle := 8, boundary := [cycleRecord 7 (some 5), cycleRecord 8 none] }

theorem witness_BoundaryKept : step { compacting with pending := [.queueDrained] } = .next compacting ∧ BoundaryLaw compacting := by
  refine ⟨rfl, fun k => ?_⟩
  have other : Station.BoundaryLaw Station.reset := ⟨by decide, trivial, by decide, by decide, by decide⟩
  match k with
  | 0 => exact ⟨by decide, ⟨by decide, by decide, trivial⟩, by decide, fun _ => ⟨cycleRecord 8 none, rfl, rfl⟩,
      fun h => absurd rfl h⟩
  | 1 => exact other
  | 2 => exact other
  | 3 => exact other

theorem witness_SegmentsKept :
    let s : State := { holding [4, 5] [] with pending := [.queueDrained] }
    step s = .next (holding [4, 5] []) ∧ SegmentLaw s :=
  ⟨rfl, segment_law 1 mapping1 (by decide) rfl ⟨_, rfl, by decide, by decide, by decide, by decide, by decide, by decide⟩
      (by decide +kernel) (by decide)⟩

theorem witness_CommandsKept :
    let s := sub (ringing 16 0) [19]
    step { s with pending := [.queueDrained] } = .next s ∧ CommandLaw s ∧ RingLaw s :=
  ⟨rfl, law_one _ rfl rfl, by decide, by decide, by decide, by decide, by decide⟩

theorem witness_PathKept :
    let s := accepted (owning out .commandUnit true) (read 2 0x2000 1) .ready
    step { s with pending := [.queueDrained] } = .next s ∧ PathLaw { s with pending := [.queueDrained] } :=
  ⟨rfl, path_law (by decide) (by decide) (by decide) (by decide) (by decide) (by decide)⟩

end Sys2Proof.Tests
end

section
/-! ## Capacities: what every operation does to the bounded queues (00, 3)

`KeepsCapacities s t` says of a part of a step from `s` to `t` that each of the six capacity laws which `s` meets, `t`
meets. It composes, so each operation is proved once from the operations it is made of. -/

namespace Sys2Proof.Machine

open Sys2Proof.Safety

set_option Elab.async false

/-- Each capacity of 00, 3 that `s` meets, `t` meets. -/
structure KeepsCapacities (s t : State) : Prop where
  laneQueue : LaneQueueLaw s → LaneQueueLaw t
  ownQueue : OwnQueueLaw s → OwnQueueLaw t
  starvation : StarvationLaw s → StarvationLaw t
  noticeQueue : NoticeQueueLaw s → NoticeQueueLaw t
  pool : PoolLaw s → PoolLaw t
  holdList : HoldListLaw s → HoldListLaw t

namespace KeepsCapacities

variable {s t u : State}

@[refl] theorem refl (s : State) : KeepsCapacities s s := ⟨id, id, id, id, id, id⟩

theorem trans (h : KeepsCapacities s t) (h' : KeepsCapacities t u) : KeepsCapacities s u :=
  ⟨h'.laneQueue ∘ h.laneQueue, h'.ownQueue ∘ h.ownQueue, h'.starvation ∘ h.starvation, h'.noticeQueue ∘ h.noticeQueue,
   h'.pool ∘ h.pool, h'.holdList ∘ h.holdList⟩

/-- A change to nothing that a capacity bounds. -/
theorem of_same (hl : t.lanes = s.lanes := by simp) (ho : t.path.own = s.path.own := by simp)
    (hv : t.path.starvation = s.path.starvation := by simp) (hn : t.notices.queue = s.notices.queue := by simp)
    (hx : t.stations = s.stations := by simp) (hh : t.holds = s.holds := by simp) : KeepsCapacities s t where
  laneQueue h i := by rw [State.lane_congr hl]; exact h i
  ownQueue h := by unfold OwnQueueLaw; rw [ho]; exact h
  starvation h := by unfold StarvationLaw; rw [hv]; exact h
  noticeQueue h := by unfold NoticeQueueLaw; rw [hn]; exact h
  pool h k := by rw [State.station_congr hx]; exact h k
  holdList h := by unfold HoldListLaw; rw [hh]; exact h

/-- A change of the lanes alone, under which each lane keeps R11. -/
theorem of_lanes (hl : ∀ i, (s.lane i).queue.length ≤ 4 → (t.lane i).queue.length ≤ 4)
    (hp : t.path = s.path := by simp) (hn : t.notices = s.notices := by simp)
    (hx : t.stations = s.stations := by simp) (hh : t.holds = s.holds := by simp) : KeepsCapacities s t where
  laneQueue h i := hl i (h i)
  ownQueue h := by unfold OwnQueueLaw; rw [hp]; exact h
  starvation h := by unfold StarvationLaw; rw [hp]; exact h
  noticeQueue h := by unfold NoticeQueueLaw; rw [hn]; exact h
  pool h k := by rw [State.station_congr hx]; exact h k
  holdList h := by unfold HoldListLaw; rw [hh]; exact h

/-- A change of the stations alone, under which each station keeps R68. -/
theorem of_stations (hx : ∀ k, (s.station k).pool.length ≤ 64 → (t.station k).pool.length ≤ 64)
    (hl : t.lanes = s.lanes := by simp) (hp : t.path = s.path := by simp) (hn : t.notices = s.notices := by simp)
    (hh : t.holds = s.holds := by simp) : KeepsCapacities s t where
  laneQueue h i := by rw [State.lane_congr hl]; exact h i
  ownQueue h := by unfold OwnQueueLaw; rw [hp]; exact h
  starvation h := by unfold StarvationLaw; rw [hp]; exact h
  noticeQueue h := by unfold NoticeQueueLaw; rw [hn]; exact h
  pool h k := hx k (h k)
  holdList h := by unfold HoldListLaw; rw [hh]; exact h

/-- A change of the path unit alone. -/
theorem of_path (ho : s.path.own.length ≤ 8 → t.path.own.length ≤ 8)
    (hv : s.path.starvation ≤ 8 → t.path.starvation ≤ 8) (hl : t.lanes = s.lanes := by simp)
    (hn : t.notices.queue = s.notices.queue := by simp)
    (hx : t.stations = s.stations := by simp) (hh : t.holds = s.holds := by simp) : KeepsCapacities s t where
  laneQueue h i := by rw [State.lane_congr hl]; exact h i
  ownQueue := ho
  starvation := hv
  noticeQueue h := by unfold NoticeQueueLaw; rw [hn]; exact h
  pool h k := by rw [State.station_congr hx]; exact h k
  holdList h := by unfold HoldListLaw; rw [hh]; exact h

/-- A change of the hold list and of nothing else that a capacity bounds. -/
theorem of_holds (hh : s.holds.length ≤ 64 → t.holds.length ≤ 64) (hl : t.lanes = s.lanes := by simp)
    (hp : t.path = s.path := by simp) (hn : t.notices = s.notices := by simp)
    (hx : t.stations = s.stations := by simp) : KeepsCapacities s t where
  laneQueue h i := by rw [State.lane_congr hl]; exact h i
  ownQueue h := by unfold OwnQueueLaw; rw [hp]; exact h
  starvation h := by unfold StarvationLaw; rw [hp]; exact h
  noticeQueue h := by unfold NoticeQueueLaw; rw [hn]; exact h
  pool h k := by rw [State.station_congr hx]; exact h k
  holdList := hh

end KeepsCapacities

/-! ### Lanes, stations, segment records, notices -/

theorem keeps_setLane (s : State) (i : Fin 16) (l : Lane)
    (hl : (s.lane i).queue.length ≤ 4 → l.queue.length ≤ 4 := by exact id) : KeepsCapacities s (s.setLane i l) := by
  refine .of_lanes fun j hj => ?_
  rcases eq_or_ne j i with rfl | hne
  · rw [State.lane_setLane]; exact hl hj
  · rw [State.lane_setLane_ne s l hne]; exact hj

theorem keeps_onLane (s : State) (i : Fin 16) (f : Lane → Lane)
    (hf : (s.lane i).queue.length ≤ 4 → (f (s.lane i)).queue.length ≤ 4 := by exact id) :
    KeepsCapacities s (s.onLane i f) :=
  keeps_setLane s i _ hf

theorem keeps_setStation (s : State) (k : Fin 4) (x : Station)
    (hx : (s.station k).pool.length ≤ 64 → x.pool.length ≤ 64 := by exact id) : KeepsCapacities s (s.setStation k x) := by
  refine .of_stations fun j hj => ?_
  rcases eq_or_ne j k with rfl | hne
  · rw [State.station_setStation]; exact hx hj
  · rw [State.station_setStation_ne s x hne]; exact hj

theorem keeps_onStation (s : State) (k : Fin 4) (f : Station → Station)
    (hf : (s.station k).pool.length ≤ 64 → (f (s.station k)).pool.length ≤ 64 := by exact id) :
    KeepsCapacities s (s.onStation k f) :=
  keeps_setStation s k _ hf

theorem keeps_setSeg (s : State) (i : Fin 16) (g : Segs) : KeepsCapacities s (s.setSeg i g) := .of_same

/-- R157: whatever is handed on, the internal queue keeps its capacity. -/
theorem keeps_handNotices (s : State) (ns : List Notice) : KeepsCapacities s (handNotices s ns) := by
  have hq : NoticeQueueLaw s → NoticeQueueLaw (handNotices s ns) := fun h => by
    unfold NoticeQueueLaw; rw [handNotices_notices]; exact NoticeWriter.takes_length s.notices ns h
  have hr : (handNotices s ns) = { s with notices := ns.foldl NoticeWriter.take s.notices } := handNotices_eq s ns
  rw [hr] at hq ⊢
  exact ⟨id, id, id, hq, id, id⟩

theorem keeps_handNotice (s : State) (n : Notice) : KeepsCapacities s (handNotice s n) := keeps_handNotices s [n]

/-- R137: a hand-on finds a place free. -/
theorem keeps_handOn (s : State) (p : Producer) (a : Addr) (bs : List Beat) (h : s.path.own.length < 8) :
    KeepsCapacities s (handOn s p a bs) :=
  .of_path (fun _ => by simpa using h) (fun hv => hv)

/-! ### Ends of steps and of commands -/

theorem keeps_commit (s t : State) : KeepsCapacities t (commit s t) := by
  obtain ⟨w, k, n, hp, hk⟩ := commit_path t s
  refine .of_path (by simp) fun hv => ?_
  rw [hp]
  rcases hk with rfl | rfl
  · exact hv
  · exact Nat.zero_le 8

theorem keeps_completeHead (s : State) (h : Completed) (rest : List Completed) (hp : placeFor s .commandUnit = true) :
    KeepsCapacities s (completeHead s h rest) := by
  have hroom : s.path.own.length < 8 := by
    simp only [placeFor, Bool.and_eq_true, decide_eq_true_eq] at hp; exact hp.1
  unfold completeHead
  dsimp only
  have h1 := keeps_handOn s .commandUnit (trailerAddr s h.slot)
    (beatsOf 1 (trailerBytes h.result h.detail (s.cmd.completionCount + 1))) hroom
  split
  · exact (h1.trans .of_same).trans (keeps_handNotice _ _)
  · exact h1.trans .of_same

theorem keeps_completeStarted (c : Cmd) (s : State) : KeepsCapacities s (completeStarted c s) :=
  completeStarted_induct (P := KeepsCapacities s) c (fun t h rest _ hp ht => ht.trans (keeps_completeHead t h rest hp)) s
    (.refl s)

/-- The start of a command keeps the capacities when its own effect does. -/
theorem keeps_startStep {kind : Nat → Bool} {f : Cmd → State → State} {s t : State}
    (hf : ∀ c, KeepsCapacities s (f c s)) (h : startStep kind f s = .next t) : KeepsCapacities s t := by
  rcases startStep_cases kind f s with hs | ⟨c, -, -, hs⟩
  · rw [hs] at h; cases h; exact .refl s
  · rw [hs] at h; cases h
    exact ((hf c).trans (keeps_completeStarted c _)).trans (keeps_commit s _)

theorem keeps_decideCmd (s : State) (slot : Fin 32) (r : Result) (d : BitVec 16) (aw : List Nat) :
    KeepsCapacities s (decideCmd s slot r d aw) := .of_same
theorem keeps_complete (s : State) (slot : Fin 32) (d : Nat) : KeepsCapacities s (complete s slot d) := .of_same
theorem keeps_refuse (s : State) (slot : Fin 32) (r : Result) : KeepsCapacities s (refuse s slot r) := .of_same

/-! ### Holds and segments (R117 to R129) -/

theorem keeps_makePending (s : State) (i : Fin 16) (p : Nat) (r : HoldReason) (h : s.holds.length < 64) :
    KeepsCapacities s (makePending s i p r) := by
  refine .of_holds fun _ => ?_
  unfold makePending
  split
  · exact h.le
  · simpa using h

/-- R121: a pin request that makes an entry finds fewer than 64. -/
theorem holds_lt_of_pinCase_made {s : State} {i : Fin 16} {p : Nat} (h : pinCase s i p = .made) :
    s.holds.length < 64 := by
  unfold pinCase at h
  split at h
  · cases h
  · split at h
    · cases h
    · split at h
      · split at h
        · next hl => exact hl
        · cases h
      · cases h

theorem keeps_eventPin (s : State) (cell : Nat) (i : Fin 16) (p : Nat) : KeepsCapacities s (eventPin s cell i p) := by
  unfold eventPin
  split
  · next hm => exact keeps_makePending s i p _ (holds_lt_of_pinCase_made hm)
  · exact .refl s
  · exact keeps_setSeg s i _
  · exact keeps_setSeg s i _

theorem keeps_serveHold (s : State) (i : Fin 16) (m : Mapping) (g : Segs) (t : SegTable) (k : Nat) :
    KeepsCapacities s (serveHold s i m g t k) := by
  unfold serveHold
  split
  · exact .refl s
  · dsimp only
    split
    · exact (KeepsCapacities.of_holds (s := s) (by simp)).trans (keeps_handNotice _ _)
    · exact (KeepsCapacities.of_holds fun h => (List.length_filter_le _ _).trans h).trans (keeps_handNotice _ _)

theorem keeps_reportWrite (s : State) (i : Fin 16) (m : Mapping) (k : Nat) : KeepsCapacities s (reportWrite s i m k) := by
  unfold reportWrite
  split
  · exact .refl s
  · dsimp only
    split
    · exact .refl s
    · exact (keeps_serveHold s i m _ _ k).trans (keeps_setSeg _ i _)

theorem keeps_discardHolds (s : State) (i : Fin 16) (g : Segs) : KeepsCapacities s (discardHolds s i g) :=
  .of_holds fun h => (List.length_filter_le _ _).trans h

theorem keeps_releaseAll (s : State) (i : Fin 16) (code : Nat) : KeepsCapacities s (releaseAll s i code) :=
  .of_holds fun h => (List.length_filter_le _ _).trans h

end Sys2Proof.Machine
end

section
/-! ## Capacities: event former, tracker and lanes -/

namespace Sys2Proof.Machine

open Sys2Proof.Safety

set_option Elab.async false

/-! ### The event former (R68 to R72, R95) -/

theorem summarize_pool (k : Fin 4) (r : CycleRecord) (x : Station) (cells : Vector Cell 96) :
    (summarize k r x cells).1.pool = x.pool := by
  unfold summarize
  dsimp only
  split
  · rfl
  · split <;> rfl

theorem evaluateStation_pool (k : Fin 4) (r : CycleRecord) (x : Station) : (evaluateStation k r x).1.pool = x.pool :=
  summarize_pool k r x _

theorem keeps_evaluate (s : State) (k : Fin 4) (r : CycleRecord) : KeepsCapacities s (evaluate s k r) :=
  (keeps_setStation s k _ fun h => by rwa [evaluateStation_pool]).trans (keeps_handNotices _ _)

theorem keeps_creditEvent (s : State) (k : Fin 4) (ids : List Nat) (ms : List Hit) (e : EventTally) :
    KeepsCapacities s (creditEvent s k ids ms e) := by
  have h1 : KeepsCapacities s (s.setStation k ((s.station k).tally ids e)) := keeps_setStation s k _
  unfold creditEvent
  dsimp only
  split
  · exact h1
  · exact eventPins_induct (P := KeepsCapacities s) (fun t c l p ht => ht.trans (keeps_eventPin t c l p)) ms _ _ h1

theorem creditEvent_pool (s : State) (k : Fin 4) (ids : List Nat) (ms : List Hit) (e : EventTally) :
    ((creditEvent s k ids ms e).station k).pool = (s.station k).pool := by
  have h1 : ((s.setStation k ((s.station k).tally ids e)).station k).pool = (s.station k).pool := by
    rw [State.station_setStation]; rfl
  unfold creditEvent
  dsimp only
  split
  · exact h1
  · exact eventPins_induct (P := fun t => (t.station k).pool = (s.station k).pool)
      (fun t c l p ht => by rw [State.station_congr (eventPin_stations t c l p)]; exact ht) ms _ _ h1

/-- R71: the members of an event leave the pool. -/
theorem formEvent_pool (s : State) (k : Fin 4) (h0 : Hit) (early : Bool) :
    ((formEvent s k h0 early).station k).pool
      = (members h0 (s.station k).pool (s.station k).settings.window).foldl (fun p h => p.erase h) (s.station k).pool := by
  unfold formEvent
  dsimp only
  split
  · rw [creditEvent_pool, State.station_setStation]
  · rw [State.station_setStation]
    unfold Station.reportOutOfCycle
    split <;> rfl

theorem erases_length_le (ms pool : List Hit) : (ms.foldl (fun p h => p.erase h) pool).length ≤ pool.length := by
  induction ms generalizing pool with
  | nil => exact le_rfl
  | cons m rest ih => exact (ih _).trans List.length_erase_le

/-- Erasing hits one of which is pooled shortens the pool. -/
theorem erases_length_lt {h : Hit} {ms : List Hit} (hm : h ∈ ms) {pool : List Hit} (hp : h ∈ pool) :
    (ms.foldl (fun p h => p.erase h) pool).length < pool.length := by
  induction ms generalizing pool with
  | nil => simp at hm
  | cons m rest ih =>
    rw [List.foldl_cons]
    by_cases he : m = h
    · subst he
      have h1 := erases_length_le rest (pool.erase m)
      have h2 := List.length_erase_of_mem hp
      have h3 := List.length_pos_of_mem hp
      omega
    · have hr : h ∈ rest := (List.mem_cons.mp hm).resolve_left fun e => he e.symm
      exact (ih hr ((List.mem_erase_of_ne fun e => he e.symm).mpr hp)).trans_le List.length_erase_le

theorem mem_members (h0 : Hit) (pool : List Hit) (w : Nat) : h0 ∈ members h0 pool w := by
  unfold members
  rw [List.mem_filterMap]
  exact ⟨h0.role, List.mem_finRange _, by simp⟩

/-- R72: forming the event of a pooled hit makes room in the pool. -/
theorem formEvent_pool_lt {s : State} {k : Fin 4} {h0 : Hit} (early : Bool) (h : h0 ∈ (s.station k).pool) :
    ((formEvent s k h0 early).station k).pool.length < (s.station k).pool.length := by
  rw [formEvent_pool]
  exact erases_length_lt (mem_members h0 _ _) h

theorem keeps_formEvent (s : State) (k : Fin 4) (h0 : Hit) (early : Bool) :
    KeepsCapacities s (formEvent s k h0 early) := by
  have hp : ∀ w, ((members h0 (s.station k).pool w).foldl (fun p h => p.erase h) (s.station k).pool).length
      ≤ (s.station k).pool.length := fun w => erases_length_le _ _
  unfold formEvent
  dsimp only
  split
  · exact (keeps_setStation s k _ (hp _).trans).trans (keeps_creditEvent _ k _ _ _)
  · refine keeps_setStation s k _ fun h => ?_
    unfold Station.reportOutOfCycle
    split <;> exact (hp _).trans h

theorem keeps_formingPass (s : State) (k : Fin 4) : KeepsCapacities s (formingPass s k) :=
  formingPass_induct (P := KeepsCapacities s) (fun t r _ h => h.trans (keeps_evaluate t k r))
    (fun t h0 _ _ h => h.trans (keeps_formEvent t k h0 false)) s (.refl s)

theorem poolInsert_length (h : Hit) (pool : List Hit) : (poolInsert h pool).length = pool.length + 1 := by
  induction pool with
  | nil => rfl
  | cons x rest ih =>
    unfold poolInsert
    split
    · rfl
    · rw [List.length_cons, ih, List.length_cons]

/-- R68, R72: the state in which an arriving hit enters the pool, an EARLY event having made room in a full one. -/
def withPoolRoom (s : State) (k : Fin 4) : State := match (s.station k).pool with
  | h0 :: _ => if Config.poolMax ≤ (s.station k).pool.length then formEvent s k h0 true else s
  | [] => s

theorem handHit_eq (s : State) (k : Fin 4) (h : Hit) :
    handHit s k h = formingPass ((withPoolRoom s k).onStation k fun x => { x with pool := poolInsert h x.pool }) k := rfl

theorem withPoolRoom_cases (s : State) (k : Fin 4) :
    withPoolRoom s k = s ∧ (s.station k).pool.length < 64
      ∨ ∃ h0 ∈ (s.station k).pool, withPoolRoom s k = formEvent s k h0 true := by
  unfold withPoolRoom
  split
  · next h0 rest hp =>
    split
    · exact .inr ⟨h0, by simp [hp], rfl⟩
    · next hl => exact .inl ⟨rfl, not_le.mp hl⟩
  · next hp => exact .inl ⟨rfl, by simp [hp]⟩

/-- R68, R72: with the EARLY event a hit enters a pool that holds fewer than 64. -/
theorem keeps_poolEntry (s : State) (k : Fin 4) (h : Hit) :
    KeepsCapacities s ((withPoolRoom s k).onStation k fun x => { x with pool := poolInsert h x.pool }) := by
  have h1 : KeepsCapacities s (withPoolRoom s k) := by
    rcases withPoolRoom_cases s k with ⟨e, -⟩ | ⟨h0, -, e⟩ <;> rw [e]
    exact keeps_formEvent s k h0 true
  have hroom : (s.station k).pool.length ≤ 64 → ((withPoolRoom s k).station k).pool.length < 64 := fun hs => by
    rcases withPoolRoom_cases s k with ⟨e, hl⟩ | ⟨h0, hm, e⟩ <;> rw [e]
    · exact hl
    · exact (formEvent_pool_lt true hm).trans_le hs
  refine ⟨h1.laneQueue, h1.ownQueue, h1.starvation, h1.noticeQueue, fun hs j => ?_, h1.holdList⟩
  rcases eq_or_ne j k with rfl | hne
  · rw [State.station_onStation, poolInsert_length]; exact hroom (hs j)
  · rw [State.station_onStation_ne _ _ hne]; exact h1.pool hs j

theorem keeps_handHit (s : State) (k : Fin 4) (h : Hit) : KeepsCapacities s (handHit s k h) :=
  (keeps_poolEntry s k h).trans (keeps_formingPass _ k)

theorem keeps_handHit? (s : State) (k : Fin 4) (h : Option Hit) : KeepsCapacities s (handHit? s k h) := by
  cases h with
  | none => exact .refl s
  | some h => exact keeps_handHit s k h

/-! ### The tracker (R50 to R56) -/

theorem keeps_endCycle (s : State) (k : Fin 4) (e : SampleTime) : KeepsCapacities s (endCycle s k e) := by
  have h1 := keeps_onStation s k (fun x => { x with boundary := closeTail x.boundary e false, state := .waiting, tail := 0,
                                                    quietTimer := some 0, measureRef := none })
  unfold endCycle
  dsimp only
  split
  · exact h1.trans (keeps_formingPass _ k)
  · exact h1

theorem keeps_forceHead (s : State) (k : Fin 4) : KeepsCapacities s (forceHead s k) := by
  unfold forceHead
  split
  · split
    · exact keeps_evaluate s k _
    · exact .refl s
  · exact .refl s

theorem keeps_startCycle (s : State) (k : Fin 4) (t : SampleTime) (peak : Nat) :
    KeepsCapacities s (startCycle s k t peak) := by
  have h1 := (keeps_onStation s k (fun x => { x with quietTimer := none, cycle := x.cycle + 1, state := .compacting,
                                                     tail := 0 })).trans (keeps_forceHead _ k)
  have h2 := h1.trans (keeps_onStation _ k (fun x => { x with
    boundary := x.boundary ++ [{ number := x.cycle, start := t, finish := none, incomplete := false, forced := false }] }))
  unfold startCycle
  dsimp only
  split <;> split
  · exact (h2.trans (keeps_handNotice _ _)).trans (keeps_formingPass _ k)
  · exact h2.trans (keeps_formingPass _ k)
  · exact h2.trans (keeps_handNotice _ _)
  · exact h2

theorem keeps_applyPeak (s : State) (k : Fin 4) (a b : SampleTime) (peak : Nat) :
    KeepsCapacities s (applyPeak s k a b peak) := by
  unfold applyPeak
  dsimp only
  split
  case h_1 | h_2 =>
    split
    · exact keeps_startCycle s k a peak
    · exact .refl s
  case h_3 =>
    have h1 := keeps_onStation s k (fun x => { x with state := .tailing, tail := 1 })
    split
    · split
      · exact h1.trans (keeps_endCycle _ k b)
      · exact h1
    · exact .refl s
  case h_4 =>
    split
    · exact keeps_onStation s k _
    · have h1 := keeps_onStation s k (fun x => { x with tail := x.tail + 1 })
      split
      · exact h1.trans (keeps_endCycle _ k b)
      · exact h1
  case h_5 | h_6 => exact .refl s

/-- A period measurement touches the period record alone. -/
theorem Station.measure_frame (x : Station) (m : Int) : ∃ p n, x.measure m = { x with period := p, rejectRun := n } := by
  unfold Station.measure
  split
  · split <;> exact ⟨_, _, rfl⟩
  · split
    · exact ⟨_, _, rfl⟩
    · split <;> exact ⟨_, _, rfl⟩

theorem Station.crossing_pool (x : Station) (t : SampleTime) : (x.crossing t).pool = x.pool := by
  unfold Station.crossing
  dsimp only
  split
  · split
    · next r _ =>
      obtain ⟨p, n, h⟩ := Station.measure_frame { x with primed := false, history := pushCrossing x.history t } (signedDiff t r)
      rw [h]
    · rfl
  · rfl

theorem Station.sample_pool (x : Station) (t : SampleTime) (v : Int) : (x.sample t v).pool = x.pool := by
  have h1 (up : Bool) : (if up = true then x.crossing t else x).pool = x.pool := by
    split
    · exact x.crossing_pool t
    · rfl
  have h2 (y : Station) (c : Prop) [Decidable c] : (if c then { y with primed := true } else y).pool = y.pool := by
    split <;> rfl
  exact (h2 _ _).trans (h1 _)

theorem Station.scan_pool (vs : List Int) (x : Station) (t : SampleTime) : (x.scan t vs).pool = x.pool := by
  induction vs generalizing x t with
  | nil => rfl
  | cons v rest ih => exact (ih _ _).trans (x.sample_pool t v)

theorem keeps_vibrationBlock (s : State) (k : Fin 4) (vs : List Int) (t : SampleTime) (brk : Bool) :
    KeepsCapacities s (vibrationBlock s k vs t brk) := by
  refine (keeps_onStation s k _ fun h => ?_).trans (keeps_applyPeak _ k t (t + 59) _)
  rw [Station.scan_pool]
  split <;> exact h

theorem keeps_goBlind (s : State) (k : Fin 4) (h : Option SampleTime) (reason : FaultReason) :
    KeepsCapacities s (goBlind s k h reason) := by
  unfold goBlind
  dsimp only
  split
  case h_1 | h_2 => exact .refl s
  all_goals
    have h1 (x : Station) (hx : x.pool = (s.station k).pool) (n : Notice) :
        KeepsCapacities s (handNotice (s.setStation k x) n) :=
      (keeps_setStation s k x fun h => by rwa [hx]).trans (keeps_handNotice _ n)
    split
    · exact (h1 _ (by rfl) _).trans (keeps_formingPass _ k)
    · exact h1 _ (by rfl) _

theorem keeps_leaveBlind (s : State) (k : Fin 4) : KeepsCapacities s (leaveBlind s k) := by
  unfold leaveBlind
  split
  · exact keeps_onStation s k _
  · exact .refl s

/-! ### Lanes (R7 to R23) -/

theorem keeps_faultLane (s : State) (i : Fin 16) (reason : FaultReason) : KeepsCapacities s (faultLane s i reason) := by
  unfold faultLane
  dsimp only
  split
  · exact .refl s
  · next k _ =>
    have h1 : KeepsCapacities s (handHit? (s.setLane i (s.lane i).resetDetector) k ((s.lane i).truncatedHit i)) :=
      (keeps_setLane s i _).trans (keeps_handHit? _ k _)
    have h2 := h1.trans (keeps_onLane _ i (fun l => l.faulted reason) fun _ => Nat.zero_le 4)
    split
    · exact (h2.trans (keeps_handNotice _ _)).trans (keeps_goBlind _ k _ reason)
    · split
      · exact (h2.trans (keeps_handNotice _ _)).trans (keeps_formingPass _ k)
      · exact h2.trans (keeps_handNotice _ _)

theorem keeps_recoverLane (s : State) (i : Fin 16) : KeepsCapacities s (recoverLane s i) := by
  unfold recoverLane
  dsimp only
  split
  · exact .refl s
  · have h1 (x : Lane) (hx : x.queue = (s.lane i).queue) (n : Notice) :
        KeepsCapacities s (handNotice (s.setLane i x) n) :=
      (keeps_setLane s i x fun h => by rwa [hx]).trans (keeps_handNotice _ n)
    split
    · exact (h1 _ (by rfl) _).trans (keeps_leaveBlind _ _)
    · exact h1 _ (by rfl) _

theorem keeps_endTest (s : State) (i : Fin 16) (result : TestResult) : KeepsCapacities s (endTest s i result) := by
  unfold endTest
  split
  · exact .refl s
  · exact (keeps_onLane s i _ (by exact fun _ => Nat.zero_le 4)).trans (keeps_decideCmd _ _ _ _ _)

theorem keeps_testVerdict (s : State) (i : Fin 16) : KeepsCapacities s (testVerdict s i) := by
  unfold testVerdict
  split
  · exact .refl s
  · split
    · exact keeps_endTest s i _
    · exact .refl s

theorem Lane.beginBlock_queue (l : Lane) (b : QueuedBlock) : (l.beginBlock b).queue = l.queue := by
  have hw : ∀ x : Lane, x.restartWindow.queue = x.queue := fun x => by unfold Lane.restartWindow; split <;> rfl
  unfold Lane.beginBlock Lane.markOverload
  dsimp only
  split <;> split <;> simp [Lane.beginAE, Lane.resetDetector, hw]

theorem keeps_beginBlock (s : State) (i : Fin 16) : KeepsCapacities s (beginBlock s i) := by
  unfold beginBlock
  dsimp only
  split
  · split
    case h_1 => exact keeps_setLane s i _
    case h_2 | h_3 | h_4 =>
      exact (keeps_setLane s i _ fun h => by rwa [Lane.beginBlock_queue]).trans (keeps_handHit? _ _ _)
    case h_5 | h_6 => exact .refl s
  · exact .refl s

theorem keeps_advanceHorizon (s : State) (i : Fin 16) (k : Fin 4) (t : SampleTime) (d : Int) :
    KeepsCapacities s (advanceHorizon s i k t d) := by
  unfold advanceHorizon
  dsimp only
  split
  · exact (keeps_setLane s i _).trans (keeps_formingPass _ k)
  · exact keeps_setLane s i _

section
variable {s : State} {i : Fin 16} {b : QueuedBlock} {rest : List QueuedBlock}

/-- A queue keeps its capacity when its head leaves it. -/
theorem rest_length_le (hq : (s.lane i).queue = b :: rest) (h : (s.lane i).queue.length ≤ 4) : rest.length ≤ 4 := by
  rw [hq] at h; exact (Nat.le_succ _).trans h

theorem keeps_endAE (k : Fin 4) (role : Fin 6) (hq : (s.lane i).queue = b :: rest) :
    KeepsCapacities s (endAE s i k role b rest) :=
  (handHits_induct (P := KeepsCapacities s) (fun t h ht => ht.trans (keeps_handHit t k h)) _ _
    (keeps_setLane s i _ (rest_length_le hq))).trans (keeps_advanceHorizon _ i k _ _)

theorem keeps_endVibration (k : Fin 4) (hq : (s.lane i).queue = b :: rest) :
    KeepsCapacities s (endVibration s i k b rest) := by
  have h1 (o : Int) : KeepsCapacities s (s.setLane i { s.lane i with offset := o, queue := rest }) :=
    keeps_setLane s i _ (rest_length_le hq)
  unfold endVibration
  dsimp only
  split
  · exact ((h1 _).trans (keeps_vibrationBlock _ k _ _ _)).trans (keeps_advanceHorizon _ i k _ _)
  · exact (h1 _).trans (keeps_advanceHorizon _ i k _ _)

theorem keeps_endTestBlock (r : TestRun) (hq : (s.lane i).queue = b :: rest) :
    KeepsCapacities s (endTestBlock s i r b rest) :=
  (keeps_onLane s i _ (rest_length_le hq)).trans (keeps_testVerdict _ i)

end

theorem keeps_endBlock (s : State) (i : Fin 16) : KeepsCapacities s (endBlock s i) := by
  unfold endBlock
  dsimp only
  split
  · next b rest m hq _ =>
    refine KeepsCapacities.trans ?_ (keeps_beginBlock _ i)
    split
    · exact keeps_endTestBlock _ hq
    · split
      · exact keeps_endAE _ _ hq
      · exact keeps_endVibration _ hq
  · exact .refl s

/-- R11: a block enters a queue with room. -/
theorem keeps_enterQueue (s : State) (i : Fin 16) (d : BlockData) (gap : Bool) (p : Nat) (unseed : Bool)
    (h : (s.lane i).queue.length < 4) : KeepsCapacities s (enterQueue s i d gap p unseed) := by
  have h1 (x : QueuedBlock) :
      KeepsCapacities s (s.setLane i { s.lane i with queue := (s.lane i).queue ++ [x], breakDue := false }) :=
    keeps_setLane s i _ fun _ => by simpa using h
  unfold enterQueue
  dsimp only
  split
  · exact (h1 _).trans (keeps_beginBlock _ i)
  · exact h1 _

theorem Lane.hasRoom_iff (l : Lane) : l.hasRoom = true ↔ l.queue.length < 4 := by simp [Lane.hasRoom, Config.analysisQueueMax]

theorem keeps_offerBlock (s : State) (i : Fin 16) (d : BlockData) (gap : Bool) (p : Nat) :
    KeepsCapacities s (offerBlock s i d gap p) := by
  unfold offerBlock
  split
  · next h => exact keeps_enterQueue s i d gap p false ((Lane.hasRoom_iff _).mp h)
  · exact keeps_onLane s i _

theorem keeps_testGood (s : State) (i : Fin 16) (r : TestRun) (d : BlockData) (missing p : Nat) :
    KeepsCapacities s (testGood s i r d missing p) := by
  have h1 (r' : TestRun) : KeepsCapacities s (s.onLane i fun l => { l with test := some r' }) := keeps_onLane s i _
  unfold testGood
  dsimp only
  split
  · split
    · split
      · next h =>
        refine (h1 _).trans (keeps_enterQueue _ i d _ p _ ?_)
        rw [State.lane_onLane]; exact (Lane.hasRoom_iff _).mp h
      · exact (h1 _).trans (keeps_onLane _ i _)
    · exact h1 _
  · exact h1 _

theorem keeps_testBad (s : State) (i : Fin 16) (r : TestRun) : KeepsCapacities s (testBad s i r) := by
  unfold testBad
  split
  · exact keeps_onLane s i _
  · exact .refl s

theorem keeps_goodBlock (s : State) (i : Fin 16) (d : BlockData) (missing p : Nat) :
    KeepsCapacities s (goodBlock s i d missing p) := by
  have h1 : KeepsCapacities s (extendRange (s.onLane i fun l => l.checkedGood d missing) i p d.first) :=
    (keeps_onLane s i _).trans (keeps_setSeg _ i _)
  unfold goodBlock
  dsimp only
  split
  · split
    · exact (h1.trans (keeps_onLane _ i _)).trans (keeps_recoverLane _ i)
    · exact h1.trans (keeps_onLane _ i _)
  · exact (h1.trans (keeps_testGood _ i _ d missing p)).trans (keeps_testVerdict _ i)
  · exact h1
  · exact h1
  · exact h1.trans (keeps_offerBlock _ i d _ p)

theorem keeps_badBlock (s : State) (i : Fin 16) (reason : FaultReason) : KeepsCapacities s (badBlock s i reason) := by
  have h1 : KeepsCapacities s (s.onLane i fun l => { l with badBlocks := sat16 l.badBlocks 1 }) := keeps_onLane s i _
  unfold badBlock
  dsimp only
  split
  · exact h1.trans (keeps_onLane _ i _)
  · exact (h1.trans (keeps_testBad _ i _)).trans (keeps_testVerdict _ i)
  · exact h1
  · exact h1
  · split
    · exact (h1.trans (keeps_onLane _ i _)).trans (keeps_faultLane _ i reason)
    · exact h1.trans (keeps_onLane _ i _)

theorem keeps_laneSeesWrite (s : State) (i : Fin 16) (t : Transfer) (p : Nat) :
    KeepsCapacities s (laneSeesWrite s i t p) := by
  have h1 : KeepsCapacities s (s.onLane i fun l => { l with silenceTimer := l.silenceTimer.map fun _ => 0 }) :=
    keeps_onLane s i _
  unfold laneSeesWrite
  dsimp only
  split
  · exact h1.trans (keeps_goodBlock _ i _ _ p)
  · exact h1.trans (keeps_badBlock _ i _)

end Sys2Proof.Machine
end

section
/-! ## Capacities: commands, memory path and the step -/

namespace Sys2Proof.Machine

open Sys2Proof.Safety

set_option Elab.async false

/-! ### The reset state (R141) -/

theorem State.lane_reset (i : Fin 16) : State.reset.lane i = Lane.reset := by
  simp [State.lane, State.reset, Vector.get_eq_getElem]
theorem State.station_reset (k : Fin 4) : State.reset.station k = Station.reset := by
  simp [State.station, State.reset, Vector.get_eq_getElem]
theorem State.seg_reset (i : Fin 16) : State.reset.seg i = Segs.reset := by
  simp [State.seg, State.reset, Vector.get_eq_getElem]

theorem laneQueueLaw_reset : LaneQueueLaw State.reset := fun i => by rw [State.lane_reset]; exact Nat.zero_le 4
theorem ownQueueLaw_reset : OwnQueueLaw State.reset := Nat.zero_le 8
theorem starvationLaw_reset : StarvationLaw State.reset := Nat.zero_le 8
theorem noticeQueueLaw_reset : NoticeQueueLaw State.reset := Nat.zero_le 64
theorem poolLaw_reset : PoolLaw State.reset := fun k => by rw [State.station_reset]; exact Nat.zero_le 64
theorem holdListLaw_reset : HoldListLaw State.reset := Nat.zero_le 64

/-- A state that is the reset state in all that a capacity bounds meets every capacity. -/
theorem keeps_of_reset {s t : State} (h : KeepsCapacities State.reset t) : KeepsCapacities s t where
  laneQueue _ := h.laneQueue laneQueueLaw_reset
  ownQueue _ := h.ownQueue ownQueueLaw_reset
  starvation _ := h.starvation starvationLaw_reset
  noticeQueue _ := h.noticeQueue noticeQueueLaw_reset
  pool _ := h.pool poolLaw_reset
  holdList _ := h.holdList holdListLaw_reset

/-! ### The lane and station commands -/

theorem keeps_mapLaneEffect (s : State) (i : Fin 16) (m : Mapping) : KeepsCapacities s (mapLaneEffect s i m) :=
  (keeps_setLane s i _ (by exact fun _ => Nat.zero_le 4)).trans (keeps_discardHolds _ i _)

theorem keeps_startMapLane (c : Cmd) (s : State) : KeepsCapacities s (startMapLane c s) := by
  unfold startMapLane
  split
  · exact keeps_refuse s _ _
  · split
    · exact keeps_refuse s _ _
    · exact (keeps_mapLaneEffect s _ _).trans (keeps_complete _ _ _)

theorem keeps_startUnmapLane (c : Cmd) (s : State) : KeepsCapacities s (startUnmapLane c s) := by
  unfold startUnmapLane
  dsimp only
  split
  · exact keeps_refuse s _ _
  · next i _ =>
    split
    · exact keeps_refuse s _ _
    · split
      · exact keeps_refuse s _ _
      · split
        · exact keeps_complete s _ _
        · exact ((keeps_setLane s i _ (by exact fun _ => Nat.zero_le 4)).trans (keeps_discardHolds _ i _)).trans
            (keeps_complete _ _ _)

theorem keeps_silenceCheck (s : State) (i : Fin 16) : KeepsCapacities s (silenceCheck s i) := by
  unfold silenceCheck
  split
  · exact keeps_faultLane s i _
  · exact .refl s

theorem keeps_startSetLaneConditioning (c : Cmd) (s : State) : KeepsCapacities s (startSetLaneConditioning c s) := by
  unfold startSetLaneConditioning
  dsimp only
  split
  · next i _ _ _ =>
    split
    · exact keeps_refuse s _ _
    · exact ((keeps_onLane s i _).trans (keeps_complete _ _ _)).trans (keeps_silenceCheck _ i)
  · exact keeps_refuse s _ _

theorem keeps_runCmd (s : State) (slot : Fin 32) : KeepsCapacities s (runCmd s slot) := .of_same

theorem keeps_startTestLane (c : Cmd) (s : State) : KeepsCapacities s (startTestLane c s) := by
  unfold startTestLane
  dsimp only
  split
  · exact keeps_refuse s _ _
  · next i _ =>
    split
    · exact keeps_refuse s _ _
    · split
      · exact keeps_refuse s _ _
      · exact (keeps_runCmd s _).trans (keeps_onLane _ i _ (by exact fun _ => Nat.zero_le 4))

theorem keeps_startSetDetection (c : Cmd) (s : State) : KeepsCapacities s (startSetDetection c s) := by
  unfold startSetDetection
  dsimp only
  split
  · next i _ _ _ _ _ =>
    split
    · exact keeps_refuse s _ _
    · split
      · exact keeps_refuse s _ _
      · exact (keeps_onLane s i _).trans (keeps_complete _ _ _)
  · exact keeps_refuse s _ _

theorem keeps_startSetStation (c : Cmd) (s : State) : KeepsCapacities s (startSetStation c s) := by
  unfold startSetStation
  dsimp only
  split
  · next k _ _ _ =>
    split
    · exact keeps_refuse s _ _
    · split
      · exact keeps_refuse s _ _
      · exact (keeps_onStation s k _).trans (keeps_complete _ _ _)
  · exact keeps_refuse s _ _

/-- The lanes of a station changed by `f`, read back. -/
theorem State.lane_onLanesOf (s : State) (k : Fin 4) (f : Lane → Lane) (i : Fin 16) :
    (onLanesOf s k f).lane i = if (s.lane i).serves k then f (s.lane i) else s.lane i := by
  simp only [State.lane, onLanesOf, Vector.get_eq_getElem, Vector.getElem_map]
  rfl

theorem keeps_onLanesOf (s : State) (k : Fin 4) (f : Lane → Lane)
    (hf : ∀ l : Lane, l.queue.length ≤ 4 → (f l).queue.length ≤ 4) : KeepsCapacities s (onLanesOf s k f) := by
  refine .of_lanes fun i h => ?_
  rw [State.lane_onLanesOf]
  split
  · exact hf _ h
  · exact h

theorem Lane.atStart_queue (l : Lane) (st : StationState) : (l.atStart st).queue = l.queue := by
  unfold Lane.atStart; split <;> rfl

theorem keeps_startStartStation (c : Cmd) (s : State) : KeepsCapacities s (startStartStation c s) := by
  unfold startStartStation
  dsimp only
  split
  · exact keeps_refuse s _ _
  · next k _ =>
    split
    · exact keeps_refuse s _ _
    · split
      · exact keeps_refuse s _ _
      · exact ((keeps_onStation s k _).trans (keeps_onLanesOf _ k _ fun l h => by rwa [Lane.atStart_queue])).trans
          (keeps_complete _ _ _)

/-- A lane at Stop Station keeps its queue or is left with an empty one. -/
theorem Lane.atStop_queue (l : Lane) : l.atStop.queue = l.queue ∨ l.atStop.queue = [] := by
  unfold Lane.atStop
  split
  case h_1 | h_2 | h_3 => exact .inr rfl
  case h_4 | h_5 | h_6 => exact .inl rfl

theorem keeps_startStopStation (c : Cmd) (s : State) : KeepsCapacities s (startStopStation c s) := by
  have hstop : ∀ l : Lane, l.queue.length ≤ 4 → l.atStop.queue.length ≤ 4 := fun l h => by
    rcases l.atStop_queue with e | e <;> rw [e]
    · exact h
    · exact Nat.zero_le 4
  unfold startStopStation
  split
  · exact keeps_refuse s _ _
  · next k _ =>
    split
    · exact keeps_complete s _ _
    · exact ((keeps_onStation s k _ (by exact fun _ => Nat.zero_le 64)).trans (keeps_onLanesOf _ k _ hstop)).trans
        (keeps_complete _ _ _)

theorem keeps_startSetLocationLine (c : Cmd) (s : State) : KeepsCapacities s (startSetLocationLine c s) := by
  unfold startSetLocationLine
  dsimp only
  split
  · next k _ _ _ _ _ =>
    split
    · exact keeps_refuse s _ _
    · split
      · exact keeps_refuse s _ _
      · exact (keeps_onStation s k _).trans (keeps_complete _ _ _)
  · exact keeps_refuse s _ _

theorem keeps_startSetMapCriteria (c : Cmd) (s : State) : KeepsCapacities s (startSetMapCriteria c s) := by
  unfold startSetMapCriteria
  dsimp only
  split
  · exact keeps_refuse s _ _
  · next k _ => exact (keeps_onStation s k _).trans (keeps_complete _ _ _)

theorem keeps_startClearCells (c : Cmd) (s : State) : KeepsCapacities s (startClearCells c s) := by
  unfold startClearCells
  dsimp only
  split
  · exact keeps_refuse s _ _
  · next k _ =>
    split
    · exact keeps_refuse s _ _
    · exact (keeps_onStation s k _).trans (keeps_complete _ _ _)

/-! ### The other commands -/

theorem keeps_startCopyMap (c : Cmd) (s : State) : KeepsCapacities s (startCopyMap c s) := by
  unfold startCopyMap
  dsimp only
  split
  · exact keeps_refuse s _ _
  · split
    · exact keeps_refuse s _ _
    · split
      · exact keeps_refuse s _ _
      · exact .of_same

theorem keeps_startHoldSegment (c : Cmd) (s : State) : KeepsCapacities s (startHoldSegment c s) := by
  unfold startHoldSegment
  dsimp only
  split
  · exact keeps_refuse s _ _
  · split
    · exact keeps_refuse s _ _
    · split
      · exact keeps_refuse s _ _
      · split
        · next hm => exact (keeps_makePending s _ _ _ (holds_lt_of_pinCase_made hm)).trans (keeps_complete _ _ _)
        · exact keeps_complete s _ _
        · exact keeps_complete s _ _
        · exact keeps_decideCmd s _ _ _ _
        · exact keeps_decideCmd s _ _ _ _

theorem keeps_startReleaseHold (c : Cmd) (s : State) : KeepsCapacities s (startReleaseHold c s) := by
  unfold startReleaseHold
  dsimp only
  split
  · exact keeps_refuse s _ _
  · split
    · exact keeps_refuse s _ _
    · split
      · exact keeps_refuse s _ _
      · split
        · exact keeps_refuse s _ _
        · split
          · exact keeps_refuse s _ _
          · exact (keeps_releaseAll s _ _).trans (keeps_complete _ _ _)

theorem keeps_abortTarget (s : State) (c : Cmd) : KeepsCapacities s (abortTarget s c) := by
  unfold abortTarget
  split
  · exact keeps_decideCmd s _ _ _ _
  · split
    · split
      · exact keeps_endTest s _ _
      · exact .refl s
    · exact .of_same
    · exact .of_same
    · exact .refl s
  · exact .refl s

theorem keeps_abortTargets (s : State) (ts : List Cmd) : KeepsCapacities s (ts.foldl abortTarget s) :=
  abortTargets_induct (P := KeepsCapacities s) (fun t c h => h.trans (keeps_abortTarget t c)) ts s (.refl s)

theorem keeps_startAbort (c : Cmd) (s : State) : KeepsCapacities s (startAbort c s) := by
  unfold startAbort
  dsimp only
  split
  · exact keeps_refuse s _ _
  · split
    · exact keeps_decideCmd s _ _ _ _
    · exact (keeps_abortTargets s _).trans (keeps_complete _ _ _)

theorem keeps_startRestart (c : Cmd) (s : State) : KeepsCapacities s (startRestart c s) := by
  refine ((keeps_runCmd s c.slot).trans (keeps_abortTargets _ (abortTargets s c.slot 0xFFFF))).trans ?_
  exact ⟨id, id, id, id, id, id⟩

theorem keeps_staleWrites (s : State) (c : Client) : KeepsCapacities s (staleWrites s c) :=
  .of_path (by simp [staleWrites]) id

theorem keeps_startSetNoticeRing (c : Cmd) (s : State) : KeepsCapacities s (startSetNoticeRing c s) := by
  unfold startSetNoticeRing
  dsimp only
  split
  · exact keeps_refuse s _ _
  · split
    · exact keeps_refuse s _ _
    · exact (keeps_staleWrites s .noticeWriter).trans (.of_same (hn := by simp [NoticeWriter.setRing]))

theorem keeps_startSetStatusBlock (c : Cmd) (s : State) : KeepsCapacities s (startSetStatusBlock c s) := by
  unfold startSetStatusBlock
  dsimp only
  split
  · exact keeps_refuse s _ _
  · split
    · exact keeps_refuse s _ _
    · have h1 := keeps_staleWrites s .statusWriter
      split
      · exact h1.trans .of_same
      · exact h1.trans .of_same

theorem keeps_startWriteStatus (c : Cmd) (s : State) : KeepsCapacities s (startWriteStatus c s) := by
  unfold startWriteStatus
  split
  · exact keeps_refuse s _ _
  · exact keeps_refuse s _ _
  · exact .of_same
  · exact .of_same

/-! ### The memory path -/

/-- R160: consumption leaves the internal queue alone. -/
theorem NoticeWriter.consume_queue (w : NoticeWriter) (entries n : Nat) : (w.consume entries n).queue = w.queue := by
  unfold NoticeWriter.consume; split <;> rfl

theorem keeps_reportRead (s : State) (offsets : List Nat) (accepted : Nat) :
    KeepsCapacities s (reportRead s offsets accepted) := by
  unfold reportRead
  split
  · exact .refl s
  · exact .of_same (hn := by simp [NoticeWriter.consume_queue])

theorem keeps_returnResponse (s : State) (a : Accepted) (ans : Answer) (ring : List Nat) :
    KeepsCapacities s (returnResponse s a ans ring) := by
  unfold returnResponse
  dsimp only
  split
  · refine KeepsCapacities.trans ?_ (keeps_reportRead _ _ _)
    exact ⟨id, id, id, id, id, id⟩
  · exact ⟨id, id, id, id, id, id⟩

theorem keeps_deliverAll (s : State) (m : Fin 16) : KeepsCapacities s (deliverAll s m) :=
  deliver_induct (P := KeepsCapacities s) m (fun t a x l _ _ h => h.trans (keeps_returnResponse t a x l)) _ s (.refl s)

theorem keeps_acceptTransfer (s : State) (x : Arrived) : KeepsCapacities s (acceptTransfer s x) := by
  refine KeepsCapacities.trans ?_ (keeps_deliverAll _ _)
  exact ⟨id, id, id, id, id, id⟩

theorem keeps_laneWrite (s : State) (i : Fin 16) (m : Mapping) (t : Transfer) :
    KeepsCapacities s (laneWrite s i m t).1 := by
  unfold laneWrite
  dsimp only
  split
  · exact (keeps_reportWrite s i m _).trans (keeps_laneSeesWrite _ i t _)
  · exact keeps_onLane s i _

theorem keeps_writeEffects (s : State) (t : Transfer) : KeepsCapacities s (writeEffects s t).1 := by
  unfold writeEffects
  split
  · exact keeps_laneWrite s _ _ t
  · split
    · exact .of_same
    · exact .refl s

theorem keeps_setPhase (s : State) (id : Nat) (ph : Phase) : KeepsCapacities s (setPhase s id ph) :=
  ⟨fun h => h, fun h => h, fun h => h, fun h => h, fun h => h, fun h => h⟩
theorem keeps_putOut (s : State) (x : PortIssue) : KeepsCapacities s (putOut s x) := ⟨id, id, id, id, id, id⟩

/-- R138: an issue raises the starvation count only below 8. -/
theorem keeps_issueForwarded (s : State) (a : Accepted) (h : waitingOwn s = none ∨ s.path.starvation < 8) :
    KeepsCapacities s (issueForwarded s a) := by
  have h0 : KeepsCapacities s { s with path := { s.path with
      starvation := if (waitingOwn s).isSome then s.path.starvation + 1 else 0 } } := by
    refine .of_path id fun _ => ?_
    rcases h with h | h
    · simp [h]
    · dsimp only
      split
      · exact h
      · exact Nat.zero_le 8
  unfold issueForwarded
  dsimp only
  split
  · exact ((h0.trans (keeps_writeEffects _ a.t)).trans (keeps_setPhase _ _ _)).trans (keeps_putOut _ _)
  · exact (h0.trans (keeps_setPhase _ _ _)).trans (keeps_putOut _ _)

theorem keeps_issueOwn (s : State) (w : OwnWrite) : KeepsCapacities s (issueOwn s w) :=
  (KeepsCapacities.of_path (by simp) fun _ => Nat.zero_le 8).trans (keeps_putOut _ _)

theorem keeps_reportOwn (s : State) (w : OwnWrite) (r : Response) : KeepsCapacities s (reportOwn s w r) := by
  unfold reportOwn
  split
  · split
    · exact .of_same
    · exact .refl s
  · split
    · exact .of_same
    · exact .refl s
  · split
    · exact .of_same
    · exact .of_same
  · exact .of_same

theorem keeps_settleAwaiting (s : State) (id : Nat) : KeepsCapacities s (settleAwaiting s id) := .of_same

theorem keeps_answerOwn (s : State) (w : OwnWrite) (r : Response) : KeepsCapacities s (answerOwn s w r) := by
  unfold answerOwn
  refine KeepsCapacities.trans (KeepsCapacities.trans ?_ (keeps_reportOwn _ w r)) (keeps_settleAwaiting _ w.id)
  exact .of_path (fun h => (List.length_filter_le _ _).trans h) id

/-! ### Every command, and the step -/

theorem keeps_execTransferArrival {t : Transfer} {s u : State} (h : execTransferArrival t s = .next u) :
    KeepsCapacities s u := by
  unfold execTransferArrival at h
  split at h <;> cases h
  exact .of_same

theorem keeps_execTransferAcceptance {m : Fin 16} {s u : State} (h : execTransferAcceptance m s = .next u) :
    KeepsCapacities s u := by
  unfold execTransferAcceptance at h
  split at h
  · split at h <;> cases h
    · exact (keeps_acceptTransfer s _).trans (keeps_commit s _)
    · exact .refl s
  · cases h; exact .refl s

theorem keeps_execForwardedIssue {s u : State} (h : execForwardedIssue s = .next u) : KeepsCapacities s u := by
  unfold execForwardedIssue at h
  split at h
  · split at h <;> cases h
    · next a _ hg =>
      have hs : waitingOwn s = none ∨ s.path.starvation < 8 := by
        simp only [Bool.and_eq_true, Bool.or_eq_true, Option.isNone_iff_eq_none, decide_eq_true_eq] at hg
        exact hg.2
      exact (keeps_issueForwarded s a hs).trans (keeps_commit s _)
    · exact .refl s
  · cases h; exact .refl s

theorem keeps_execForwardedResponse {id : Nat} {a : Answer} {s u : State} (h : execForwardedResponse id a s = .next u) :
    KeepsCapacities s u := by
  unfold execForwardedResponse at h
  split at h
  · split at h
    · split at h <;> cases h
      · exact .refl s
      · exact ((keeps_setPhase s _ _).trans (keeps_deliverAll _ _)).trans (keeps_commit s _)
    · cases h; exact .refl s
  · cases h

theorem keeps_execOwnWriteIssue {s u : State} (h : execOwnWriteIssue s = .next u) : KeepsCapacities s u := by
  unfold execOwnWriteIssue at h
  split at h
  · split at h <;> cases h
    · exact (keeps_issueOwn s _).trans (keeps_commit s _)
    · exact .refl s
  · cases h; exact .refl s

theorem keeps_execOwnWriteResponse {id : Nat} {r : Response} {s u : State} (h : execOwnWriteResponse id r s = .next u) :
    KeepsCapacities s u := by
  unfold execOwnWriteResponse at h
  split at h
  · split at h <;> cases h
    · exact .refl s
    · exact (keeps_answerOwn s _ r).trans (keeps_commit s _)
  · cases h; exact .refl s

theorem keeps_execStrayResponse {a : Answer} {s u : State} (h : execStrayResponse a s = .next u) :
    KeepsCapacities s u := by
  unfold execStrayResponse at h
  split at h <;> cases h
  exact .refl s

theorem keeps_execResetNAssertion {s u : State} (h : execResetNAssertion s = .next u) : KeepsCapacities s u := by
  unfold execResetNAssertion at h
  cases h
  split
  · exact .refl s
  · exact keeps_of_reset ⟨id, id, id, id, id, id⟩

theorem keeps_execResetNRelease {straps : BitVec 8} {s u : State} (h : execResetNRelease straps s = .next u) :
    KeepsCapacities s u := by
  unfold execResetNRelease at h
  cases h
  split
  · exact .of_same
  · exact .refl s

/-- An event whose effect, when its condition holds, keeps the capacities. -/
theorem keeps_guarded {g : Bool} {s v u : State} (hv : KeepsCapacities s v)
    (h : (if g then Host.Outcome.next (commit s v) else .next s : Reply) = .next u) : KeepsCapacities s u := by
  split at h <;> cases h
  · exact hv.trans (keeps_commit s v)
  · exact .refl s

theorem keeps_execQuietTimeout {k : Fin 4} {s u : State} (h : execQuietTimeout k s = .next u) : KeepsCapacities s u :=
  keeps_guarded ((keeps_onStation s k _).trans (keeps_handNotice _ _)) h

/-- R158: a written notice leaves the internal queue no longer than it was. -/
theorem NoticeWriter.written_queue (w : NoticeWriter) (r : Ring) (n : Notice) (stamp : Nat) :
    (w.written r n stamp).queue.length ≤ w.queue.length := by
  unfold NoticeWriter.written
  dsimp only
  split
  · exact le_rfl
  · simp

theorem keeps_execNoticeWriteHandOn {s u : State} (h : execNoticeWriteHandOn s = .next u) : KeepsCapacities s u := by
  unfold execNoticeWriteHandOn at h
  split at h
  · next hm =>
    split at h <;> cases h
    · next r n _ _ =>
      have h1 := keeps_handOn s (.noticeWriter true) (r.base + BitVec.ofNat 32 (32 * s.notices.p))
        (beatsOf 4 (noticeBytes (s.notices.sequence + 1) n)) (mayHandOn_room hm)
      refine KeepsCapacities.trans ?_ (keeps_commit s _)
      exact ⟨h1.laneQueue, h1.ownQueue, h1.starvation, fun hq => (NoticeWriter.written_queue _ _ _ _).trans hq, h1.pool,
        h1.holdList⟩
    · exact .refl s
  · cases h; exact .refl s

theorem keeps_execStatusPartHandOn {s u : State} (h : execStatusPartHandOn s = .next u) : KeepsCapacities s u := by
  unfold execStatusPartHandOn at h
  split at h
  · next hm =>
    split at h <;> cases h
    · exact ((keeps_handOn s _ _ _ (mayHandOn_room hm)).trans (by exact ⟨id, id, id, id, id, id⟩)).trans (keeps_commit s _)
    · exact .refl s
  · cases h; exact .refl s

theorem keeps_execSnapshotWriteHandOn {slot : Fin 32} {s u : State} (h : execSnapshotWriteHandOn slot s = .next u) :
    KeepsCapacities s u := by
  unfold execSnapshotWriteHandOn at h
  split at h
  · next hm =>
    split at h <;> cases h
    · exact ((keeps_handOn s _ _ _ (mayHandOn_room hm)).trans (by exact ⟨id, id, id, id, id, id⟩)).trans (keeps_commit s _)
    · exact .refl s
  · cases h; exact .refl s

theorem keeps_execCompletion {s u : State} (h : execCompletion s = .next u) : KeepsCapacities s u := by
  unfold execCompletion at h
  split at h
  · next hm =>
    have hp : placeFor s .commandUnit = true := by
      simp only [mayHandOn, Bool.and_eq_true] at hm; exact hm.2
    split at h <;> cases h
    · exact (keeps_completeHead s _ _ hp).trans (keeps_commit s _)
    · exact .refl s
  · cases h; exact .refl s

theorem keeps_execQueueDrained {s u : State} (h : execQueueDrained s = .next u) : KeepsCapacities s u := by
  unfold execQueueDrained at h
  split at h <;> cases h
  · next r hr =>
    have hown : s.path.own = [] := by
      unfold drained at hr
      split at hr
      · split at hr
        · next hg => simp only [Bool.and_eq_true, List.isEmpty_iff] at hg; exact hg.1.1.2
        · cases hr
      · cases hr
    exact keeps_of_reset ⟨id, fun _ => (congrArg List.length hown).trans_le (Nat.zero_le 8), id, id, id, id⟩
  · exact .refl s

theorem keeps_exec {c : Instr} {s u : State} (h : exec c s = .next u) : KeepsCapacities s u := by
  cases c with
  | transferArrival t => exact keeps_execTransferArrival h
  | transferAcceptance m => exact keeps_execTransferAcceptance h
  | forwardedIssue => exact keeps_execForwardedIssue h
  | forwardedResponse id a => exact keeps_execForwardedResponse h
  | ownWriteIssue => exact keeps_execOwnWriteIssue h
  | ownWriteResponse id r => exact keeps_execOwnWriteResponse h
  | strayResponse a => exact keeps_execStrayResponse h
  | resetNAssertion => exact keeps_execResetNAssertion h
  | resetNRelease straps => exact keeps_execResetNRelease h
  | silenceTimeout i => exact keeps_guarded (keeps_faultLane s i .silent) h
  | blockAnalysisEnd i => exact keeps_guarded (keeps_endBlock s i) h
  | testTimeout i => exact keeps_guarded (keeps_endTest s i .timeout) h
  | quietTimeout k => exact keeps_execQuietTimeout h
  | noticeWriteHandOn => exact keeps_execNoticeWriteHandOn h
  | statusWriteStart => exact keeps_guarded (.of_same (s := s)) h
  | statusPartHandOn => exact keeps_execStatusPartHandOn h
  | snapshotWriteHandOn slot => exact keeps_execSnapshotWriteHandOn h
  | completion => exact keeps_execCompletion h
  | badKind => exact keeps_startStep (fun c => keeps_decideCmd s _ _ _ _) h
  | mapLane => exact keeps_startStep (keeps_startMapLane · s) (show execMapLane s = .next u from h)
  | unmapLane => exact keeps_startStep (keeps_startUnmapLane · s) (show execUnmapLane s = .next u from h)
  | setLaneConditioning => exact keeps_startStep (keeps_startSetLaneConditioning · s) (show execSetLaneConditioning s = .next u from h)
  | testLane => exact keeps_startStep (keeps_startTestLane · s) (show execTestLane s = .next u from h)
  | setDetection => exact keeps_startStep (keeps_startSetDetection · s) (show execSetDetection s = .next u from h)
  | setStation => exact keeps_startStep (keeps_startSetStation · s) (show execSetStation s = .next u from h)
  | startStation => exact keeps_startStep (keeps_startStartStation · s) (show execStartStation s = .next u from h)
  | stopStation => exact keeps_startStep (keeps_startStopStation · s) (show execStopStation s = .next u from h)
  | setLocationLine => exact keeps_startStep (keeps_startSetLocationLine · s) (show execSetLocationLine s = .next u from h)
  | setMapCriteria => exact keeps_startStep (keeps_startSetMapCriteria · s) (show execSetMapCriteria s = .next u from h)
  | clearCells => exact keeps_startStep (keeps_startClearCells · s) (show execClearCells s = .next u from h)
  | copyMap => exact keeps_startStep (keeps_startCopyMap · s) (show execCopyMap s = .next u from h)
  | holdSegment => exact keeps_startStep (keeps_startHoldSegment · s) (show execHoldSegment s = .next u from h)
  | releaseHold => exact keeps_startStep (keeps_startReleaseHold · s) (show execReleaseHold s = .next u from h)
  | abort => exact keeps_startStep (keeps_startAbort · s) (show execAbort s = .next u from h)
  | restart => exact keeps_startStep (keeps_startRestart · s) (show execRestart s = .next u from h)
  | queueDrained => exact keeps_execQueueDrained h
  | setNoticeRing => exact keeps_startStep (keeps_startSetNoticeRing · s) (show execSetNoticeRing s = .next u from h)
  | setStatusBlock => exact keeps_startStep (keeps_startSetStatusBlock · s) (show execSetStatusBlock s = .next u from h)
  | writeStatus => exact keeps_startStep (keeps_startWriteStatus · s) (show execWriteStatus s = .next u from h)

theorem keeps_tick (s : State) : KeepsCapacities s (tick s) := by
  unfold tick
  split
  · exact .refl s
  · refine (KeepsCapacities.of_lanes (s := s) (t := { s with lanes := s.lanes.map Lane.tick }) fun i h => ?_).trans
      (KeepsCapacities.trans (.of_stations (t := { s with
        lanes := s.lanes.map Lane.tick, stations := s.stations.map Station.tick }) fun k h => ?_) .of_same)
    · simpa [State.lane, Vector.get_eq_getElem, Lane.tick] using h
    · simpa [State.station, Vector.get_eq_getElem, Station.tick] using h

theorem keeps_step {s t : State} (h : step s = .next t) : KeepsCapacities s t := by
  unfold step at h
  split at h
  · cases h; exact keeps_tick s
  · exact (KeepsCapacities.of_same (s := s)).trans (keeps_exec h)

/-- Settles O55: every operation keeps each capacity (`KeepsCapacities`), so every step does. -/
theorem capacitiesKept : Obligations.CapacitiesKept := fun _ _ h =>
  have hk := keeps_step h
  ⟨hk.laneQueue, hk.ownQueue, hk.starvation, hk.noticeQueue, hk.pool, hk.holdList⟩

end Sys2Proof.Machine
end

section
/-! ## The lane and station commands that pass their tests (R2 to R5, R20, R48, R49) -/

namespace Sys2Proof.Machine

open Sys2Proof.Safety

set_option Elab.async false

/-! ### The start of a command of a kind -/

/-- R147: the command that starts next, being of the kind, starts whole. -/
theorem startStep_of_starts {s : State} {c : Cmd} {kind : Nat} {f : Cmd → State → State} (h : Starts s c kind) :
    startStep (· == kind) f s = .next (commit s (completeStarted c (f c s))) :=
  startStep_starts f h.1 (by simpa using h.2)

/-- R147: a started command of the kind whose tests refuse it. -/
theorem startStep_refused {s : State} {c : Cmd} {kind : Nat} {f : Cmd → State → State} {r : Result} (hl : CommandLaw s)
    (h : Starts s c kind) (hf : f c s = refuse s c.slot r) : startStep (· == kind) f s = refused s c r := by
  rw [startStep_of_starts h, hf]; exact refuse_started r hl h.1

/-- R148: a started command of the kind that has the effect `u` and completes at start. -/
theorem startStep_completes {s u : State} {c : Cmd} {kind : Nat} {f : Cmd → State → State} {n : Nat} (hl : CommandLaw s)
    (h : Starts s c kind) (hf : f c s = complete u c.slot n) (hu : u.cmd = s.cmd) :
    startStep (· == kind) f s
      = .next (commit s (completeStarted c { u with cmd := ended s.cmd c .done (BitVec.ofNat 16 n) })) := by
  rw [startStep_of_starts h, hf, complete_started n hl h.1 hu]

/-! ### Map Lane (R2, R3) -/

/-- R2, step 1: what the structural fields of a Map Lane record have to be. -/
structure MapFields (l : List Byte) (lane : Fin 16) (m : Mapping) : Prop where
  lane : u8 l 4 = lane.val
  station : u8 l 5 = m.station.val
  role : roleOf (u8 l 6) = some m.role
  master : u8 l 7 = m.master.val
  base : u32 l 8 = m.base.toNat
  blocks : u16 l 12 = m.blocks
  logical : u8 l 14 = m.logical
  spares : u8 l 15 = m.spares
  master_le : m.master.val ≤ 14
  aligned : u32 l 8 % 4096 = 0
  blocks_mem : m.blocks ∈ [32, 64, 128, 256, 512, 1024]
  two_le_logical : 2 ≤ m.logical
  logical_le : m.logical ≤ 12
  spares_le : m.spares ≤ 4
  fits : u32 l 8 + m.windowSize ≤ 4294967296

theorem blocksOk_iff (b : Nat) : blocksOk b = true ↔ b ∈ [32, 64, 128, 256, 512, 1024] := by
  unfold blocksOk; exact List.contains_iff_mem

theorem laneOf_some {n : Nat} {i : Fin 16} (h : laneOf n = some i) : n = i.val := by
  unfold laneOf at h; split at h <;> cases h; rfl

theorem stationOf_some {n : Nat} {k : Fin 4} (h : stationOf n = some k) : n = k.val := by
  unfold stationOf at h; split at h <;> cases h; rfl

/-- A byte is below 256, and so on for wider fields. -/
theorem u8_lt (l : List Byte) (i : Nat) : u8 l i < 256 := (byteAt l i).isLt
theorem u16_lt (l : List Byte) (i : Nat) : u16 l i < 65536 := by
  have h0 := u8_lt l i
  have h1 := u8_lt l (i + 1)
  unfold u16; omega
theorem u32_lt (l : List Byte) (i : Nat) : u32 l i < 4294967296 := by
  have h0 := u16_lt l i
  have h1 := u16_lt l (i + 2)
  unfold u32; omega

theorem mapParams_some_iff (l : List Byte) (lane : Fin 16) (m : Mapping) :
    mapParams l = some (lane, m) ↔ MapFields l lane m := by
  constructor
  · intro h
    unfold mapParams at h
    split at h
    · next i k role master h4 h5 h6 h7 =>
      dsimp only at h
      split at h
      · next hb =>
        obtain ⟨hm, ha, hbl, h2, h12, hs, -, hf⟩ := hb
        cases h
        exact ⟨laneOf_some h4, stationOf_some h5, h6, laneOf_some h7,
          by rw [BitVec.toNat_ofNat, Nat.mod_eq_of_lt (u32_lt l 8)], rfl, rfl, rfl, hm, ha, (blocksOk_iff _).mp hbl, h2,
          h12, hs, hf⟩
      · cases h
    · cases h
  · intro h
    have h16 : m.logical + m.spares ≤ 16 := Nat.add_le_add h.logical_le h.spares_le
    have hbase : BitVec.ofNat 32 (u32 l 8) = m.base := by rw [h.base, BitVec.ofNat_toNat, BitVec.setWidth_eq]
    unfold mapParams
    simp only [h.lane, h.station, h.role, h.master, laneOf_val, stationOf_val, hbase, h.blocks, h.logical, h.spares]
    rw [if_pos ⟨h.master_le, h.aligned, (blocksOk_iff _).mpr h.blocks_mem, h.two_le_logical, h.logical_le, h.spares_le,
      h16, h.fits⟩]

/-- R2, step 4: the lane's station and role are free. -/
theorem roleTaken_eq_false_iff (s : State) (lane : Fin 16) (m : Mapping) :
    roleTaken s lane m = false ↔
      ∀ i x, i ≠ lane → (s.lane i).mapping = some x → x.station = m.station → x.role ≠ m.role := by
  unfold roleTaken
  rw [List.any_eq_false]
  constructor
  · intro h i x hi hx hst hr
    refine h i (List.mem_finRange i) ?_
    rw [hx]
    simp [hi, hst, hr]
  · intro h i _ ht
    simp only [Bool.and_eq_true, decide_eq_true_eq] at ht
    obtain ⟨hi, ht⟩ := ht
    split at ht
    · next x hx =>
      obtain ⟨hst, hr⟩ := of_decide_eq_true ht
      exact h i x hi hx hst hr
    · cases ht

/-- R2, steps 2 to 5: a Map Lane that passes. -/
theorem mapLaneTests_eq_none {s : State} {lane : Fin 16} {m : Mapping} (ht : (s.lane lane).state ≠ .test)
    (hs : (s.station m.station).state = .stopped) (hl : StationStopped s lane) (hr : roleTaken s lane m = false)
    (hw : windowClash s m.base.toNat m.windowSize (fun k => decide (k = .lane lane)) (fun _ => false) = false) :
    mapLaneTests s lane m = none := by
  unfold mapLaneTests
  rw [if_neg ht, if_neg (by simp [hs, laneStation_stopped.mpr hl]), hr, hw]
  simp

/-! ### The window check (R134, R135) -/

theorem spansMeet_iff (a n b m : Nat) : spansMeet a n b m = true ↔ a < b + m ∧ b < a + n := by simp [spansMeet]

/-- R134: the entries of the window table. -/
theorem mem_windowTable {s : State} {w : Window} :
    w ∈ windowTable s ↔
      (∃ v, s.path.cmdBase = some v ∧ w = { kind := .command, base := cmdWindowBase v, size := 2048 })
      ∨ (∃ i m, (s.lane i).mapping = some m ∧ w = { kind := .lane i, base := m.base.toNat, size := m.windowSize })
      ∨ (∃ r, s.notices.ring = some r ∧ w = { kind := .ring, base := r.base.toNat, size := r.entries * 32 })
      ∨ (∃ b, s.status.place = some b ∧ w = { kind := .status, base := b.base.toNat, size := 1024 })
      ∨ ∃ r ∈ s.cmd.copies, w = { kind := .copy r.slot, base := r.dest.toNat, size := 3072 } := by
  unfold windowTable
  simp only [List.mem_append, List.mem_filterMap, List.mem_map, or_assoc]
  refine or_congr ?_ (or_congr (exists_congr fun i => ?_) (or_congr ?_ (or_congr ?_ ?_)))
  · cases s.path.cmdBase <;> simp
  · cases (s.lane i).mapping <;> simp [eq_comm]
  · cases s.notices.ring <;> simp
  · cases s.status.place <;> simp
  · simp [eq_comm]

theorem windowClash_iff (s : State) (base size : Nat) (spared : WindowKind → Bool) (sparedWrite : Producer → Bool) :
    windowClash s base size spared sparedWrite = true ↔
      (∃ w ∈ windowTable s, spared w.kind = false ∧ base < w.base + w.size ∧ w.base < base + size)
      ∨ ∃ w ∈ s.path.own, sparedWrite w.producer = false ∧ base < w.addr.toNat + w.span ∧ w.addr.toNat < base + size := by
  simp only [windowClash, Bool.or_eq_true, List.any_eq_true, Bool.and_eq_true, Bool.not_eq_true', spansMeet_iff]

/-- Settles O36: the tests of a Map Lane record read back (`mapParams_some_iff`), and the window table by its members
(`mem_windowTable`). -/
theorem mapLaneTakes : Obligations.MapLaneTakes := by
  refine ⟨?_, ?_⟩
  · intro s c lane m hl hs l h4 h5 h6 h7 h14 h8 ha h12 hb hlog h2 hle hsp h4' hf ht hst hls hr hw
    have hp : mapParams l = some (lane, m) :=
      (mapParams_some_iff l lane m).mpr ⟨h4, h5, h6, h7, h8, h12, hlog, hsp, h14, ha, hb, h2, hle, h4', hf⟩
    have hn : mapLaneTests s lane m = none := mapLaneTests_eq_none ht hst hls ((roleTaken_eq_false_iff s lane m).mpr hr) hw
    exact startStep_completes (f := startMapLane) (u := mapLaneEffect s lane m) (n := 0) hl hs
      (by simp only [startMapLane, show mapParams c.bytes.toList = _ from hp, hn]) rfl
  · intro s base size spared sparedWrite shares
    rw [windowClash_iff]
    simp only [mem_windowTable]
    constructor
    · rintro (⟨w, h, hk, hs⟩ | h)
      · rcases h with ⟨v, hv, rfl⟩ | ⟨i, m, hm, rfl⟩ | ⟨r, hr, rfl⟩ | ⟨b, hb, rfl⟩ | ⟨r, hr, rfl⟩
        · exact .inl ⟨v, hv, hk, hs⟩
        · exact .inr (.inl ⟨i, m, hm, hk, hs⟩)
        · exact .inr (.inr (.inl ⟨r, hr, hk, hs⟩))
        · exact .inr (.inr (.inr (.inl ⟨b, hb, hk, hs⟩)))
        · exact .inr (.inr (.inr (.inr (.inl ⟨r, hr, hk, hs⟩))))
      · exact .inr (.inr (.inr (.inr (.inr h))))
    · rintro (⟨v, hv, hk, hs⟩ | ⟨i, m, hm, hk, hs⟩ | ⟨r, hr, hk, hs⟩ | ⟨b, hb, hk, hs⟩ | ⟨r, hr, hk, hs⟩ | h)
      · exact .inl ⟨_, .inl ⟨v, hv, rfl⟩, hk, hs⟩
      · exact .inl ⟨_, .inr (.inl ⟨i, m, hm, rfl⟩), hk, hs⟩
      · exact .inl ⟨_, .inr (.inr (.inl ⟨r, hr, rfl⟩)), hk, hs⟩
      · exact .inl ⟨_, .inr (.inr (.inr (.inl ⟨b, hb, rfl⟩))), hk, hs⟩
      · exact .inl ⟨_, .inr (.inr (.inr (.inr ⟨r, hr, rfl⟩))), hk, hs⟩
      · exact .inr h

/-! ### Unmap Lane (R4) -/

/-- Settles O37. -/
theorem unmapLaneTakes : Obligations.UnmapLaneTakes := by
  intro s c lane hl hs h4 ht hst l
  have hsl : laneStation s (s.lane lane) = .stopped := laneStation_stopped.mpr hst
  constructor
  · intro hu
    exact startStep_completes (f := startUnmapLane) (u := s) (n := 0) hl hs
      (by simp [startUnmapLane, h4, hsl, show (s.lane lane).state = .unmapped from hu]) rfl
  · intro hu
    exact startStep_completes (f := startUnmapLane) (n := 0)
      (u := discardHolds (s.setLane lane (s.lane lane).unmapped) lane .reset) hl hs
      (by simp [startUnmapLane, h4, ht, hsl, show (s.lane lane).state ≠ .unmapped from hu]) rfl

/-! ### Set Lane Conditioning (R5, R15) -/

theorem clampNat_zero (hi x : Nat) : clampNat 0 hi x = min hi x := by simp [clampNat]

/-- R5: the settings of a record, clamped. -/
theorem conditioningOf_eq (mode : OffsetMode) (l : List Byte) :
    conditioningOf mode l =
      { mode := mode, range := min 4095 (u16 l 6), fixed := max (-4095) (min 4095 (s16 l 8)),
        trim := max (-31) (min 31 (trimGiven (u8 l 10))), silence := u8 l 11 } := by
  simp only [conditioningOf, clampNat_zero, clampInt]

/-- Settles O38: the settings act at completion, which is within the start, so the silence check follows it. -/
theorem conditioningTakes : Obligations.ConditioningTakes := by
  intro s c lane mode hl hs l h4 h5 hu range fixed given trim x n u
  have hx : (s.lane lane).condition (conditioningOf mode l) = x := by rw [conditioningOf_eq]; rfl
  have hn : conditioningClamped (conditioningOf mode l) l = n := by rw [conditioningOf_eq]; rfl
  have hc : complete (s.onLane lane fun y => y.condition (conditioningOf mode l)) c.slot
      (conditioningClamped (conditioningOf mode l) l) = u := by
    rw [complete_started (u := s.onLane lane fun y => y.condition (conditioningOf mode l)) _ hl hs.1 rfl, hn]
    simp only [State.onLane, hx]
    rfl
  have hul : u.lane lane = x := State.lane_setLane s lane x
  have hf : startSetLaneConditioning c s = if x.silent then faultLane u lane .silent else u := by
    unfold startSetLaneConditioning
    simp only [show u8 c.bytes.toList 4 = lane.val from h4, laneOf_val, show offsetModeOf (u8 c.bytes.toList 5) = some mode from h5,
      if_neg hu]
    rw [show silenceCheck _ lane = silenceCheck u lane from congrArg (silenceCheck · lane) hc]
    unfold silenceCheck
    rw [hul]
  exact (startStep_of_starts (f := startSetLaneConditioning) hs).trans (by rw [hf])

/-! ### Test Lane (R20) -/

/-- R20: the test of a record, its values clamped. -/
theorem testRunOf_eq (slot : Fin 32) (l : List Byte) :
    testRunOf slot l =
      { slot := slot, blocks := max 1 (min 65535 (u16 l 6)), limit := min 16777215 (u32 l 8),
        timeoutUs := max 1 (min 60 (u8 l 12)) * 1000000, elapsed := 0, errors := 0, counted := 0, generator := none,
        unseedDue := false
        clampedFields := (if u16 l 6 = max 1 (min 65535 (u16 l 6)) then 0 else 1)
          + (if u32 l 8 = min 16777215 (u32 l 8) then 0 else 1) + (if u8 l 12 = max 1 (min 60 (u8 l 12)) then 0 else 1) } := by
  simp only [testRunOf, clampNat_zero]
  rfl

/-- R147: the command that starts next, found in its slot once it is RUNNING. -/
theorem cmdAt_running {s u : State} {c : Cmd} (hl : CommandLaw s) (h : nextStart s = some c)
    (hu : u.cmd = running s.cmd c) : u.cmdAt c.slot = some { c with state := .running } := by
  have hc : s.cmdAt c.slot = some c := cmdAt_of_mem hl (nextStart_some h).2.1
  unfold State.cmdAt at hc ⊢
  rw [hu]
  simp only [running, setCmdState, List.find?_map]
  have hp : ((fun d : Cmd => decide (d.slot = c.slot)) ∘ fun d => if d.slot = c.slot then { d with state := .running } else d)
      = fun d => decide (d.slot = c.slot) := by
    funext d; simp only [Function.comp]; split <;> simp [*]
  rw [hp, hc]
  simp

/-- Settles O39: the command is RUNNING, so nothing completes within its start. -/
theorem testLaneStarts : Obligations.TestLaneStarts := by
  intro s c lane hl hs l h4 hu ht hst n e t
  have hf : startTestLane c s = (runCmd s c.slot).onLane lane fun x => x.enterTest (testRunOf c.slot l) := by
    simp [startTestLane, show u8 c.bytes.toList 4 = lane.val from h4, hu, ht, laneStation_stopped.mpr hst, l]
  rw [show exec .testLane s = _ from startStep_of_starts (f := startTestLane) hs, hf,
    completeStarted_running (cmdAt_running hl hs.1 (u := (runCmd s c.slot).onLane lane _) rfl) rfl, testRunOf_eq]
  rfl

/-! ### Start Station (R13, R48, R108) -/

theorem Lane.serves_iff (l : Lane) (k : Fin 4) : l.serves k = true ↔ l.stationOf = some k := by simp [Lane.serves]

theorem startState_ne_stopped (s : State) (k : Fin 4) : startState s k ≠ .stopped := by
  unfold startState
  split
  · split <;> simp
  · simp

/-- R13: an IDLE lane at the start of its station, which is not STOPPED. -/
theorem Lane.atStart_eq (l : Lane) {st : StationState} (h : st ≠ .stopped) :
    l.atStart st = if l.state = .idle then { l with
        state := if l.isVibration || decide (l.detect.mode = .manual) || l.noiseValid then .live else .settling
        silenceTimer := some 0, liveDue := false
        settleCount := if l.isVibration || decide (l.detect.mode = .manual) || l.noiseValid then l.settleCount else 0 }
      else l := by
  unfold Lane.atStart Lane.enterStationState Lane.stationState
  split
  · cases l.isVibration || decide (l.detect.mode = .manual) || l.noiseValid <;> rfl
  · rfl

/-- Settles O42. -/
theorem stationStarts : Obligations.StationStarts := by
  intro s c k v hl hs h4 hstop hv hae ht st settled
  have hready : lanesReady s k = true := by
    simp only [lanesReady, hv, Option.isSome_some, Bool.true_and, Bool.and_eq_true, decide_eq_true_eq, List.all_eq_true]
    exact ⟨hae, ht⟩
  have hst : startState s k = st := by simp only [startState, hv]; rfl
  have hf : startStartStation c s
      = complete (onLanesOf (s.onStation k fun x => x.started st) k fun l => l.atStart st) c.slot 0 := by
    simp [startStartStation, h4, hstop, hready, hst]
  have hlanes : (fun l : Lane => if l.serves k then l.atStart st else l)
      = fun l => if l.stationOf = some k ∧ l.state = .idle then { l with
          state := if settled l then .live else .settling
          silenceTimer := some 0, liveDue := false
          settleCount := if settled l then l.settleCount else 0 } else l := by
    funext l
    rw [Lane.atStart_eq l (hst ▸ startState_ne_stopped s k)]
    by_cases h1 : l.stationOf = some k <;> by_cases h2 : l.state = .idle <;> simp [Lane.serves, h1, h2, settled]
  rw [show exec .startStation s = _ from startStep_completes (f := startStartStation) hl hs hf rfl]
  unfold onLanesOf
  rw [hlanes]
  rfl

/-! ### Stop Station (R13, R24, R49) -/

/-- R13, R24: a lane at the stop of its station. -/
theorem Lane.atStop_eq (l : Lane) :
    l.atStop = if l.state = .settling ∨ l.state = .live ∨ l.state = .faulted then { l with
        state := .idle, queue := [], breakDue := true, detector := .armed, hit := none, rearmCount := 0,
        silenceTimer := none, settleCount := 0, liveDue := false
        faultReason := if l.state = .faulted then none else l.faultReason
        badRun := if l.state = .faulted then 0 else l.badRun
        goodRun := if l.state = .faulted then 0 else l.goodRun }
      else l := by
  unfold Lane.atStop
  split <;> next h => simp [h, Lane.discardQueue, Lane.resetDetector]

/-- Settles O43. -/
theorem stationStops : Obligations.StationStops := by
  intro s c k hl hs h4
  constructor
  · intro hstop
    exact startStep_completes (f := startStopStation) (u := s) (n := 0) hl hs (by simp [startStopStation, h4, hstop]) rfl
  · intro hrun
    have hf : startStopStation c s
        = complete (onLanesOf (s.onStation k Station.stopped) k Lane.atStop) c.slot 0 := by
      simp [startStopStation, h4, hrun]
    have hlanes : (fun l : Lane => if l.serves k then l.atStop else l)
        = fun l => if l.stationOf = some k ∧ (l.state = .settling ∨ l.state = .live ∨ l.state = .faulted) then { l with
          state := .idle, queue := [], breakDue := true, detector := .armed, hit := none, rearmCount := 0,
          silenceTimer := none, settleCount := 0, liveDue := false
          faultReason := if l.state = .faulted then none else l.faultReason
          badRun := if l.state = .faulted then 0 else l.badRun
          goodRun := if l.state = .faulted then 0 else l.goodRun } else l := by
      funext l
      rw [Lane.atStop_eq l]
      by_cases h1 : l.stationOf = some k <;> simp [Lane.serves, h1]
    rw [show exec .stopStation s = _ from startStep_completes (f := startStopStation) hl hs hf rfl]
    unfold onLanesOf
    rw [hlanes]
    rfl

end Sys2Proof.Machine
end

section
/-! ## The reset state meets every law -/

namespace Sys2Proof.Machine

open Sys2Proof.Safety

theorem boundaryLaw_reset : BoundaryLaw State.reset := fun k => by
  rw [State.station_reset]
  simp [Station.BoundaryLaw, NumbersTo, Station.reset]

theorem segmentLaw_reset : SegmentLaw State.reset := by
  refine ⟨List.nodup_nil, fun i => ?_⟩
  rw [State.lane_reset]
  refine ⟨?_, ?_, fun h hh => absurd hh List.not_mem_nil⟩ <;> rw [State.seg_reset] <;> rfl

theorem commandLaw_reset : CommandLaw State.reset :=
  ⟨List.nodup_nil, List.nodup_nil, List.nodup_nil, fun _ h => absurd h List.not_mem_nil⟩

theorem ringLaw_reset : RingLaw State.reset := ⟨rfl, rfl, rfl, rfl⟩

theorem pathLaw_reset : PathLaw State.reset :=
  ⟨List.nodup_nil, List.nodup_nil, fun _ h => absurd h List.not_mem_nil, fun _ h => absurd h List.not_mem_nil,
    fun _ h => absurd h List.not_mem_nil, fun _ _ h => nomatch h⟩

/-- Settles O60. -/
theorem resetMeetsLaws : Obligations.ResetMeetsLaws :=
  ⟨laneQueueLaw_reset, ownQueueLaw_reset, starvationLaw_reset, noticeQueueLaw_reset, poolLaw_reset, holdListLaw_reset,
    boundaryLaw_reset, segmentLaw_reset, commandLaw_reset, ringLaw_reset, pathLaw_reset⟩

end Sys2Proof.Machine
end

section
/-! ## Commands refused (R147) -/

namespace Sys2Proof.Machine

open Sys2Proof.Safety

set_option Elab.async false

/-! ### Codes out of range -/

theorem laneOf_none_iff (n : Nat) : laneOf n = none ↔ 16 ≤ n := by simp [laneOf]
theorem stationOf_none_iff (n : Nat) : stationOf n = none ↔ 4 ≤ n := by simp [stationOf]
theorem lineOf_none_iff (n : Nat) : lineOf n = none ↔ 3 ≤ n := by simp [lineOf]
theorem offsetModeOf_none_iff (n : Nat) : offsetModeOf n = none ↔ 2 ≤ n := by
  unfold offsetModeOf; split_ifs <;> simp <;> omega
theorem thresholdModeOf_none_iff (n : Nat) : thresholdModeOf n = none ↔ 2 ≤ n := by
  unfold thresholdModeOf; split_ifs <;> simp <;> omega
theorem sourceOf_none_iff (n : Nat) : sourceOf n = none ↔ 2 ≤ n := by
  unfold sourceOf; split_ifs <;> simp <;> omega
theorem policyOf_none_iff (n : Nat) : policyOf n = none ↔ 3 ≤ n := by
  unfold policyOf; split_ifs <;> simp <;> omega
theorem formOf_none_iff (n : Nat) : formOf n = none ↔ 3 ≤ n := by
  unfold formOf; split_ifs <;> simp <;> omega

/-- A code in range names something. -/
theorem exists_some_of_ne_none {α : Type} {o : Option α} {p : Prop} (h : o = none ↔ p) (hn : ¬p) : ∃ x, o = some x :=
  Option.ne_none_iff_exists'.mp fun e => hn (h.mp e)

/-! ### The first test that fails, kind by kind -/

section
variable (s : State) (c : Cmd)

theorem startMapLane_badParam (h : mapParams c.bytes.toList = none) :
    startMapLane c s = refuse s c.slot .badParam := by simp only [startMapLane, h]

theorem startMapLane_of_params {i : Fin 16} {m : Mapping} {r : Result} (h : mapParams c.bytes.toList = some (i, m))
    (ht : mapLaneTests s i m = some r) : startMapLane c s = refuse s c.slot r := by simp only [startMapLane, h, ht]

/-- R2, step 1: a structural field out of range. -/
theorem mapParams_eq_none {l : List Byte} (h : 16 ≤ u8 l 4 ∨ 4 ≤ u8 l 5 ∨ roleOf (u8 l 6) = none ∨ 14 < u8 l 7
    ∨ u32 l 8 % 4096 ≠ 0 ∨ u16 l 12 ∉ [32, 64, 128, 256, 512, 1024] ∨ u8 l 14 < 2 ∨ 12 < u8 l 14 ∨ 4 < u8 l 15
    ∨ 4294967296 < u32 l 8 + (u8 l 14 + u8 l 15) * (u16 l 12 * 128)) : mapParams l = none := by
  by_contra hn
  obtain ⟨⟨i, m⟩, hp⟩ := Option.ne_none_iff_exists'.mp hn
  have f := (mapParams_some_iff l i m).mp hp
  have hfit := f.fits
  unfold Mapping.windowSize Mapping.segSize at hfit
  rw [← f.blocks, ← f.logical, ← f.spares] at hfit
  have hi := i.isLt
  have hk := m.station.isLt
  have h2 := f.two_le_logical
  have h12 := f.logical_le
  have h4 := f.spares_le
  have h14 := f.master_le
  rw [← f.lane] at hi
  rw [← f.station] at hk
  rw [← f.logical] at h2 h12
  rw [← f.spares] at h4
  rw [← f.master] at h14
  have hb := f.blocks_mem
  rw [← f.blocks] at hb
  rcases h with h | h | h | h | h | h | h | h | h | h
  · omega
  · omega
  · rw [f.role] at h; cases h
  · omega
  · exact h f.aligned
  · exact h hb
  · omega
  · omega
  · omega
  · omega

theorem mapLaneTests_laneBusy {i : Fin 16} {m : Mapping} (h : (s.lane i).state = .test) :
    mapLaneTests s i m = some .laneBusy := by simp [mapLaneTests, h]

theorem mapLaneTests_stationRunning {i : Fin 16} {m : Mapping} (ht : (s.lane i).state ≠ .test)
    (h : (s.station m.station).state ≠ .stopped ∨ ¬StationStopped s i) :
    mapLaneTests s i m = some .stationRunning := by
  unfold mapLaneTests
  rw [if_neg ht, if_pos (h.imp_right fun h e => h (laneStation_stopped.mp e))]

theorem mapLaneTests_of_stopped {i : Fin 16} {m : Mapping} (ht : (s.lane i).state ≠ .test)
    (hs : (s.station m.station).state = .stopped) (hl : StationStopped s i) :
    mapLaneTests s i m = if roleTaken s i m then some .roleTaken
      else if windowClash s m.base.toNat m.windowSize (fun k => decide (k = .lane i)) (fun _ => false) then some .overlap
      else none := by
  unfold mapLaneTests
  rw [if_neg ht, if_neg (by simp [hs, laneStation_stopped.mpr hl])]

/-! The kinds whose only structural field is a lane or station number. -/

theorem startUnmapLane_badParam (h : 16 ≤ u8 c.bytes.toList 4) : startUnmapLane c s = refuse s c.slot .badParam := by
  simp only [startUnmapLane, laneOf_big h]
theorem startTestLane_badParam (h : 16 ≤ u8 c.bytes.toList 4) : startTestLane c s = refuse s c.slot .badParam := by
  simp only [startTestLane, laneOf_big h]
theorem startStartStation_badParam (h : 4 ≤ u8 c.bytes.toList 4) : startStartStation c s = refuse s c.slot .badParam := by
  simp only [startStartStation, stationOf_big h]
theorem startStopStation_badParam (h : 4 ≤ u8 c.bytes.toList 4) : startStopStation c s = refuse s c.slot .badParam := by
  simp only [startStopStation, stationOf_big h]
theorem startSetMapCriteria_badParam (h : 4 ≤ u8 c.bytes.toList 4) : startSetMapCriteria c s = refuse s c.slot .badParam := by
  simp only [startSetMapCriteria, stationOf_big h]
theorem startHoldSegment_badParam (h : 16 ≤ u8 c.bytes.toList 4) : startHoldSegment c s = refuse s c.slot .badParam := by
  simp only [startHoldSegment, laneOf_big h]

theorem startUnmapLane_eq {i : Fin 16} (h4 : u8 c.bytes.toList 4 = i.val) :
    startUnmapLane c s = if (s.lane i).state = .test then refuse s c.slot .laneBusy
      else if laneStation s (s.lane i) ≠ .stopped then refuse s c.slot .stationRunning
      else if (s.lane i).state = .unmapped then complete s c.slot 0
      else complete (discardHolds (s.setLane i (s.lane i).unmapped) i .reset) c.slot 0 := by
  simp only [startUnmapLane, h4, laneOf_val]

theorem startTestLane_eq {i : Fin 16} (h4 : u8 c.bytes.toList 4 = i.val) :
    startTestLane c s = if (s.lane i).state = .unmapped ∨ laneStation s (s.lane i) ≠ .stopped then
        refuse s c.slot .notReady
      else if (s.lane i).state = .test then refuse s c.slot .laneBusy
      else (runCmd s c.slot).onLane i fun x => x.enterTest (testRunOf c.slot c.bytes.toList) := by
  simp only [startTestLane, h4, laneOf_val]

theorem laneStation_ne_stopped {i : Fin 16} (h : ¬StationStopped s i) : laneStation s (s.lane i) ≠ .stopped :=
  fun e => h (laneStation_stopped.mp e)

theorem startSetLaneConditioning_badParam (h : 16 ≤ u8 c.bytes.toList 4 ∨ 2 ≤ u8 c.bytes.toList 5) :
    startSetLaneConditioning c s = refuse s c.slot .badParam := by
  unfold startSetLaneConditioning
  dsimp only
  split
  · next h4 h5 =>
    rcases h with h | h
    · rw [laneOf_big h] at h4; cases h4
    · rw [(offsetModeOf_none_iff _).mpr h] at h5; cases h5
  · rfl

theorem startSetLaneConditioning_notReady {i : Fin 16} (h4 : u8 c.bytes.toList 4 = i.val) (h5 : u8 c.bytes.toList 5 < 2)
    (hu : (s.lane i).state = .unmapped) : startSetLaneConditioning c s = refuse s c.slot .notReady := by
  obtain ⟨mode, hm⟩ := exists_some_of_ne_none (offsetModeOf_none_iff _) (Nat.not_le.mpr h5)
  simp only [startSetLaneConditioning, h4, laneOf_val, hm, hu, if_true]

theorem windowLengthOk_iff (w : Nat) : windowLengthOk w = true ↔ w ∈ [128, 256, 512, 1024] := by
  unfold windowLengthOk; exact List.contains_iff_mem

theorem startSetDetection_badParam (h : 16 ≤ u8 c.bytes.toList 4 ∨ 2 ≤ u8 c.bytes.toList 5 ∨ 2 ≤ u8 c.bytes.toList 6
    ∨ u16 c.bytes.toList 8 ∉ [128, 256, 512, 1024]) : startSetDetection c s = refuse s c.slot .badParam := by
  unfold startSetDetection
  dsimp only
  split
  · next h4 h5 h6 =>
    rcases h with h | h | h | h
    · rw [laneOf_big h] at h4; cases h4
    · rw [(thresholdModeOf_none_iff _).mpr h] at h5; cases h5
    · rw [(sourceOf_none_iff _).mpr h] at h6; cases h6
    · rw [if_pos (by simpa using mt (windowLengthOk_iff _).mp h)]
  · rfl

theorem startSetDetection_notReady {i : Fin 16} (h4 : u8 c.bytes.toList 4 = i.val) (h5 : u8 c.bytes.toList 5 < 2)
    (h6 : u8 c.bytes.toList 6 < 2) (h8 : u16 c.bytes.toList 8 ∈ [128, 256, 512, 1024])
    (hu : (s.lane i).state = .unmapped) : startSetDetection c s = refuse s c.slot .notReady := by
  obtain ⟨mode, hm⟩ := exists_some_of_ne_none (thresholdModeOf_none_iff _) (Nat.not_le.mpr h5)
  obtain ⟨src, hs⟩ := exists_some_of_ne_none (sourceOf_none_iff _) (Nat.not_le.mpr h6)
  simp only [startSetDetection, h4, laneOf_val, hm, hs, (windowLengthOk_iff _).mpr h8, hu, Bool.not_true, Bool.false_eq_true,
    if_false, if_true]

theorem startSetStation_badParam (h : 4 ≤ u8 c.bytes.toList 4 ∨ 3 ≤ u8 c.bytes.toList 5) :
    startSetStation c s = refuse s c.slot .badParam := by
  unfold startSetStation
  dsimp only
  split
  · next h4 h5 =>
    rcases h with h | h
    · rw [stationOf_big h] at h4; cases h4
    · rw [(policyOf_none_iff _).mpr h] at h5; cases h5
  · rfl

theorem startSetStation_stationRunning {k : Fin 4} (h4 : u8 c.bytes.toList 4 = k.val) (h5 : u8 c.bytes.toList 5 < 3)
    (hr : (s.station k).state ≠ .stopped) : startSetStation c s = refuse s c.slot .stationRunning := by
  obtain ⟨policy, hp⟩ := exists_some_of_ne_none (policyOf_none_iff _) (Nat.not_le.mpr h5)
  simp only [startSetStation, h4, stationOf_val, hp, if_pos hr]

theorem startSetStation_levels {k : Fin 4} (h4 : u8 c.bytes.toList 4 = k.val) (h5 : u8 c.bytes.toList 5 < 3)
    (hr : (s.station k).state = .stopped)
    (hl : max 1 (min 32767 (u16 c.bytes.toList 8)) ≤ max 1 (min 32767 (u16 c.bytes.toList 10))) :
    startSetStation c s = refuse s c.slot .badParam := by
  obtain ⟨policy, hp⟩ := exists_some_of_ne_none (policyOf_none_iff _) (Nat.not_le.mpr h5)
  have hl' : (settingsOf policy c.bytes.toList).startLevel ≤ (settingsOf policy c.bytes.toList).stopLevel := hl
  simp only [startSetStation, h4, stationOf_val, hp, hr, ne_eq, not_true_eq_false, if_false, if_pos hl']

theorem lanesReady_eq_false {k : Fin 4} (h : s.vibrationLane k = none
    ∨ ((s.lanesOf k).filter fun i => (s.lane i).isAE).length < 2 ∨ ∃ i ∈ s.lanesOf k, (s.lane i).state = .test) :
    lanesReady s k = false := by
  unfold lanesReady
  rcases h with h | h | ⟨i, hi, ht⟩
  · rw [h]; rfl
  · rw [decide_eq_false (Nat.not_le.mpr h)]; simp
  · have hall : ((s.lanesOf k).all fun i => decide ((s.lane i).state ≠ .test)) = false :=
      List.all_eq_false.mpr ⟨i, hi, by simp [ht]⟩
    rw [hall, Bool.and_false]

theorem startStartStation_eq {k : Fin 4} (h4 : u8 c.bytes.toList 4 = k.val) :
    startStartStation c s = if (s.station k).state ≠ .stopped then refuse s c.slot .stationRunning
      else if !lanesReady s k then refuse s c.slot .notReady
      else complete (onLanesOf (s.onStation k fun x => x.started (startState s k)) k fun l => l.atStart (startState s k))
        c.slot 0 := by
  simp only [startStartStation, h4, stationOf_val]

theorem startSetLocationLine_badCode (h : 4 ≤ u8 c.bytes.toList 4 ∨ 3 ≤ u8 c.bytes.toList 5 ∨ 3 ≤ u8 c.bytes.toList 6) :
    startSetLocationLine c s = refuse s c.slot .badParam := by
  unfold startSetLocationLine
  dsimp only
  split
  · next h4 h5 h6 =>
    rcases h with h | h | h
    · rw [stationOf_big h] at h4; cases h4
    · rw [(lineOf_none_iff _).mpr h] at h5; cases h5
    · rw [(formOf_none_iff _).mpr h] at h6; cases h6
  · rfl

/-- R77: the form code 0 alone has no roles. -/
theorem formOf_roles {n : Nat} {form : LineForm} (h : formOf n = some form) (l : List Byte) :
    rolesBad form l = (decide (n ≠ 0) && decide (5 < u8 l 7 ∨ 5 < u8 l 8 ∨ u8 l 7 = u8 l 8)) := by
  unfold formOf at h
  split_ifs at h with h0 h1 h2 <;> cases h
  · simp [rolesBad, h0]
  · simp [rolesBad, h1]
  · simp [rolesBad, h2]

theorem startSetLocationLine_badRoles (h4 : u8 c.bytes.toList 4 < 4) (h5 : u8 c.bytes.toList 5 < 3)
    (h6 : u8 c.bytes.toList 6 = 1 ∨ u8 c.bytes.toList 6 = 2)
    (hr : 5 < u8 c.bytes.toList 7 ∨ 5 < u8 c.bytes.toList 8 ∨ u8 c.bytes.toList 7 = u8 c.bytes.toList 8) :
    startSetLocationLine c s = refuse s c.slot .badParam := by
  obtain ⟨k, hk⟩ := exists_some_of_ne_none (stationOf_none_iff _) (Nat.not_le.mpr h4)
  obtain ⟨n, hn⟩ := exists_some_of_ne_none (lineOf_none_iff _) (Nat.not_le.mpr h5)
  obtain ⟨form, hf⟩ := exists_some_of_ne_none (formOf_none_iff (u8 c.bytes.toList 6)) (by omega)
  have h0 : u8 c.bytes.toList 6 ≠ 0 := by omega
  have hb : rolesBad form c.bytes.toList = true := by rw [formOf_roles hf]; simp [h0, hr]
  simp only [startSetLocationLine, hk, hn, hf, hb, if_true]

theorem startSetLocationLine_stationRunning {k : Fin 4} (h4 : u8 c.bytes.toList 4 = k.val) (h5 : u8 c.bytes.toList 5 < 3)
    (h6 : u8 c.bytes.toList 6 = 0 ∨ ((u8 c.bytes.toList 6 = 1 ∨ u8 c.bytes.toList 6 = 2) ∧ u8 c.bytes.toList 7 ≤ 5
      ∧ u8 c.bytes.toList 8 ≤ 5 ∧ u8 c.bytes.toList 7 ≠ u8 c.bytes.toList 8)) (hr : (s.station k).state ≠ .stopped) :
    startSetLocationLine c s = refuse s c.slot .stationRunning := by
  obtain ⟨n, hn⟩ := exists_some_of_ne_none (lineOf_none_iff _) (Nat.not_le.mpr h5)
  obtain ⟨form, hf⟩ := exists_some_of_ne_none (formOf_none_iff (u8 c.bytes.toList 6)) (by omega)
  have hb : rolesBad form c.bytes.toList = false := by
    rw [formOf_roles hf]
    simp only [Bool.and_eq_false_iff, decide_eq_false_iff_not]
    omega
  simp only [startSetLocationLine, h4, stationOf_val, hn, hf, hb, Bool.false_eq_true, if_false, if_pos hr]

theorem startClearCells_badParam (h : 4 ≤ u8 c.bytes.toList 4 ∨ (2 < u8 c.bytes.toList 5 ∧ u8 c.bytes.toList 5 ≠ 255)
    ∨ (31 < u8 c.bytes.toList 6 ∧ u8 c.bytes.toList 6 ≠ 255)) : startClearCells c s = refuse s c.slot .badParam := by
  unfold startClearCells
  dsimp only
  split
  · rfl
  · next h4 =>
    have h4' := (stationOf_none_iff (u8 c.bytes.toList 4)).not.mp (by simp [h4])
    rw [if_pos (by omega)]

theorem startCopyMap_badParam (h : 4 ≤ u8 c.bytes.toList 4 ∨ u32 c.bytes.toList 8 % 4096 ≠ 0) :
    startCopyMap c s = refuse s c.slot .badParam := by
  unfold startCopyMap
  dsimp only
  split
  · rfl
  · next h4 =>
    have h4' := (stationOf_none_iff (u8 c.bytes.toList 4)).not.mp (by simp [h4])
    rw [if_pos (h.resolve_left h4')]

theorem startCopyMap_overlap (h4 : u8 c.bytes.toList 4 < 4) (h8 : u32 c.bytes.toList 8 % 4096 = 0)
    (hw : windowClash s (u32 c.bytes.toList 8) 3072 (fun _ => false) (fun _ => false) = true) :
    startCopyMap c s = refuse s c.slot .overlap := by
  obtain ⟨k, hk⟩ := exists_some_of_ne_none (stationOf_none_iff _) (Nat.not_le.mpr h4)
  simp only [startCopyMap, hk, h8, hw, ne_eq, not_true_eq_false, if_false, if_true]

theorem startHoldSegment_notReady {i : Fin 16} (h4 : u8 c.bytes.toList 4 = i.val) (hm : (s.lane i).mapping = none) :
    startHoldSegment c s = refuse s c.slot .notReady := by
  simp only [startHoldSegment, h4, laneOf_val, hm]

theorem startHoldSegment_noSegment {i : Fin 16} {m : Mapping} (h4 : u8 c.bytes.toList 4 = i.val)
    (hm : (s.lane i).mapping = some m) (h5 : m.logical + m.spares ≤ u8 c.bytes.toList 5) :
    startHoldSegment c s = refuse s c.slot .badParam := by
  simp only [startHoldSegment, h4, laneOf_val, hm, if_pos h5]

theorem startReleaseHold_badParam (h : 16 ≤ u8 c.bytes.toList 4
    ∨ (15 < u8 c.bytes.toList 5 ∧ u8 c.bytes.toList 5 ≠ 255)) : startReleaseHold c s = refuse s c.slot .badParam := by
  unfold startReleaseHold
  dsimp only
  split
  · rfl
  · next h4 =>
    have h4' := (laneOf_none_iff (u8 c.bytes.toList 4)).not.mp (by simp [h4])
    rw [if_pos (by omega)]

section
variable {i : Fin 16} (h4 : u8 c.bytes.toList 4 = i.val) (h5 : u8 c.bytes.toList 5 ≤ 15 ∨ u8 c.bytes.toList 5 = 255)
include h4 h5

theorem startReleaseHold_notReady (hm : (s.lane i).mapping = none) :
    startReleaseHold c s = refuse s c.slot .notReady := by
  simp only [startReleaseHold, h4, laneOf_val, hm]
  rw [if_neg (by omega)]

theorem startReleaseHold_noSegment {m : Mapping} (hm : (s.lane i).mapping = some m) (h255 : u8 c.bytes.toList 5 ≠ 255)
    (hb : m.logical + m.spares ≤ u8 c.bytes.toList 5) : startReleaseHold c s = refuse s c.slot .badParam := by
  simp only [startReleaseHold, h4, laneOf_val, hm]
  rw [if_neg (by omega), if_pos ⟨h255, hb⟩]

theorem startReleaseHold_notFound {m : Mapping} (hm : (s.lane i).mapping = some m)
    (hb : u8 c.bytes.toList 5 = 255 ∨ u8 c.bytes.toList 5 < m.logical + m.spares)
    (hn : ∀ h ∈ s.holds, h.lane = i → u8 c.bytes.toList 5 ≠ 255 ∧ h.segment ≠ u8 c.bytes.toList 5) :
    startReleaseHold c s = refuse s c.slot .notFound := by
  have hnone : s.holds.filter (releaseNames i (u8 c.bytes.toList 5)) = [] := by
    refine List.filter_eq_nil_iff.mpr fun h hh => ?_
    unfold releaseNames
    by_cases he : h.lane = i
    · simp [he, hn h hh he]
    · simp [he]
  simp only [startReleaseHold, h4, laneOf_val, hm, hnone, List.length_nil, if_true]
  rw [if_neg (by omega), if_neg (by omega)]

end

theorem ringOf_none_iff (l : List Byte) : ringOf l = none ↔ ¬(u32 l 4 % 4096 = 0 ∧ u16 l 8 % 16 = 0 ∧ 16 ≤ u16 l 8
    ∧ u16 l 8 ≤ 4096 ∧ u32 l 4 + u16 l 8 * 32 ≤ 4294967296) := by
  unfold ringOf
  dsimp only
  split_ifs with h <;> simp [h]

theorem startSetNoticeRing_badParam (h : u32 c.bytes.toList 4 % 4096 ≠ 0 ∨ u16 c.bytes.toList 8 % 16 ≠ 0
    ∨ u16 c.bytes.toList 8 < 16 ∨ 4096 < u16 c.bytes.toList 8
    ∨ 4294967296 < u32 c.bytes.toList 4 + u16 c.bytes.toList 8 * 32) :
    startSetNoticeRing c s = refuse s c.slot .badParam := by
  have hn : ringOf c.bytes.toList = none := (ringOf_none_iff _).mpr (by omega)
  simp only [startSetNoticeRing, hn]

theorem startSetNoticeRing_overlap (h : u32 c.bytes.toList 4 % 4096 = 0 ∧ u16 c.bytes.toList 8 % 16 = 0
      ∧ 16 ≤ u16 c.bytes.toList 8 ∧ u16 c.bytes.toList 8 ≤ 4096
      ∧ u32 c.bytes.toList 4 + u16 c.bytes.toList 8 * 32 ≤ 4294967296)
    (hw : windowClash s (u32 c.bytes.toList 4) (u16 c.bytes.toList 8 * 32) (fun w => decide (w = .ring))
      (fun p => decide (p.client = .noticeWriter)) = true) :
    startSetNoticeRing c s = refuse s c.slot .overlap := by
  have hb : (BitVec.ofNat 32 (u32 c.bytes.toList 4)).toNat = u32 c.bytes.toList 4 := by
    rw [BitVec.toNat_ofNat, Nat.mod_eq_of_lt (u32_lt _ _)]
  simp only [startSetNoticeRing, ringOf, if_pos h, hb, hw, if_true]

theorem startSetStatusBlock_badParam (h : u32 c.bytes.toList 4 % 1024 ≠ 0) :
    startSetStatusBlock c s = refuse s c.slot .badParam := by
  simp only [startSetStatusBlock, if_pos h]

theorem startSetStatusBlock_overlap (h : u32 c.bytes.toList 4 % 1024 = 0)
    (hw : windowClash s (u32 c.bytes.toList 4) 1024 (fun w => decide (w = .status))
      (fun p => decide (p.client = .statusWriter)) = true) :
    startSetStatusBlock c s = refuse s c.slot .overlap := by
  simp only [startSetStatusBlock, h, hw, ne_eq, not_true_eq_false, if_false, if_true]

theorem startWriteStatus_notReady (h : s.status.state = .unset ∨ s.status.state = .stopped) :
    startWriteStatus c s = refuse s c.slot .notReady := by
  rcases h with h | h <;> simp only [startWriteStatus, h]

end

/-- Settles O54: for each kind, the lemma about its first failing test. -/
theorem commandsRefused : Obligations.CommandsRefused := by
  intro s c hl hc l kind
  have hs {n : Nat} (h : kind = n) : Starts s c n := ⟨hc, h⟩
  refine ⟨?_, ?_, ?_, ?_, ?_, ?_, ?_, ?_, ?_, ?_, ?_, ?_, ?_, ?_, ?_, ?_, ?_, ?_, ?_, ?_, ?_, ?_, ?_, ?_, ?_, ?_, ?_, ?_, ?_,
    ?_, ?_, ?_, ?_, ?_⟩
  · intro hk
    refine (startStep_starts (kind := badKindCode) startBadKind hc ?_).trans ?_
    · simp only [badKindCode, decide_eq_true_eq]; omega
    · unfold startBadKind; rw [decide_started (u := s) .badKind 0 hl hc rfl]
  · exact fun hk h => startStep_refused hl (hs hk) (startMapLane_badParam s c (mapParams_eq_none h))
  · exact fun hk h => startStep_refused hl (hs hk) (startMapLane_badParam s c h)
  · intro i m hk hp
    have go {r : Result} (ht : mapLaneTests s i m = some r) : exec .mapLane s = refused s c r :=
      startStep_refused hl (hs hk) (startMapLane_of_params s c hp ht)
    refine ⟨fun ht => go (mapLaneTests_laneBusy s ht), fun ht h => go (mapLaneTests_stationRunning s ht h), ?_⟩
    intro ht hst hsl
    have hT := mapLaneTests_of_stopped s ht hst hsl
    refine ⟨fun ⟨j, x, hj, hx, hxs, hxr⟩ => go ?_, fun hr hw => go ?_⟩
    · have : roleTaken s i m = true := by
        by_contra hn
        exact (roleTaken_eq_false_iff s i m).mp (Bool.eq_false_iff.mpr hn) j x hj hx hxs hxr
      rw [hT, if_pos this]
    · rw [hT, if_neg (by simp [(roleTaken_eq_false_iff s i m).mpr hr])]
      exact if_pos hw
  · exact fun hk h => startStep_refused hl (hs hk) (startUnmapLane_badParam s c h)
  · intro i hk h4
    refine ⟨fun ht => startStep_refused hl (hs hk) ?_, fun ht hst => startStep_refused hl (hs hk) ?_⟩
    · rw [startUnmapLane_eq s c h4, if_pos ht]
    · rw [startUnmapLane_eq s c h4, if_neg ht, if_pos (laneStation_ne_stopped s hst)]
  · exact fun hk h => startStep_refused hl (hs hk) (startSetLaneConditioning_badParam s c h)
  · exact fun i hk h4 h5 hu => startStep_refused hl (hs hk) (startSetLaneConditioning_notReady s c h4 h5 hu)
  · exact fun hk h => startStep_refused hl (hs hk) (startTestLane_badParam s c h)
  · intro i hk h4
    refine ⟨fun h => startStep_refused hl (hs hk) ?_, fun ht hst => startStep_refused hl (hs hk) ?_⟩
    · rw [startTestLane_eq s c h4, if_pos (h.imp_right (laneStation_ne_stopped s))]
    · rw [startTestLane_eq s c h4, if_neg (by simp [ht, laneStation_stopped.mpr hst]), if_pos ht]
  · exact fun hk h => startStep_refused hl (hs hk) (startSetDetection_badParam s c h)
  · exact fun i hk h4 h5 h6 h8 hu => startStep_refused hl (hs hk) (startSetDetection_notReady s c h4 h5 h6 h8 hu)
  · exact fun hk h => startStep_refused hl (hs hk) (startSetStation_badParam s c h)
  · exact fun k hk h4 h5 => ⟨fun h => startStep_refused hl (hs hk) (startSetStation_stationRunning s c h4 h5 h),
      fun h hle => startStep_refused hl (hs hk) (startSetStation_levels s c h4 h5 h hle)⟩
  · exact fun hk h => startStep_refused hl (hs hk) (startStartStation_badParam s c h)
  · intro k hk h4
    refine ⟨fun h => startStep_refused hl (hs hk) ?_, fun hst h => startStep_refused hl (hs hk) ?_⟩
    · rw [startStartStation_eq s c h4, if_pos h]
    · rw [startStartStation_eq s c h4, if_neg (by simp [hst]), if_pos (by simp [lanesReady_eq_false s h])]
  · exact fun hk h => startStep_refused hl (hs hk) (startStopStation_badParam s c h)
  · exact fun hk h => startStep_refused hl (hs hk) (startSetLocationLine_badCode s c h)
  · exact fun hk h4 h5 h6 h => startStep_refused hl (hs hk) (startSetLocationLine_badRoles s c h4 h5 h6 h)
  · exact fun k hk h4 h5 h6 h => startStep_refused hl (hs hk) (startSetLocationLine_stationRunning s c h4 h5 h6 h)
  · exact fun hk h => startStep_refused hl (hs hk) (startSetMapCriteria_badParam s c h)
  · exact fun hk h => startStep_refused hl (hs hk) (startClearCells_badParam s c h)
  · exact fun hk h => startStep_refused hl (hs hk) (startCopyMap_badParam s c h)
  · exact fun hk h4 h8 hw => startStep_refused hl (hs hk) (startCopyMap_overlap s c h4 h8 hw)
  · exact fun hk h => startStep_refused hl (hs hk) (startHoldSegment_badParam s c h)
  · exact fun i hk h4 => ⟨fun hm => startStep_refused hl (hs hk) (startHoldSegment_notReady s c h4 hm),
      fun m hm h5 => startStep_refused hl (hs hk) (startHoldSegment_noSegment s c h4 hm h5)⟩
  · exact fun hk h => startStep_refused hl (hs hk) (startReleaseHold_badParam s c h)
  · intro i hk h4 h5
    refine ⟨fun hm => startStep_refused hl (hs hk) (startReleaseHold_notReady s c h4 h5 hm),
      fun m hm h255 hb => startStep_refused hl (hs hk) (startReleaseHold_noSegment s c h4 h5 hm h255 hb), fun hm hb hn => ?_⟩
    obtain ⟨m, hm'⟩ := Option.ne_none_iff_exists'.mp hm
    exact startStep_refused hl (hs hk) (startReleaseHold_notFound s c h4 h5 hm' (hb m hm') hn)
  · exact fun hk h1 h2 => startStep_refused hl (hs hk) (by unfold startAbort; rw [if_pos ⟨h1, h2⟩])
  · exact fun hk h => startStep_refused hl (hs hk) (startSetNoticeRing_badParam s c h)
  · exact fun hk h4 h16 h1 h2 h3 hw =>
      startStep_refused hl (hs hk) (startSetNoticeRing_overlap s c ⟨h4, h16, h1, h2, h3⟩ hw)
  · exact fun hk h => startStep_refused hl (hs hk) (startSetStatusBlock_badParam s c h)
  · exact fun hk h hw => startStep_refused hl (hs hk) (startSetStatusBlock_overlap s c h hw)
  · exact fun hk h => startStep_refused hl (hs hk) (startWriteStatus_notReady s c h)

end Sys2Proof.Machine
end

section
/-! ## Rules of the state's operations

What setting a lane, a station or a segment record twice comes to, and that what a write does to its lane neither reads
nor touches the path unit. -/

namespace Sys2Proof.Machine

open Sys2Proof.Safety

set_option Elab.async false

/-! ### Writing twice -/

@[simp] theorem State.setLane_setLane (s : State) (i : Fin 16) (x y : Lane) : (s.setLane i x).setLane i y = s.setLane i y := by
  simp [State.setLane]

@[simp] theorem State.onLane_setLane (s : State) (i : Fin 16) (x : Lane) (f : Lane → Lane) :
    (s.setLane i x).onLane i f = s.setLane i (f x) := by
  simp [State.onLane]

@[simp] theorem State.setStation_setStation (s : State) (k : Fin 4) (x y : Station) :
    (s.setStation k x).setStation k y = s.setStation k y := by
  simp [State.setStation]

@[simp] theorem State.onStation_setStation (s : State) (k : Fin 4) (x : Station) (f : Station → Station) :
    (s.setStation k x).onStation k f = s.setStation k (f x) := by
  simp [State.onStation]

/-- Setting a lane to what it is changes nothing. -/
theorem State.setLane_self (s : State) (i : Fin 16) : s.setLane i (s.lane i) = s := by
  simp [State.setLane, State.lane, Vector.get_eq_getElem]

/-- Setting a station to what it is changes nothing. -/
theorem State.setStation_self (s : State) (k : Fin 4) : s.setStation k (s.station k) = s := by
  simp [State.setStation, State.station, Vector.get_eq_getElem]

theorem State.station_setLane (s : State) (i : Fin 16) (x : Lane) (k : Fin 4) :
    (s.setLane i x).station k = s.station k := rfl
theorem State.seg_setLane (s : State) (i j : Fin 16) (x : Lane) : (s.setLane i x).seg j = s.seg j := rfl
theorem State.lane_setSeg (s : State) (i j : Fin 16) (g : Segs) : (s.setSeg i g).lane j = s.lane j := rfl
theorem State.lane_setStation (s : State) (i : Fin 16) (k : Fin 4) (x : Station) :
    (s.setStation k x).lane i = s.lane i := rfl

/-! ### The mapping of a lane: its station and role -/

section
variable {l : Lane} {m : Mapping} (h : l.mapping = some m)
include h

theorem Lane.stationOf_eq : l.stationOf = some m.station := by rw [Lane.stationOf, h]; rfl

theorem Lane.isVibration_eq : l.isVibration = decide (m.role = .vibration) := by
  unfold Lane.isVibration; rw [h]; dsimp only; cases m.role <;> rfl

theorem Lane.isAE_eq : l.isAE = decide (m.role ≠ .vibration) := by
  unfold Lane.isAE; rw [h]; dsimp only; cases m.role <;> rfl

theorem Lane.aeRole_of_ae {r : Fin 6} (hr : m.role = .ae r) : l.aeRole = some r := by
  unfold Lane.aeRole; rw [h]; dsimp only; rw [hr]

theorem Lane.aeRole_of_vibration (hr : m.role = .vibration) : l.aeRole = none := by
  unfold Lane.aeRole; rw [h]; dsimp only; rw [hr]

end

/-- A station's lanes and vibration lane depend on the mappings alone. -/
theorem State.lanesOf_congr {s t : State} (h : ∀ i, (t.lane i).mapping = (s.lane i).mapping) (k : Fin 4) :
    t.lanesOf k = s.lanesOf k := by
  unfold State.lanesOf Lane.serves Lane.stationOf
  simp only [h]

theorem State.vibrationLane_congr {s t : State} (h : ∀ i, (t.lane i).mapping = (s.lane i).mapping) (k : Fin 4) :
    t.vibrationLane k = s.vibrationLane k := by
  unfold State.vibrationLane
  rw [State.lanesOf_congr h]
  congr 1
  funext i
  unfold Lane.isVibration
  rw [h i]

/-- Setting a lane that keeps its mapping leaves all mappings. -/
theorem State.mapping_setLane {s : State} {i : Fin 16} {x : Lane} (h : x.mapping = (s.lane i).mapping) (j : Fin 16) :
    ((s.setLane i x).lane j).mapping = (s.lane j).mapping := by
  rcases eq_or_ne j i with rfl | hne
  · rw [State.lane_setLane]; exact h
  · rw [State.lane_setLane_ne s x hne]

/-! ### The path unit is neither read nor touched (chapters 1 to 6) -/

/-- The state with another path unit. -/
def State.withPath (s : State) (p : Path) : State := { s with path := p }

section
variable (s : State) (p : Path)

theorem withPath_self : s.withPath s.path = s := rfl
theorem lane_withPath (i : Fin 16) : (s.withPath p).lane i = s.lane i := rfl
theorem station_withPath (k : Fin 4) : (s.withPath p).station k = s.station k := rfl
theorem seg_withPath (i : Fin 16) : (s.withPath p).seg i = s.seg i := rfl
theorem setLane_withPath (i : Fin 16) (x : Lane) : (s.withPath p).setLane i x = (s.setLane i x).withPath p := rfl
theorem onLane_withPath (i : Fin 16) (f : Lane → Lane) : (s.withPath p).onLane i f = (s.onLane i f).withPath p := rfl
theorem setStation_withPath (k : Fin 4) (x : Station) : (s.withPath p).setStation k x = (s.setStation k x).withPath p := rfl
theorem onStation_withPath (k : Fin 4) (f : Station → Station) :
    (s.withPath p).onStation k f = (s.onStation k f).withPath p := rfl
theorem handNotice_withPath (n : Notice) : handNotice (s.withPath p) n = (handNotice s n).withPath p := rfl

theorem handNotices_withPath (ns : List Notice) : handNotices (s.withPath p) ns = (handNotices s ns).withPath p := by
  rw [handNotices_eq, handNotices_eq]; rfl

theorem makePending_withPath (i : Fin 16) (n : Nat) (r : HoldReason) :
    makePending (s.withPath p) i n r = (makePending s i n r).withPath p := by
  unfold makePending
  cases h : (s.seg i).table with
  | none => rw [show ((s.withPath p).seg i).table = none from h]
  | some t => rw [show ((s.withPath p).seg i).table = some t from h]; rfl

theorem eventPin_withPath (c : Nat) (i : Fin 16) (n : Nat) :
    eventPin (s.withPath p) c i n = (eventPin s c i n).withPath p := by
  unfold eventPin
  rw [show pinCase (s.withPath p) i n = pinCase s i n from rfl]
  cases pinCase s i n with
  | made => exact makePending_withPath s p i n _
  | merged st => rfl
  | full => rfl
  | notFound => rfl

theorem eventPins_withPath (ms : List Hit) (c : Nat) :
    ms.foldl (fun s h => eventPin s c h.lane h.segment) (s.withPath p)
      = (ms.foldl (fun s h => eventPin s c h.lane h.segment) s).withPath p := by
  induction ms generalizing s with
  | nil => rfl
  | cons m rest ih => rw [List.foldl_cons, eventPin_withPath, ih, List.foldl_cons]

theorem creditEvent_withPath (k : Fin 4) (ids : List Nat) (ms : List Hit) (e : EventTally) :
    creditEvent (s.withPath p) k ids ms e = (creditEvent s k ids ms e).withPath p := by
  unfold creditEvent
  dsimp only
  rw [station_withPath]
  rw [setStation_withPath]
  split
  · rfl
  · exact eventPins_withPath _ p ms _

theorem formEvent_withPath (k : Fin 4) (h0 : Hit) (e : Bool) :
    formEvent (s.withPath p) k h0 e = (formEvent s k h0 e).withPath p := by
  unfold formEvent
  dsimp only
  rw [station_withPath]
  split
  · rw [setStation_withPath]; exact creditEvent_withPath _ p k _ _ _
  · rfl

theorem evaluate_withPath (k : Fin 4) (r : CycleRecord) : evaluate (s.withPath p) k r = (evaluate s k r).withPath p := by
  unfold evaluate
  dsimp only
  rw [station_withPath, setStation_withPath]
  exact handNotices_withPath _ p _

theorem closeHeads_withPath (n : Nat) (k : Fin 4) : closeHeads n (s.withPath p) k = (closeHeads n s k).withPath p := by
  induction n generalizing s with
  | zero => rfl
  | succ n ih =>
    unfold closeHeads
    rw [show closeCheck (s.withPath p) k = closeCheck s k from rfl]
    cases closeCheck s k with
    | none => rfl
    | some r => dsimp only; rw [evaluate_withPath]; exact ih _

theorem passLoop_withPath (n : Nat) (k : Fin 4) : passLoop n (s.withPath p) k = (passLoop n s k).withPath p := by
  induction n generalizing s with
  | zero => exact closeHeads_withPath s p _ k
  | succ n ih =>
    have hc := closeHeads_withPath s p (s.station k).boundary.length k
    unfold passLoop
    dsimp only
    rw [show ((s.withPath p).station k).boundary.length = (s.station k).boundary.length from rfl, hc]
    generalize closeHeads (s.station k).boundary.length s k = t
    cases ht : (t.station k).pool with
    | nil => rw [show ((t.withPath p).station k).pool = [] from ht]
    | cons h0 rest =>
      rw [show ((t.withPath p).station k).pool = h0 :: rest from ht]
      dsimp only
      rw [show ∀ x, reached (t.withPath p) k x = reached t k x from fun _ => rfl,
        show ((t.withPath p).station k).settings = (t.station k).settings from rfl]
      split
      · rw [formEvent_withPath]; exact ih _
      · rfl

theorem formingPass_withPath (k : Fin 4) : formingPass (s.withPath p) k = (formingPass s k).withPath p :=
  passLoop_withPath s p _ k

theorem withPoolRoom_withPath (k : Fin 4) : withPoolRoom (s.withPath p) k = (withPoolRoom s k).withPath p := by
  unfold withPoolRoom
  cases hp : (s.station k).pool with
  | nil => rw [show ((s.withPath p).station k).pool = [] from hp]
  | cons h0 rest =>
    rw [show ((s.withPath p).station k).pool = h0 :: rest from hp]
    dsimp only
    split
    · exact formEvent_withPath s p k h0 true
    · rfl

theorem handHit_withPath (k : Fin 4) (h : Hit) : handHit (s.withPath p) k h = (handHit s k h).withPath p := by
  rw [handHit_eq, handHit_eq, withPoolRoom_withPath, onStation_withPath]
  exact formingPass_withPath _ p k

theorem handHit?_withPath (k : Fin 4) (h : Option Hit) : handHit? (s.withPath p) k h = (handHit? s k h).withPath p := by
  cases h with
  | none => rfl
  | some h => exact handHit_withPath s p k h

theorem goBlind_withPath (k : Fin 4) (h : Option SampleTime) (r : FaultReason) :
    goBlind (s.withPath p) k h r = (goBlind s k h r).withPath p := by
  unfold goBlind
  dsimp only
  rw [station_withPath]
  split
  case h_1 | h_2 => rfl
  all_goals
    rw [setStation_withPath, show ∀ u k n a b c d, stationNotice (State.withPath u p) k n a b c d = stationNotice u k n a b c d
      from fun _ _ _ _ _ _ _ => rfl, handNotice_withPath]
    split
    · exact formingPass_withPath _ p k
    · rfl

theorem laneNotice_withPath (n : NoticeKind) (i : Fin 16) (k : Fin 4) (r : Option FaultReason) :
    laneNotice (s.withPath p) n i k r = laneNotice s n i k r := rfl

theorem faultLane_withPath (i : Fin 16) (r : FaultReason) :
    faultLane (s.withPath p) i r = (faultLane s i r).withPath p := by
  unfold faultLane
  dsimp only
  rw [lane_withPath]
  split
  · rfl
  · next k _ =>
    rw [setLane_withPath, handHit?_withPath, onLane_withPath, laneNotice_withPath, handNotice_withPath, lane_withPath]
    split
    · exact goBlind_withPath _ p k _ r
    · split
      · exact formingPass_withPath _ p k
      · rfl

theorem leaveBlind_withPath (k : Fin 4) : leaveBlind (s.withPath p) k = (leaveBlind s k).withPath p := by
  unfold leaveBlind
  rw [station_withPath]
  split <;> rfl

theorem laneStation_withPath (l : Lane) : laneStation (s.withPath p) l = laneStation s l := rfl

theorem recoverLane_withPath (i : Fin 16) : recoverLane (s.withPath p) i = (recoverLane s i).withPath p := by
  unfold recoverLane
  dsimp only
  rw [lane_withPath]
  split
  · rfl
  · rw [laneStation_withPath, setLane_withPath, laneNotice_withPath, handNotice_withPath]
    split
    · exact leaveBlind_withPath _ p _
    · rfl

theorem decideCmd_withPath (slot : Fin 32) (r : Result) (d : BitVec 16) (aw : List Nat) :
    decideCmd (s.withPath p) slot r d aw = (decideCmd s slot r d aw).withPath p := by
  unfold decideCmd
  rw [show (s.withPath p).cmdAt slot = s.cmdAt slot from rfl]
  cases s.cmdAt slot with
  | none => rfl
  | some c => dsimp only; split <;> rfl

theorem endTest_withPath (i : Fin 16) (r : TestResult) : endTest (s.withPath p) i r = (endTest s i r).withPath p := by
  unfold endTest
  rw [lane_withPath]
  cases (s.lane i).test with
  | none => rfl
  | some x => dsimp only; rw [onLane_withPath]; exact decideCmd_withPath _ p _ _ _ _

theorem testVerdict_withPath (i : Fin 16) : testVerdict (s.withPath p) i = (testVerdict s i).withPath p := by
  unfold testVerdict
  rw [lane_withPath]
  cases (s.lane i).test with
  | none => rfl
  | some x =>
    dsimp only
    split
    · exact endTest_withPath s p i _
    · rfl

theorem beginBlock_withPath (i : Fin 16) : beginBlock (s.withPath p) i = (beginBlock s i).withPath p := by
  unfold beginBlock
  dsimp only
  rw [lane_withPath]
  split
  · split
    case h_1 | h_5 | h_6 => rfl
    case h_2 | h_3 | h_4 => rw [setLane_withPath]; exact handHit?_withPath _ p _ _
  · rfl

theorem enterQueue_withPath (i : Fin 16) (d : BlockData) (gap : Bool) (n : Nat) (u : Bool) :
    enterQueue (s.withPath p) i d gap n u = (enterQueue s i d gap n u).withPath p := by
  unfold enterQueue
  dsimp only
  rw [lane_withPath]
  rw [setLane_withPath]
  split
  · exact beginBlock_withPath _ p i
  · rfl

theorem offerBlock_withPath (i : Fin 16) (d : BlockData) (gap : Bool) (n : Nat) :
    offerBlock (s.withPath p) i d gap n = (offerBlock s i d gap n).withPath p := by
  unfold offerBlock
  rw [lane_withPath]
  split
  · exact enterQueue_withPath s p i d gap n false
  · rfl

theorem testGood_withPath (i : Fin 16) (r : TestRun) (d : BlockData) (g n : Nat) :
    testGood (s.withPath p) i r d g n = (testGood s i r d g n).withPath p := by
  unfold testGood
  dsimp only
  rw [lane_withPath]
  split
  · split
    · split
      · rw [onLane_withPath]; exact enterQueue_withPath _ p i d _ n _
      · rfl
    · rfl
  · rfl

theorem testBad_withPath (i : Fin 16) (r : TestRun) : testBad (s.withPath p) i r = (testBad s i r).withPath p := by
  unfold testBad
  split <;> rfl

theorem goodBlock_withPath (i : Fin 16) (d : BlockData) (g n : Nat) :
    goodBlock (s.withPath p) i d g n = (goodBlock s i d g n).withPath p := by
  unfold goodBlock
  dsimp only
  rw [show extendRange ((s.withPath p).onLane i fun l => l.checkedGood d g) i n d.first
    = (extendRange (s.onLane i fun l => l.checkedGood d g) i n d.first).withPath p from rfl]
  generalize extendRange (s.onLane i fun l => l.checkedGood d g) i n d.first = t
  rw [lane_withPath]
  split
  · rw [onLane_withPath]
    generalize State.onLane t i _ = u
    rw [lane_withPath]
    split
    · exact recoverLane_withPath u p i
    · rfl
  · rw [testGood_withPath]; exact testVerdict_withPath _ p i
  · rfl
  · rfl
  · exact offerBlock_withPath t p i d _ n

theorem badBlock_withPath (i : Fin 16) (r : FaultReason) : badBlock (s.withPath p) i r = (badBlock s i r).withPath p := by
  unfold badBlock
  dsimp only
  rw [onLane_withPath]
  generalize s.onLane i _ = t
  rw [lane_withPath]
  split
  · rfl
  · rw [testBad_withPath]; exact testVerdict_withPath _ p i
  · rfl
  · rfl
  · rw [onLane_withPath]
    generalize State.onLane t i _ = u
    rw [lane_withPath]
    split
    · exact faultLane_withPath u p i r
    · rfl

theorem laneSeesWrite_withPath (i : Fin 16) (t : Transfer) (n : Nat) :
    laneSeesWrite (s.withPath p) i t n = (laneSeesWrite s i t n).withPath p := by
  unfold laneSeesWrite
  dsimp only
  rw [onLane_withPath]
  generalize s.onLane i _ = u
  rw [lane_withPath]
  split
  · exact goodBlock_withPath u p i _ _ n
  · exact badBlock_withPath u p i _

theorem serveHold_withPath (i : Fin 16) (m : Mapping) (g : Segs) (t : SegTable) (n : Nat) :
    serveHold (s.withPath p) i m g t n = (serveHold s i m g t n).withPath p := by
  unfold serveHold
  rw [show (s.withPath p).holds = s.holds from rfl]
  split
  · rfl
  · dsimp only; split <;> rfl

theorem reportWrite_withPath (i : Fin 16) (m : Mapping) (n : Nat) :
    reportWrite (s.withPath p) i m n = (reportWrite s i m n).withPath p := by
  unfold reportWrite
  rw [seg_withPath]
  split
  · rfl
  · dsimp only
    split
    · rfl
    · rw [serveHold_withPath]; rfl

theorem laneWrite_withPath (i : Fin 16) (m : Mapping) (t : Transfer) :
    laneWrite (s.withPath p) i m t = ((laneWrite s i m t).1.withPath p, (laneWrite s i m t).2) := by
  unfold laneWrite
  dsimp only
  split
  · rw [reportWrite_withPath, show ∀ u, mapOf (u.withPath p) i = mapOf u i from fun _ => rfl, laneSeesWrite_withPath]
  · rfl

end

end Sys2Proof.Machine
end

section
/-! ## The issue of a write in a lane window (R6, R117, R131, R138) -/

namespace Sys2Proof.Machine

open Sys2Proof.Safety

set_option Elab.async false

/-- R131, step 3, R138: the path unit once transfer `a` has gone out at `addr`. -/
def issuedPath (s : State) (a : Accepted) (addr : Addr) (ring : List Nat) : Path :=
  { s.path with
    starvation := if waitingOwn s = none then 0 else s.path.starvation + 1
    accepted := s.path.accepted.map fun x => if x.id = a.id then { x with phase := .issued ring } else x
    memPort := s.path.memPort ++ [{ own := false, id := a.id, master := a.t.master, addr := addr, payload := a.t.payload }] }

/-- R138: when the port issues the ready transfer that arrived first. -/
theorem execForwardedIssue_issues {s : State} {a : Accepted} (ho : OutOfReset s) (hr : firstReady s = some a)
    (hw : waitingOwn s = none ∨ s.path.starvation < 8) :
    exec .forwardedIssue s = .next (commit s (issueForwarded s a)) := by
  have hg : (!s.path.resetLow && ((waitingOwn s).isNone || decide (s.path.starvation < Config.starvationMax))) = true := by
    simp only [show s.path.resetLow = false from ho, Bool.not_false, Bool.true_and, Bool.or_eq_true,
      Option.isNone_iff_eq_none, decide_eq_true_eq]
    exact hw
  show execForwardedIssue s = _
  unfold execForwardedIssue
  rw [hr]
  exact if_pos hg

/-- R136: a write has no beat in the notice ring to report. -/
theorem ringOffsets_write {s : State} {t : Transfer} {bs : List Beat} (h : t.payload = .write bs) :
    ringOffsets s t = [] := by
  unfold ringOffsets; rw [h]

theorem laneAt_withPath (s : State) (p : Path) (addr : Nat) : laneAt (s.withPath p) addr = laneAt s addr := rfl

/-- R136: a write whose address lies in a lane's window is that lane's. -/
theorem writeEffects_laneWrite {s : State} {i : Fin 16} {m : Mapping} {t : Transfer} (p : Path)
    (ha : laneAt s t.addr.toNat = some (i, m)) :
    writeEffects (s.withPath p) t = ((laneWrite s i m t).1.withPath p, (laneWrite s i m t).2) := by
  unfold writeEffects
  rw [laneAt_withPath, ha]
  exact laneWrite_withPath s p i m t

/-- R138: the path unit at an issue, the starvation count settled. -/
def startedPath (s : State) : Path :=
  { s.path with starvation := if (waitingOwn s).isSome then s.path.starvation + 1 else 0 }

theorem issueForwarded_eq (s : State) (a : Accepted) :
    issueForwarded s a =
      putOut (setPhase (if isWrite a.t then writeEffects (s.withPath (startedPath s)) a.t
          else (s.withPath (startedPath s), a.t.addr)).1 a.id (.issued (ringOffsets s a.t)))
        { own := false, id := a.id, master := a.t.master
          addr := (if isWrite a.t then writeEffects (s.withPath (startedPath s)) a.t
            else (s.withPath (startedPath s), a.t.addr)).2
          payload := a.t.payload } := rfl

/-- R131, R136: the issue of a write in a lane window takes the lane's effect, of which the path unit is no part. -/
theorem issueForwarded_laneWrite {s : State} {a : Accepted} {i : Fin 16} {m : Mapping} {bs : List Beat}
    (hp : a.t.payload = .write bs) (ha : laneAt s a.t.addr.toNat = some (i, m)) :
    issueForwarded s a = (laneWrite s i m a.t).1.withPath (issuedPath s a (laneWrite s i m a.t).2 []) := by
  have hiw : isWrite a.t = true := by unfold isWrite; rw [hp]
  have hst : (startedPath s).starvation = if waitingOwn s = none then 0 else s.path.starvation + 1 := by
    unfold startedPath
    cases waitingOwn s <;> rfl
  rw [issueForwarded_eq, if_pos hiw, writeEffects_laneWrite _ ha, ringOffsets_write hp]
  unfold issuedPath
  rw [← hst]
  rfl

/-- R6, R130: a write that the lane does not see is counted, and keeps its address. -/
theorem laneWrite_foreign {s : State} {i : Fin 16} {m : Mapping} {t : Transfer}
    (h : t.master ≠ m.master ∨ m.logical ≤ logicalOf m t.addr.toNat) :
    laneWrite s i m t = (s.onLane i Lane.countForeign, t.addr) := by
  unfold laneWrite
  exact if_neg fun ⟨h1, h2⟩ => h.elim (· h1) (Nat.not_le.mpr h2)

/-- Settles O11. -/
theorem foreignWriteCounted : Obligations.ForeignWriteCounted := by
  intro s a i m bs ho hr hw hp ha hf
  rw [execForwardedIssue_issues ho hr hw, issueForwarded_laneWrite hp ha, laneWrite_foreign hf]
  rfl

end Sys2Proof.Machine
end

section
/-! ## The lane block and its check (R7 to R9, 10 10.2) -/

namespace Sys2Proof.Machine

open Sys2Proof.Safety

set_option Elab.async false

/-! ### The fields of a block (10 10.2) -/

theorem samplesAt_length (l : List Byte) (n i : Nat) : (samplesAt l n i).length = n := by
  induction n generalizing i with
  | zero => rfl
  | succ n ih => rw [samplesAt, List.length_cons, ih]

theorem samplesAt_getElem? (l : List Byte) {n j : Nat} (i : Nat) (h : j < n) :
    (samplesAt l n i)[j]? = some (BitVec.ofNat 16 (u16 l (i + 2 * j))) := by
  induction n generalizing i j with
  | zero => exact absurd h (Nat.not_lt_zero j)
  | succ n ih =>
    rw [samplesAt]
    cases j with
    | zero => rfl
    | succ j => rw [List.getElem?_cons_succ, ih (i + 2) (Nat.lt_of_succ_lt_succ h)]; congr 3; omega

/-- Bit `n` of a byte of a record, as a quotient. -/
theorem getLsbD_byteAt_iff (l : List Byte) (i n : Nat) : (byteAt l i).getLsbD n = true ↔ u8 l i / 2 ^ n % 2 = 1 := by
  rw [BitVec.getLsbD, Nat.testBit_eq_decide_div_mod_eq, decide_eq_true_eq]
  rfl

theorem blockData_fields (l : List Byte) :
    let d := blockData l
    d.sync = u8 l 0 ∧ d.laneId = u8 l 1 % 16 ∧ (d.overload = true ↔ u8 l 1 / 16 % 2 = 1)
    ∧ (d.testFlag = true ↔ u8 l 1 / 32 % 2 = 1) ∧ d.sequence.toNat = u16 l 2 ∧ d.first.toNat = u32 l 4
    ∧ d.samples.length = 60 ∧ ∀ n < 60, d.samples[n]? = some (BitVec.ofNat 16 (u16 l (8 + 2 * n))) :=
  ⟨rfl, rfl, getLsbD_byteAt_iff l 1 4, getLsbD_byteAt_iff l 1 5,
    by rw [blockData, BitVec.toNat_ofNat, Nat.mod_eq_of_lt (u16_lt l 2)],
    by rw [blockData, BitVec.toNat_ofNat, Nat.mod_eq_of_lt (u32_lt l 4)],
    samplesAt_length l 60 8, fun _ hn => samplesAt_getElem? l 8 hn⟩

/-! ### The check of a write (R7 to R9) -/

section
variable {t : Transfer} {bs : List Beat} (hp : t.payload = .write bs)
include hp

theorem writeBeats_write : writeBeats t = bs := by unfold writeBeats; rw [hp]

theorem isBlock_iff : isBlock t = true ↔
    bs.length = 16 ∧ t.addr.toNat % 128 = 0 ∧ ∀ b ∈ bs, ∀ x ∈ b.strobes.toList, x = true := by
  unfold isBlock
  rw [writeBeats_write hp, hp, Bool.and_eq_true, Bool.and_eq_true, decide_eq_true_eq, decide_eq_true_eq]
  simp only [List.all_eq_true, id_eq, and_assoc, Payload.beats]

/-- The block that a write carries. -/
theorem blockData_write : blockData (bytesOf (writeBeats t)) = blockData (bs.flatMap fun b => b.bytes.toList) := by
  rw [writeBeats_write hp]; rfl

end

section
variable {i : Fin 16} {prev : Option (BitVec 16 × SampleTime)} {t : Transfer}

theorem checkWrite_torn (h : ¬isBlock t = true) : checkWrite i prev t = .bad .torn := by
  unfold checkWrite; rw [if_pos (by simpa using h)]

theorem checkWrite_sync (h : isBlock t = true) (hs : (blockData (bytesOf (writeBeats t))).sync ≠ 0xA7) :
    checkWrite i prev t = .bad .sync := by
  unfold checkWrite; rw [if_neg (by simp [h])]; exact if_pos hs

theorem checkWrite_laneId (h : isBlock t = true) (hs : (blockData (bytesOf (writeBeats t))).sync = 0xA7)
    (hi : (blockData (bytesOf (writeBeats t))).laneId ≠ i.val) : checkWrite i prev t = .bad .laneId := by
  unfold checkWrite; rw [if_neg (by simp [h])]; dsimp only; rw [if_neg (not_not.mpr hs), if_pos hi]

/-- R9: a whole block of the lane's own identity is judged by its sequence and time alone. -/
theorem checkWrite_named (h : isBlock t = true) (hs : (blockData (bytesOf (writeBeats t))).sync = 0xA7)
    (hi : (blockData (bytesOf (writeBeats t))).laneId = i.val) :
    checkWrite i prev t = sequenceCheck prev (blockData (bytesOf (writeBeats t))) := by
  unfold checkWrite; rw [if_neg (by simp [h])]; dsimp only; rw [if_neg (not_not.mpr hs), if_neg (not_not.mpr hi)]

end

theorem toNat_sub_eq_zero_iff (a b : BitVec 16) : (a - b).toNat = 0 ↔ a = b := by
  constructor
  · intro h
    have : a - b = 0#16 := BitVec.eq_of_toNat_eq (by simpa using h)
    exact sub_eq_zero.mp this
  · rintro rfl; simp

theorem sequenceCheck_slip {q : BitVec 16} {f : SampleTime} {d : BlockData}
    (h : d.sequence = q ∨ d.first ≠ f + BitVec.ofNat 32 (60 * (d.sequence - q).toNat)) :
    sequenceCheck (some (q, f)) d = .bad .slip := by
  unfold sequenceCheck
  dsimp only
  split
  · rfl
  · next hn =>
    have hne : d.sequence ≠ q := fun e => hn ((toNat_sub_eq_zero_iff _ _).mpr e)
    rw [if_neg (h.resolve_left hne)]

theorem sequenceCheck_good {q : BitVec 16} {f : SampleTime} {d : BlockData} {missing : Nat}
    (hn : (d.sequence - q).toNat = missing + 1) (hf : d.first = f + BitVec.ofNat 32 (60 * (missing + 1))) :
    sequenceCheck (some (q, f)) d = .good d missing := by
  unfold sequenceCheck
  dsimp only
  rw [hn, if_neg (Nat.succ_ne_zero missing), if_pos hf, Nat.add_sub_cancel]

/-- R9: a block slips, or it follows the continuity record with so many blocks missing. -/
theorem slip_or_good (q : BitVec 16) (f : SampleTime) (d : BlockData) :
    (d.sequence = q ∨ d.first ≠ f + BitVec.ofNat 32 (60 * (d.sequence - q).toNat))
    ∨ ∃ missing, (d.sequence - q).toNat = missing + 1 ∧ d.first = f + BitVec.ofNat 32 (60 * (missing + 1)) := by
  by_cases h : d.sequence = q ∨ d.first ≠ f + BitVec.ofNat 32 (60 * (d.sequence - q).toNat)
  · exact .inl h
  · obtain ⟨hne, hf⟩ := not_or.mp h
    have hpos : (d.sequence - q).toNat ≠ 0 := fun e => hne ((toNat_sub_eq_zero_iff _ _).mp e)
    obtain ⟨n, hn⟩ := Nat.exists_eq_succ_of_ne_zero hpos
    exact .inr ⟨n, hn, by rw [not_not.mp hf, hn]⟩

/-! ### The report of a write (R117, R118) -/

/-- R124, R125: the service of a hold keeps the table's length. -/
theorem serveHold_table {s : State} {i : Fin 16} {m : Mapping} {t : SegTable} {k : Nat}
    (ht : (s.seg i).table = some t) :
    ∃ t1, ((serveHold s i m (s.seg i) t k).seg i).table = some t1 ∧ t1.map.length = t.map.length := by
  unfold serveHold
  split
  · exact ⟨t, ht, rfl⟩
  · dsimp only
    split
    · next q free _ =>
      refine ⟨{ t with map := t.map.set k q, free := free }, ?_, List.length_set⟩
      rw [State.seg_congr (handNotice_segs _ _)]
      exact congrArg Segs.table (State.seg_setSeg s i _)
    · exact ⟨t, by rw [State.seg_congr (handNotice_segs _ _)]; exact ht, rfl⟩

/-- R118: once the report is taken the written segment is mapped and is the write position. -/
theorem reportWrite_table {s : State} {i : Fin 16} {m : Mapping} {k : Nat} (hl : SegmentLaw s)
    (hm : (s.lane i).mapping = some m) (hk : k < m.logical) :
    ∃ tb p, ((reportWrite s i m k).seg i).table = some tb ∧ tb.map[k]? = some p ∧ tb.position = some k := by
  have hi := hl.2 i
  rw [hm] at hi
  obtain ⟨t, ht, hlen, -⟩ := hi
  unfold reportWrite
  rw [ht]
  dsimp only
  split
  · next hpos =>
    exact ⟨t, t.map[k]'(hlen ▸ hk), ht, List.getElem?_eq_getElem _, hpos⟩
  · obtain ⟨t1, ht1, hlen1⟩ := serveHold_table (m := m) (k := k) ht
    have hk1 : k < t1.map.length := by rw [hlen1, hlen]; exact hk
    refine ⟨restartRange t1 k, t1.map[k], ?_, List.getElem?_eq_getElem hk1, rfl⟩
    rw [State.seg_setSeg, ht1]
    rfl

theorem mapOf_eq {s : State} {i : Fin 16} {k p : Nat} {tb : SegTable} (ht : (s.seg i).table = some tb)
    (hp : tb.map[k]? = some p) : mapOf s i k = p := by
  unfold mapOf; rw [ht]; dsimp only; rw [List.getD_eq_getElem?_getD, hp]; rfl

/-- R136: the lane at an address is mapped there. -/
theorem laneAt_mapping {s : State} {addr : Nat} {i : Fin 16} {m : Mapping} (h : laneAt s addr = some (i, m)) :
    (s.lane i).mapping = some m := by
  unfold laneAt at h
  obtain ⟨j, -, hj⟩ := List.exists_of_findSome?_eq_some h
  split at hj
  · next x hx =>
    split at hj <;> cases hj
    exact hx
  · cases hj

/-- R117: a write of the lane's master into its logical area. -/
theorem laneWrite_own {s : State} {i : Fin 16} {m : Mapping} {t : Transfer} (hm : t.master = m.master)
    (hk : logicalOf m t.addr.toNat < m.logical) :
    laneWrite s i m t
      = (laneSeesWrite (reportWrite s i m (logicalOf m t.addr.toNat)) i t
          (mapOf (reportWrite s i m (logicalOf m t.addr.toNat)) i (logicalOf m t.addr.toNat)),
        redirect m (mapOf (reportWrite s i m (logicalOf m t.addr.toNat)) i (logicalOf m t.addr.toNat)) t.addr.toNat) := by
  unfold laneWrite; exact if_pos ⟨hm, hk⟩

end Sys2Proof.Machine
end

section
/-! ## What one lane's work leaves alone

`OnlyLane i s t` says of a part of a step that it changes no lane but `i`, keeps that lane's mapping, and leaves every
segment map and write position. It composes, so each operation is proved once from the operations it is made of. -/

namespace Sys2Proof.Machine

open Sys2Proof.Safety

set_option Elab.async false

/-- The map and the write position of a segment record. -/
def Segs.layout (g : Segs) : Option (List Nat × Option Nat) := g.table.map fun t => (t.map, t.position)

/-- Of the lanes lane `i` alone changes, not its mapping; the segment maps and write positions stand. -/
structure OnlyLane (i : Fin 16) (s t : State) : Prop where
  others : ∀ j, j ≠ i → t.lane j = s.lane j
  mapping : (t.lane i).mapping = (s.lane i).mapping
  layout : ∀ j, (t.seg j).layout = (s.seg j).layout

namespace OnlyLane

variable {i : Fin 16} {s t u : State}

@[refl] theorem refl (i : Fin 16) (s : State) : OnlyLane i s s := ⟨fun _ _ => rfl, rfl, fun _ => rfl⟩

theorem trans (h : OnlyLane i s t) (h' : OnlyLane i t u) : OnlyLane i s u :=
  ⟨fun j hj => (h'.others j hj).trans (h.others j hj), h'.mapping.trans h.mapping,
   fun j => (h'.layout j).trans (h.layout j)⟩

/-- A change to no lane and no segment record. -/
theorem of_same (i : Fin 16) (hl : t.lanes = s.lanes := by simp) (hg : t.segs = s.segs := by simp) : OnlyLane i s t :=
  ⟨fun j _ => State.lane_congr hl j, by rw [State.lane_congr hl], fun j => by rw [State.seg_congr hg]⟩

/-- A change to no lane that keeps the segment maps and write positions. -/
theorem of_lanes (hl : t.lanes = s.lanes) (hg : ∀ j, (t.seg j).layout = (s.seg j).layout) : OnlyLane i s t :=
  ⟨fun j _ => State.lane_congr hl j, by rw [State.lane_congr hl], hg⟩

/-- All mappings stand. -/
theorem mappings (h : OnlyLane i s t) (j : Fin 16) : (t.lane j).mapping = (s.lane j).mapping := by
  rcases eq_or_ne j i with rfl | hne
  · exact h.mapping
  · rw [h.others j hne]

end OnlyLane

section
variable {i : Fin 16}

theorem only_setLane (s : State) (x : Lane) (h : x.mapping = (s.lane i).mapping := by rfl) : OnlyLane i s (s.setLane i x) :=
  ⟨fun _ hj => State.lane_setLane_ne s x hj, by rw [State.lane_setLane]; exact h, fun _ => rfl⟩

theorem only_onLane (s : State) (f : Lane → Lane) (h : (f (s.lane i)).mapping = (s.lane i).mapping := by rfl) :
    OnlyLane i s (s.onLane i f) := only_setLane s _ h

/-- Another segment record with the same map and write position. -/
theorem layout_setSeg (s : State) (k : Fin 16) (g : Segs) (h : g.layout = (s.seg k).layout) (j : Fin 16) :
    ((s.setSeg k g).seg j).layout = (s.seg j).layout := by
  rcases eq_or_ne j k with rfl | hne
  · rw [State.seg_setSeg]; exact h
  · rw [State.seg_setSeg_ne _ _ hne]

theorem only_extendRange (s : State) (p : Nat) (t : SampleTime) : OnlyLane i s (extendRange s i p t) :=
  .of_lanes rfl (layout_setSeg s i _ (by
    unfold Segs.layout
    cases (s.seg i).table <;> rfl))

/-! ### Hits, events and evaluations (chapters 4 and 5) -/

theorem layout_eventPin (s : State) (c : Nat) (l : Fin 16) (p : Nat) (j : Fin 16) :
    ((eventPin s c l p).seg j).layout = (s.seg j).layout := by
  unfold eventPin
  split
  · rw [State.seg_congr (makePending_segs _ _ _ _)]
  · rfl
  · exact layout_setSeg s l _ (by rfl) j
  · exact layout_setSeg s l _ (by rfl) j

theorem layout_creditEvent (s : State) (k : Fin 4) (ids : List Nat) (ms : List Hit) (e : EventTally) (j : Fin 16) :
    ((creditEvent s k ids ms e).seg j).layout = (s.seg j).layout := by
  unfold creditEvent
  dsimp only
  split
  · rfl
  · exact eventPins_induct (P := fun t => (t.seg j).layout = (s.seg j).layout)
      (fun t c l p h => (layout_eventPin t c l p j).trans h) ms _ _ rfl

theorem layout_formEvent (s : State) (k : Fin 4) (h0 : Hit) (e : Bool) (j : Fin 16) :
    ((formEvent s k h0 e).seg j).layout = (s.seg j).layout := by
  unfold formEvent
  dsimp only
  split
  · exact layout_creditEvent _ _ _ _ _ j
  · rfl

theorem only_formingPass (s : State) (k : Fin 4) : OnlyLane i s (formingPass s k) :=
  .of_lanes (formingPass_lanes s k) fun j =>
    formingPass_induct (P := fun t => (t.seg j).layout = (s.seg j).layout)
      (fun t r _ h => by rw [State.seg_congr (evaluate_segs t k r)]; exact h)
      (fun t h0 _ _ h => (layout_formEvent t k h0 false j).trans h) s rfl

theorem only_handHit (s : State) (k : Fin 4) (h : Hit) : OnlyLane i s (handHit s k h) :=
  .of_lanes (handHit_lanes s k h) fun j =>
    handHit_induct (P := fun t => (t.seg j).layout = (s.seg j).layout)
      (fun t r _ h => by rw [State.seg_congr (evaluate_segs t k r)]; exact h)
      (fun t h0 _ e _ h => (layout_formEvent t k h0 e j).trans h) h (fun _ h => h) s rfl

theorem only_handHit? (s : State) (k : Fin 4) (h : Option Hit) : OnlyLane i s (handHit? s k h) := by
  cases h with
  | none => exact .refl i s
  | some h => exact only_handHit s k h

theorem only_handNotice (s : State) (n : Notice) : OnlyLane i s (handNotice s n) := .of_same i

/-! ### The lane and its station (chapter 1, R55, R56) -/

theorem only_goBlind (s : State) (k : Fin 4) (h : Option SampleTime) (r : FaultReason) : OnlyLane i s (goBlind s k h r) := by
  unfold goBlind
  dsimp only
  split
  case h_1 | h_2 => exact .refl i s
  all_goals
    have h1 (x : Station) (n : Notice) : OnlyLane i s (handNotice (s.setStation k x) n) := .of_same i
    split
    · exact (h1 _ _).trans (only_formingPass _ k)
    · exact h1 _ _

theorem only_leaveBlind (s : State) (k : Fin 4) : OnlyLane i s (leaveBlind s k) := by
  unfold leaveBlind
  split
  · exact .of_same i
  · exact .refl i s

theorem only_faultLane (s : State) (r : FaultReason) : OnlyLane i s (faultLane s i r) := by
  unfold faultLane
  dsimp only
  split
  · exact .refl i s
  · next k _ =>
    have h1 : OnlyLane i s (handHit? (s.setLane i (s.lane i).resetDetector) k ((s.lane i).truncatedHit i)) :=
      (only_setLane s _).trans (only_handHit? _ k _)
    have h2 (n : Notice) := (h1.trans (only_onLane _ fun l => l.faulted r)).trans (only_handNotice _ n)
    split
    · exact (h2 _).trans (only_goBlind _ k _ r)
    · split
      · exact (h2 _).trans (only_formingPass _ k)
      · exact h2 _

theorem only_recoverLane (s : State) : OnlyLane i s (recoverLane s i) := by
  unfold recoverLane
  dsimp only
  split
  · exact .refl i s
  · have h1 (x : Lane) (hx : x.mapping = (s.lane i).mapping) (n : Notice) : OnlyLane i s (handNotice (s.setLane i x) n) :=
      (only_setLane s x hx).trans (only_handNotice _ n)
    split
    · exact (h1 _ (by rfl) _).trans (only_leaveBlind _ _)
    · exact h1 _ (by rfl) _

theorem only_endTest (s : State) (r : TestResult) : OnlyLane i s (endTest s i r) := by
  unfold endTest
  split
  · exact .refl i s
  · next x _ => exact (only_onLane s fun l => l.afterTest x r).trans (.of_same i)

theorem only_testVerdict (s : State) : OnlyLane i s (testVerdict s i) := by
  unfold testVerdict
  split
  · exact .refl i s
  · split
    · exact only_endTest s _
    · exact .refl i s

theorem Lane.beginBlock_mapping (l : Lane) (b : QueuedBlock) : (l.beginBlock b).mapping = l.mapping := by
  have hw : ∀ x : Lane, x.restartWindow.mapping = x.mapping := fun x => by unfold Lane.restartWindow; split <;> rfl
  unfold Lane.beginBlock Lane.markOverload
  dsimp only
  split <;> split <;> simp [Lane.beginAE, Lane.resetDetector, hw]

theorem only_beginBlock (s : State) : OnlyLane i s (beginBlock s i) := by
  unfold beginBlock
  dsimp only
  split
  · split
    case h_1 => exact only_setLane s _
    case h_2 | h_3 | h_4 =>
      exact (only_setLane s _ (Lane.beginBlock_mapping _ _)).trans (only_handHit? _ _ _)
    case h_5 | h_6 => exact .refl i s
  · exact .refl i s

/-! ### A write that the lane sees (R7 to R11, R22) -/

theorem only_enterQueue (s : State) (d : BlockData) (gap : Bool) (p : Nat) (u : Bool) :
    OnlyLane i s (enterQueue s i d gap p u) := by
  unfold enterQueue
  dsimp only
  split
  · exact (only_setLane s _).trans (only_beginBlock _)
  · exact only_setLane s _

theorem only_offerBlock (s : State) (d : BlockData) (gap : Bool) (p : Nat) : OnlyLane i s (offerBlock s i d gap p) := by
  unfold offerBlock
  split
  · exact only_enterQueue s d gap p false
  · exact only_onLane s _

theorem only_testGood (s : State) (r : TestRun) (d : BlockData) (g p : Nat) : OnlyLane i s (testGood s i r d g p) := by
  have h1 (x : TestRun) : OnlyLane i s (s.onLane i fun l => { l with test := some x }) := only_onLane s _
  unfold testGood
  dsimp only
  split
  · split
    · split
      · exact (h1 _).trans (only_enterQueue _ d _ p _)
      · exact (h1 _).trans (only_onLane _ _)
    · exact h1 _
  · exact h1 _

theorem only_testBad (s : State) (r : TestRun) : OnlyLane i s (testBad s i r) := by
  unfold testBad
  split
  · exact only_onLane s _
  · exact .refl i s

theorem only_goodBlock (s : State) (d : BlockData) (g p : Nat) : OnlyLane i s (goodBlock s i d g p) := by
  have h1 : OnlyLane i s (extendRange (s.onLane i fun l => l.checkedGood d g) i p d.first) :=
    (only_onLane s _).trans (only_extendRange _ p _)
  unfold goodBlock
  dsimp only
  split
  · split
    · exact (h1.trans (only_onLane _ _)).trans (only_recoverLane _)
    · exact h1.trans (only_onLane _ _)
  · exact (h1.trans (only_testGood _ _ d g p)).trans (only_testVerdict _)
  · exact h1
  · exact h1
  · exact h1.trans (only_offerBlock _ d _ p)

theorem only_badBlock (s : State) (r : FaultReason) : OnlyLane i s (badBlock s i r) := by
  have h1 : OnlyLane i s (s.onLane i fun l => { l with badBlocks := sat16 l.badBlocks 1 }) := only_onLane s _
  unfold badBlock
  dsimp only
  split
  · exact h1.trans (only_onLane _ _)
  · exact (h1.trans (only_testBad _ _)).trans (only_testVerdict _)
  · exact h1
  · exact h1
  · split
    · exact (h1.trans (only_onLane _ _)).trans (only_faultLane _ r)
    · exact h1.trans (only_onLane _ _)

theorem only_laneSeesWrite (s : State) (t : Transfer) (p : Nat) : OnlyLane i s (laneSeesWrite s i t p) := by
  have h1 : OnlyLane i s (s.onLane i fun l => { l with silenceTimer := l.silenceTimer.map fun _ => 0 }) := only_onLane s _
  unfold laneSeesWrite
  dsimp only
  split
  · exact h1.trans (only_goodBlock _ _ _ p)
  · exact h1.trans (only_badBlock _ _)

end

end Sys2Proof.Machine
end

section
/-! ## What a good and a bad block do to their lane (R10, R11, R14, R16, R17, R22) -/

namespace Sys2Proof.Machine

open Sys2Proof.Safety

set_option Elab.async false

section
variable (s : State) (i : Fin 16) {x : Lane}

/-! ### A bad block -/

/-- R14: the lane record after a bad block. -/
def Lane.countBad (l : Lane) : Lane := { l with badBlocks := sat16 l.badBlocks 1 }

theorem badBlock_running (h : x.state = .idle ∨ x.state = .settling ∨ x.state = .live) (r : FaultReason) :
    badBlock (s.setLane i x) i r =
      if 8 ≤ x.badRun + 1 then faultLane (s.setLane i { x.countBad with badRun := x.badRun + 1 }) i r
      else s.setLane i { x.countBad with badRun := x.badRun + 1 } := by
  obtain ⟨⟩ := x
  unfold badBlock
  simp only [State.onLane_setLane, State.lane_setLane]
  rcases h with rfl | rfl | rfl <;> rfl

theorem badBlock_faulted (h : x.state = .faulted) (r : FaultReason) :
    badBlock (s.setLane i x) i r = s.setLane i { x.countBad with goodRun := 0 } := by
  obtain ⟨⟩ := x
  obtain rfl := h
  unfold badBlock
  simp only [State.onLane_setLane, State.lane_setLane]
  rfl

theorem badBlock_test {y : TestRun} (h : x.state = .test) (hy : x.test = some y) (r : FaultReason) :
    badBlock (s.setLane i x) i r = testVerdict (s.setLane i { x.countBad with
      test := some (if y.counted < y.blocks then { y.count 1 60 with unseedDue := true } else y) }) i := by
  obtain ⟨⟩ := x
  obtain rfl := h
  obtain rfl := hy
  unfold badBlock testBad
  simp only [State.onLane_setLane, State.lane_setLane]
  split <;> rfl

/-! ### A good block -/

theorem extendRange_setLane (x : Lane) (p : Nat) (t : SampleTime) :
    extendRange (s.setLane i x) i p t = (extendRange s i p t).setLane i x := rfl

variable (d : BlockData) (g p : Nat)

theorem goodBlock_running (h : x.state = .idle ∨ x.state = .settling ∨ x.state = .live) :
    goodBlock (s.setLane i x) i d g p =
      offerBlock ((extendRange s i p d.first).setLane i (x.checkedGood d g)) i d (decide (0 < g)) p := by
  unfold goodBlock
  simp only [State.onLane_setLane, extendRange_setLane, State.lane_setLane]
  rw [show (x.checkedGood d g).state = x.state from rfl]
  rcases h with h | h | h <;> rw [h]

theorem goodBlock_faulted (h : x.state = .faulted) :
    goodBlock (s.setLane i x) i d g p =
      if 16 ≤ x.goodRun + 1 then
        recoverLane ((extendRange s i p d.first).setLane i { x.checkedGood d g with goodRun := x.goodRun + 1 }) i
      else (extendRange s i p d.first).setLane i { x.checkedGood d g with goodRun := x.goodRun + 1 } := by
  unfold goodBlock
  simp only [State.onLane_setLane, extendRange_setLane, State.lane_setLane]
  rw [show (x.checkedGood d g).state = x.state from rfl, h]
  rfl

theorem goodBlock_test {y : TestRun} (h : x.state = .test) (hy : x.test = some y) :
    goodBlock (s.setLane i x) i d g p =
      testVerdict (testGood ((extendRange s i p d.first).setLane i (x.checkedGood d g)) i y d g p) i := by
  unfold goodBlock
  simp only [State.onLane_setLane, extendRange_setLane, State.lane_setLane]
  rw [show (x.checkedGood d g).state = x.state from rfl, show (x.checkedGood d g).test = x.test from rfl, h, hy]

theorem Lane.hasRoom_eq_false_iff (l : Lane) : l.hasRoom = false ↔ 4 ≤ l.queue.length := by
  rw [← Bool.not_eq_true, Lane.hasRoom_iff, not_lt]

/-- R11: with room in the queue a good block ends the bad run. -/
theorem Lane.checkedGood_room (h : x.queue.length < 4) :
    x.checkedGood d g = { x with continuity := some (d.sequence, d.first), badRun := 0 } := by
  have hr : x.skips d g = false := by
    unfold Lane.skips; rw [(Lane.hasRoom_iff x).mpr h]; rfl
  unfold Lane.checkedGood
  rw [hr]; rfl

/-- R11, R14: a block that its queue skips leaves the bad run. -/
theorem Lane.checkedGood_skips (h : x.skips d g = true) :
    x.checkedGood d g = { x with continuity := some (d.sequence, d.first) } := by
  unfold Lane.checkedGood
  rw [h]; rfl

theorem Lane.checkedGood_taken (h : x.skips d g = false) :
    x.checkedGood d g = { x with continuity := some (d.sequence, d.first), badRun := 0 } := by
  unfold Lane.checkedGood
  rw [h]; rfl

theorem Lane.skips_running (h : x.state = .idle ∨ x.state = .settling ∨ x.state = .live) (hq : 4 ≤ x.queue.length) :
    x.skips d g = true := by
  unfold Lane.skips
  rw [(Lane.hasRoom_eq_false_iff x).mpr hq]
  rcases h with h | h | h <;> rw [h] <;> rfl

theorem Lane.skips_faulted (h : x.state = .faulted) : x.skips d g = false := by
  unfold Lane.skips
  rw [h]
  exact Bool.and_false _

theorem Lane.skips_test {y : TestRun} (h : x.state = .test) (hy : x.test = some y) :
    x.skips d g = (!x.hasRoom && (d.testFlag && decide (y.counted + min g (y.blocks - y.counted) < y.blocks))) := by
  unfold Lane.skips
  rw [h, hy]

/-! ### The analysis queue (R11) -/

theorem enterQueue_setLane (x : Lane) (gap u : Bool) :
    enterQueue (s.setLane i x) i d gap p u =
      if x.queue = [] then
        beginBlock (s.setLane i { x with queue := x.queue ++ [queueEntry d p (gap || x.breakDue) u], breakDue := false }) i
      else s.setLane i { x with queue := x.queue ++ [queueEntry d p (gap || x.breakDue) u], breakDue := false } := by
  unfold enterQueue
  simp only [State.lane_setLane, State.setLane_setLane, List.isEmpty_iff]

theorem offerBlock_room (h : x.queue.length < 4) (gap : Bool) :
    offerBlock (s.setLane i x) i d gap p = enterQueue (s.setLane i x) i d gap p false := by
  unfold offerBlock
  rw [State.lane_setLane, if_pos ((Lane.hasRoom_iff x).mpr h)]

theorem offerBlock_full (h : 4 ≤ x.queue.length) (gap : Bool) :
    offerBlock (s.setLane i x) i d gap p = s.setLane i x.skip := by
  unfold offerBlock
  rw [State.lane_setLane, (Lane.hasRoom_eq_false_iff x).mpr h, State.onLane_setLane]
  rfl

/-! ### A good block in TEST (R22, R23) -/

theorem testVerdict_of_queue {s : State} {i : Fin 16} (h : (s.lane i).queue ≠ []) : testVerdict s i = s := by
  unfold testVerdict
  split
  · rfl
  · exact if_neg fun hc => h hc.2

/-- R29, R22: a block of a lane in TEST begins with the lane's state alone. -/
theorem beginBlock_test {s : State} {i : Fin 16} {m : Mapping} (hm : (s.lane i).mapping = some m)
    (ht : (s.lane i).state = .test) (hq : (s.lane i).queue ≠ []) :
    beginBlock s i = s.setLane i { s.lane i with used := { (s.lane i).used with state := .test } } := by
  obtain ⟨b, rest, hb⟩ := List.exists_cons_of_ne_nil hq
  unfold beginBlock
  dsimp only
  rw [hb, Lane.stationOf_eq hm]
  dsimp only
  rw [ht]

/-- R22, R23: while a block waits in the queue there is no verdict. -/
theorem testVerdict_enterQueue {m : Mapping} (hm : x.mapping = some m) (ht : x.state = .test) (gap u : Bool) :
    testVerdict (enterQueue (s.setLane i x) i d gap p u) i = enterQueue (s.setLane i x) i d gap p u := by
  refine testVerdict_of_queue ?_
  have hne : ∀ b, x.queue ++ [b] ≠ [] := fun b => by simp
  rw [enterQueue_setLane]
  split
  · rw [beginBlock_test (m := m) (by rw [State.lane_setLane]; exact hm) (by rw [State.lane_setLane]; exact ht)
      (by rw [State.lane_setLane]; exact hne _)]
    simp only [State.lane_setLane]
    exact hne _
  · rw [State.lane_setLane]; exact hne _

/-- R22: the test once the blocks missing before a GAP block have been counted. -/
def TestRun.missed (y : TestRun) (g : Nat) : TestRun := y.count (min g (y.blocks - y.counted)) (60 * min g (y.blocks - y.counted))

variable {y : TestRun}

theorem TestRun.missed_lt_iff (y : TestRun) (g : Nat) :
    (y.missed g).counted < (y.missed g).blocks ↔ y.counted + g < y.blocks := by
  show y.counted + min g (y.blocks - y.counted) < y.blocks ↔ _
  omega

theorem testGood_reached (x : Lane) (h : y.blocks ≤ y.counted + g) :
    testGood (s.setLane i x) i y d g p = s.setLane i { x with test := some (y.missed g) } := by
  have h1 : ¬(y.missed g).counted < (y.missed g).blocks := by rw [TestRun.missed_lt_iff]; exact Nat.not_lt.mpr h
  unfold testGood
  exact (if_neg h1).trans (State.onLane_setLane s i x fun l => { l with test := some (y.missed g) })

theorem testGood_unflagged (x : Lane) (h : y.counted + g < y.blocks) (hf : d.testFlag = false) :
    testGood (s.setLane i x) i y d g p
      = s.setLane i { x with test := some { (y.missed g).count 1 60 with unseedDue := true } } := by
  unfold testGood
  refine (if_pos ((TestRun.missed_lt_iff y g).mpr h)).trans ?_
  rw [hf]
  exact State.onLane_setLane s i x fun l => { l with test := some { (y.missed g).count 1 60 with unseedDue := true } }

theorem testGood_room (hq : x.queue.length < 4) (h : y.counted + g < y.blocks) (hf : d.testFlag = true) :
    testGood (s.setLane i x) i y d g p
      = enterQueue (s.setLane i { x with test := some { (y.missed g).count 1 0 with unseedDue := false } }) i d
          (decide (0 < g)) p y.unseedDue := by
  unfold testGood
  refine (if_pos ((TestRun.missed_lt_iff y g).mpr h)).trans ?_
  rw [hf, State.lane_setLane, (Lane.hasRoom_iff x).mpr hq]
  simp only [State.onLane_setLane]
  rfl

theorem testGood_full (hq : 4 ≤ x.queue.length) (h : y.counted + g < y.blocks) (hf : d.testFlag = true) :
    testGood (s.setLane i x) i y d g p = s.setLane i ({ x with test := some ((y.missed g).count 1 60) } : Lane).skip := by
  unfold testGood
  refine (if_pos ((TestRun.missed_lt_iff y g).mpr h)).trans ?_
  rw [hf, State.lane_setLane, (Lane.hasRoom_eq_false_iff x).mpr hq]
  simp only [State.onLane_setLane]
  rfl

end

/-! ### Recovery (R16, R17, R56) -/

theorem Lane.stationState_eq {l : Lane} {m : Mapping} (h : l.mapping = some m) (st : StationState) :
    l.stationState st = if st = .stopped then .idle
      else if m.role = .vibration ∨ l.detect.mode = .manual ∨ l.noiseValid = true then .live else .settling := by
  unfold Lane.stationState
  rw [Lane.isVibration_eq h]
  congr 1
  simp only [Bool.or_eq_true, decide_eq_true_eq, or_assoc]

theorem laneStation_eq {s : State} {l : Lane} {m : Mapping} (h : l.mapping = some m) :
    laneStation s l = (s.station m.station).state := by
  unfold laneStation; rw [Lane.stationOf_eq h]

/-- R17, R56: the station once its lane has recovered. -/
theorem leaveBlind_eq (s : State) (k : Fin 4) :
    leaveBlind s k = { s with
      stations := if (s.station k).state = .blind then
          s.stations.set k { s.station k with state := .waiting, quietTimer := some 0, measureRef := none }
        else s.stations } := by
  unfold leaveBlind
  split <;> rfl

theorem recoverLane_setLane {s : State} {i : Fin 16} {x : Lane} {m : Mapping} (h : x.mapping = some m) :
    recoverLane (s.setLane i x) i =
      { s.setLane i (({ x with faultReason := none, goodRun := 0 } : Lane).enterStationState
            (s.station m.station).state) with
        stations := if m.role = .vibration ∧ (s.station m.station).state = .blind then
            s.stations.set m.station
              { s.station m.station with state := .waiting, quietTimer := some 0, measureRef := none }
          else s.stations
        notices := s.notices.take
          { kind := .laneRecovered, station := m.station.val, lane := i.val, cell := 0xFFFF,
            cycle := (s.station m.station).cycle, time := x.horizon.getD 0, v1 := BitVec.ofNat 32 (reasonCode x.faultReason),
            v2 := BitVec.ofNat 32 x.badBlocks, v3 := BitVec.ofNat 32 x.skipped } } := by
  have hv := Lane.isVibration_eq h
  unfold recoverLane
  simp only [State.lane_setLane, State.setLane_setLane]
  rw [Lane.stationOf_eq h]
  dsimp only
  rw [laneStation_eq h]
  unfold laneNotice
  rw [State.lane_setLane, hv]
  by_cases hr : m.role = .vibration
  · simp only [hr, decide_true, if_true, true_and, leaveBlind_eq]
    rfl
  · simp only [hr, decide_false, false_and, if_false]
    rfl

end Sys2Proof.Machine
end

section
/-! ## A write of the lane's master goes to its physical segment and acts on its lane (R7 to R11, R117, R118) -/

namespace Sys2Proof.Machine

open Sys2Proof.Safety

set_option Elab.async false

/-! ### The verdict on a write, in the words of R7 to R9 -/

/-- R7, R8: a write of a whole block with the sync byte and the lane's own identity. -/
def IsNamedBlock (i : Fin 16) (t : Transfer) (bs : List Beat) : Prop :=
  (bs.length = 16 ∧ t.addr.toNat % 128 = 0 ∧ ∀ b ∈ bs, ∀ x ∈ b.strobes.toList, x = true)
  ∧ (blockData (bs.flatMap fun b => b.bytes.toList)).sync = 0xA7
  ∧ (blockData (bs.flatMap fun b => b.bytes.toList)).laneId = i.val

/-- R9: a block that starts a continuity record, or follows it with `g` blocks missing. -/
def Follows (prev : Option (BitVec 16 × SampleTime)) (d : BlockData) (g : Nat) : Prop :=
  prev = none ∧ g = 0 ∨ ∃ q f, prev = some (q, f)
    ∧ (d.sequence - q).toNat = g + 1 ∧ d.first = f + BitVec.ofNat 32 (60 * (g + 1))

/-- R7 to R9: what makes a write bad, for each reason. -/
def IsBadBlock (i : Fin 16) (prev : Option (BitVec 16 × SampleTime)) (t : Transfer) (bs : List Beat) (r : FaultReason) : Prop :=
  let d := blockData (bs.flatMap fun b => b.bytes.toList)
  let whole := bs.length = 16 ∧ t.addr.toNat % 128 = 0 ∧ ∀ b ∈ bs, ∀ x ∈ b.strobes.toList, x = true
  match r with
  | .torn => ¬whole
  | .sync => whole ∧ d.sync ≠ 0xA7
  | .laneId => whole ∧ d.sync = 0xA7 ∧ d.laneId ≠ i.val
  | .slip => IsNamedBlock i t bs ∧ ∃ q f, prev = some (q, f)
      ∧ (d.sequence = q ∨ d.first ≠ f + BitVec.ofNat 32 (60 * (d.sequence - q).toNat))
  | .silent => False

section
variable {i : Fin 16} {t : Transfer} {bs : List Beat}

theorem checkWrite_of_named (hp : t.payload = .write bs) (h : IsNamedBlock i t bs) (prev : Option (BitVec 16 × SampleTime)) :
    checkWrite i prev t = sequenceCheck prev (blockData (bs.flatMap fun b => b.bytes.toList)) := by
  obtain ⟨hb, hs, hi⟩ := h
  rw [← blockData_write hp] at hs hi ⊢
  exact checkWrite_named ((isBlock_iff hp).mpr hb) hs hi

theorem checkWrite_good (hp : t.payload = .write bs) {prev : Option (BitVec 16 × SampleTime)} {g : Nat}
    (h : IsNamedBlock i t bs) (hg : Follows prev (blockData (bs.flatMap fun b => b.bytes.toList)) g) :
    checkWrite i prev t = .good (blockData (bs.flatMap fun b => b.bytes.toList)) g := by
  rw [checkWrite_of_named hp h]
  rcases hg with ⟨rfl, rfl⟩ | ⟨q, f, rfl, hn, hf⟩
  · rfl
  · exact sequenceCheck_good hn hf

theorem checkWrite_bad (hp : t.payload = .write bs) {prev : Option (BitVec 16 × SampleTime)} {r : FaultReason}
    (h : IsBadBlock i prev t bs r) : checkWrite i prev t = .bad r := by
  cases r with
  | torn => exact checkWrite_torn fun hb => h ((isBlock_iff hp).mp hb)
  | sync => exact checkWrite_sync ((isBlock_iff hp).mpr h.1) (by rw [blockData_write hp]; exact h.2)
  | laneId =>
    obtain ⟨hb, hs, hi⟩ := h
    exact checkWrite_laneId ((isBlock_iff hp).mpr hb) (by rw [blockData_write hp]; exact hs)
      (by rw [blockData_write hp]; exact hi)
  | slip =>
    obtain ⟨hn, q, f, rfl, h⟩ := h
    rw [checkWrite_of_named hp hn]
    exact sequenceCheck_slip h
  | silent => exact h.elim

/-- R7 to R9: a write is bad for some reason, or good. -/
theorem bad_or_good (i : Fin 16) (prev : Option (BitVec 16 × SampleTime)) (t : Transfer) (bs : List Beat) :
    (∃ r, IsBadBlock i prev t bs r)
    ∨ ∃ g, IsNamedBlock i t bs ∧ Follows prev (blockData (bs.flatMap fun b => b.bytes.toList)) g := by
  by_cases hb : bs.length = 16 ∧ t.addr.toNat % 128 = 0 ∧ ∀ b ∈ bs, ∀ x ∈ b.strobes.toList, x = true
  · by_cases hs : (blockData (bs.flatMap fun b => b.bytes.toList)).sync = 0xA7
    · by_cases hi : (blockData (bs.flatMap fun b => b.bytes.toList)).laneId = i.val
      · cases prev with
        | none => exact .inr ⟨0, ⟨hb, hs, hi⟩, .inl ⟨rfl, rfl⟩⟩
        | some c =>
          rcases slip_or_good c.1 c.2 (blockData (bs.flatMap fun b => b.bytes.toList)) with h | ⟨g, h⟩
          · exact .inl ⟨.slip, ⟨hb, hs, hi⟩, c.1, c.2, rfl, h⟩
          · exact .inr ⟨g, ⟨hb, hs, hi⟩, .inr ⟨c.1, c.2, rfl, h⟩⟩
      · exact .inl ⟨.laneId, hb, hs, hi⟩
    · exact .inl ⟨.sync, hb, hs⟩
  · exact .inl ⟨.torn, hb⟩

end

/-! ### The issue -/

/-- R15: a write restarts a running silence timer. -/
def Lane.heard (l : Lane) : Lane := { l with silenceTimer := l.silenceTimer.map fun _ => 0 }

theorem laneSeesWrite_good {s : State} {i : Fin 16} {t : Transfer} {d : BlockData} {g : Nat}
    (h : checkWrite i (s.lane i).continuity t = .good d g) (p : Nat) :
    laneSeesWrite s i t p = goodBlock (s.setLane i (s.lane i).heard) i d g p := by
  unfold laneSeesWrite
  simp only [State.lane_onLane]
  rw [h]
  rfl

theorem laneSeesWrite_bad {s : State} {i : Fin 16} {t : Transfer} {r : FaultReason}
    (h : checkWrite i (s.lane i).continuity t = .bad r) (p : Nat) :
    laneSeesWrite s i t p = badBlock (s.setLane i (s.lane i).heard) i r := by
  unfold laneSeesWrite
  simp only [State.lane_onLane]
  rw [h]
  rfl

/-- R117, R131, R138: the issue of a write of the lane's master into its logical area, to physical segment `p`. -/
theorem exec_ownWrite {s : State} {a : Accepted} {i : Fin 16} {m : Mapping} {bs : List Beat} {tb : SegTable} {p : Nat}
    (ho : OutOfReset s) (hr : firstReady s = some a) (hw : waitingOwn s = none ∨ s.path.starvation < 8)
    (hp : a.t.payload = .write bs) (ha : laneAt s a.t.addr.toNat = some (i, m)) (hm : a.t.master = m.master)
    (hk : logicalOf m a.t.addr.toNat < m.logical)
    (htb : ((reportWrite s i m (logicalOf m a.t.addr.toNat)).seg i).table = some tb)
    (hmap : tb.map[logicalOf m a.t.addr.toNat]? = some p) :
    exec .forwardedIssue s = .next (commit s ((laneSeesWrite (reportWrite s i m (logicalOf m a.t.addr.toNat)) i a.t p).withPath
      (issuedPath s a (redirect m p a.t.addr.toNat) []))) := by
  rw [execForwardedIssue_issues ho hr hw, issueForwarded_laneWrite hp ha, laneWrite_own hm hk, mapOf_eq htb hmap]

/-- R117, R118: the segment's mapping and the write position stand however the write fares. -/
theorem layout_table {g : Segs} {tb : SegTable} (h : g.table = some tb) {g' : Segs} (hl : g'.layout = g.layout) :
    ∃ tb', g'.table = some tb' ∧ tb'.map = tb.map ∧ tb'.position = tb.position := by
  unfold Segs.layout at hl
  rw [h] at hl
  cases hg : g'.table with
  | none => rw [hg] at hl; simp at hl
  | some tb' =>
    rw [hg] at hl
    simp only [Option.map_some, Option.some.injEq, Prod.mk.injEq] at hl
    exact ⟨tb', rfl, hl.1, hl.2⟩

/-- R117, R118, R131: where the write goes, and what it leaves alone. -/
theorem ownWrite_goes {s : State} {a : Accepted} {i : Fin 16} {m : Mapping} {bs : List Beat} (hl : SegmentLaw s)
    (ho : OutOfReset s) (hr : firstReady s = some a) (hw : waitingOwn s = none ∨ s.path.starvation < 8)
    (hp : a.t.payload = .write bs) (ha : laneAt s a.t.addr.toNat = some (i, m)) (hm : a.t.master = m.master)
    (hk : logicalOf m a.t.addr.toNat < m.logical) :
    ∃ t tb p, exec .forwardedIssue s = .next t ∧ (t.seg i).table = some tb ∧ tb.map[logicalOf m a.t.addr.toNat]? = some p
      ∧ tb.position = some (logicalOf m a.t.addr.toNat)
      ∧ t.path.memPort = s.path.memPort ++ [{ own := false, id := a.id, master := m.master, payload := .write bs,
                                              addr := redirect m p a.t.addr.toNat }]
      ∧ t.path.own = s.path.own ∧ t.path.arrived = s.path.arrived ∧ ∀ j, j ≠ i → t.lane j = s.lane j := by
  obtain ⟨tb, p, htb, hmap, hpos⟩ := reportWrite_table hl (laneAt_mapping ha) hk
  have hexec := exec_ownWrite ho hr hw hp ha hm hk htb hmap
  have honly := only_laneSeesWrite (i := i) (reportWrite s i m (logicalOf m a.t.addr.toNat)) a.t p
  obtain ⟨tb', htb', hmap', hpos'⟩ := layout_table htb (honly.layout i)
  refine ⟨_, tb', p, hexec, ?_, by rw [hmap']; exact hmap, by rw [hpos']; exact hpos, ?_, ?_, ?_, fun j hj => ?_⟩
  · rw [State.seg_congr (commit_segs _ s)]; exact htb'
  · rw [commit_memPort, ← hm, ← hp]; rfl
  · rw [commit_own]; rfl
  · rw [commit_arrived]; rfl
  · rw [State.lane_congr (commit_lanes _ s)]
    exact (honly.others j hj).trans (State.lane_congr (reportWrite_lanes s i m _) j)

/-- Settles O10. -/
theorem laneWriteRedirected : Obligations.LaneWriteRedirected := by
  refine ⟨fun s a i m bs hl ho hr hw hp ha hm hk => ownWrite_goes hl ho hr hw hp ha hm hk,
    fun l i => ⟨rfl, rfl, rfl⟩, blockData_fields, ?_⟩
  intro s a i m bs hl ho hr hw hp ha hm k hk d l l0 taken counted whole named bad good rep
  obtain ⟨tb, p, htb, hmap, -⟩ := reportWrite_table hl (laneAt_mapping ha) hk
  have hlane : rep.lane i = l := State.lane_congr (reportWrite_lanes s i m k) i
  have hmapping : l.mapping = some m := laneAt_mapping ha
  have hbad : ∀ r, bad r → checkWrite i (rep.lane i).continuity a.t = .bad r := fun r h => by
    rw [hlane]
    exact checkWrite_bad hp (by cases r <;> exact h)
  have hgood : ∀ g, good g → checkWrite i (rep.lane i).continuity a.t = .good d g := fun g h => by
    rw [hlane]
    exact checkWrite_good hp h.1 h.2
  have hsome : (∃ r, bad r) ∨ ∃ g, good g :=
    (bad_or_good i l.continuity a.t bs).imp (fun ⟨r, h⟩ => ⟨r, by cases r <;> exact h⟩) id
  refine ⟨tb, p, htb, hmap, hsome, ?_⟩
  intro entry refused stored issued begun
  have hrefused : ∀ x, rep.setLane i x = refused x := fun x =>
    congrArg (fun v : Vector Lane 16 => { rep with lanes := v.set i x }) (reportWrite_lanes s i m k)
  have hstored : ∀ x, (extendRange rep i p d.first).setLane i x = stored x := by
    intro x
    show ({ rep with lanes := rep.lanes.set i x, segs := rep.segs.set i { rep.seg i with
      table := (rep.seg i).table.map fun t => { t with ranges := t.ranges.set p (some (match t.ranges.getD p none with
          | none => (d.first, d.first + 59)
          | some (a, _) => (a, d.first + 59))) } } } : State) = _
    rw [htb, show rep.lanes = s.lanes from reportWrite_lanes s i m k]
    rfl
  have go : ∀ w, laneSeesWrite rep i a.t p = w → exec .forwardedIssue s = issued w := by
    rintro w rfl
    rw [exec_ownWrite ho hr hw hp ha hm hk htb hmap]
    unfold issuedPath
    rw [hm, hp]
    rfl
  have hheard : (rep.lane i).heard = l0 := by rw [hlane]; rfl
  have sees_bad : ∀ r, bad r → laneSeesWrite rep i a.t p = badBlock (rep.setLane i l0) i r := fun r hr => by
    rw [laneSeesWrite_bad (hbad r hr), hheard]
  have sees_good : ∀ g, good g → laneSeesWrite rep i a.t p = goodBlock (rep.setLane i l0) i d g p := fun g hg => by
    rw [laneSeesWrite_good (hgood g hg), hheard]
  have put : ∀ (x : Lane) (gap u : Bool), x.queue = l.queue →
      enterQueue ((extendRange rep i p d.first).setLane i x) i d gap p u
        = begun { x with queue := l.queue ++ [queueEntry d p (gap || x.breakDue) u], breakDue := false } := by
    intro x gap u hx
    rw [enterQueue_setLane, hx, hstored]
  refine ⟨fun hst => ⟨fun r hr h8 => ?_, fun r hr h8 => ?_, fun g hg hq => ?_, fun g hg hq => ?_⟩,
    fun hst => ⟨fun r hr => ?_, fun g hg h16 => ?_, fun g hg h16 => ?_⟩, fun x hst hx => ?_⟩
  · refine go _ ?_
    rw [sees_bad r hr, badBlock_running _ _ (x := l0) hst, if_neg (Nat.not_le.mpr h8), hrefused]
    rfl
  · refine go _ ?_
    rw [sees_bad r hr, badBlock_running _ _ (x := l0) hst, if_pos h8, hrefused]
    rfl
  · refine go _ ?_
    rw [sees_good g hg, goodBlock_running _ _ (x := l0) _ _ _ hst, Lane.checkedGood_room (x := l0) _ _ hq,
      offerBlock_room (h := by exact hq)]
    exact put _ _ _ rfl
  · refine go _ ?_
    rw [sees_good g hg, goodBlock_running _ _ (x := l0) _ _ _ hst, Lane.checkedGood_skips (x := l0) _ _ (Lane.skips_running _ _ hst hq),
      offerBlock_full (h := by exact hq), hstored]
    rfl
  · refine go _ ?_
    rw [sees_bad r hr, badBlock_faulted _ _ (x := l0) hst, hrefused]
    rfl
  · refine go _ ?_
    rw [sees_good g hg, goodBlock_faulted _ _ (x := l0) _ _ _ hst, if_neg (Nat.not_le.mpr h16),
      Lane.checkedGood_taken (x := l0) _ _ (Lane.skips_faulted _ _ hst), hstored]
  · intro x st
    refine go _ ?_
    rw [sees_good g hg, goodBlock_faulted _ _ (x := l0) _ _ _ hst, if_pos h16,
      Lane.checkedGood_taken (x := l0) _ _ (Lane.skips_faulted _ _ hst), recoverLane_setLane (m := m) (by exact hmapping), hstored]
    have hsts : (extendRange rep i p d.first).stations = s.stations := reportWrite_stations s i m k
    rw [State.station_congr hsts, hsts, Lane.enterStationState, Lane.stationState_eq (m := m) (by exact hmapping)]
    rfl
  · intro missed one
    have hskips : ∀ g, l0.skips d g = (!l0.hasRoom && (d.testFlag && decide (x.counted + min g (x.blocks - x.counted) < x.blocks))) :=
      fun g => Lane.skips_test (x := l0) d g hst hx
    refine ⟨fun r hr => ?_, fun g hg hc => ?_, fun g hg hc hf => ?_, fun g hg hc hf hq => ?_, fun g hg hc hf hq => ?_⟩
    · refine go _ ?_
      rw [sees_bad r hr, badBlock_test _ _ (x := l0) hst hx, hrefused]
      rfl
    · refine go _ ?_
      have hs : l0.skips d g = false := by
        rw [hskips, decide_eq_false (by omega), Bool.and_false, Bool.and_false]
      rw [sees_good g hg, goodBlock_test _ _ (x := l0) _ _ _ hst hx, testGood_reached _ _ _ _ _ _ hc,
        Lane.checkedGood_taken (x := l0) _ _ hs, hstored]
      rfl
    · refine go _ ?_
      have hs : l0.skips d g = false := by rw [hskips, hf, Bool.false_and, Bool.and_false]
      rw [sees_good g hg, goodBlock_test _ _ (x := l0) _ _ _ hst hx, testGood_unflagged _ _ _ _ _ _ hc hf,
        Lane.checkedGood_taken (x := l0) _ _ hs, hstored]
      rfl
    · refine go _ ?_
      rw [sees_good g hg, goodBlock_test _ _ (x := l0) _ _ _ hst hx, Lane.checkedGood_room (x := l0) _ _ hq,
        testGood_room (hq := by exact hq) (h := hc) (hf := hf), testVerdict_enterQueue (m := m) (hm := by exact hmapping) (ht := by exact hst)]
      exact put _ _ _ rfl
    · refine go _ ?_
      have hs : l0.skips d g = true := by
        rw [hskips, hf, decide_eq_true (by omega), (Lane.hasRoom_eq_false_iff l0).mpr hq]; rfl
      rw [sees_good g hg, goodBlock_test _ _ (x := l0) _ _ _ hst hx, Lane.checkedGood_skips (x := l0) _ _ hs,
        testGood_full (hq := by exact hq) (h := hc) (hf := hf), testVerdict_of_queue, hstored]
      · rfl
      · rw [State.lane_setLane]; exact List.ne_nil_of_length_pos (Nat.lt_of_lt_of_le (by decide) hq)

end Sys2Proof.Machine
end

section
/-! ## Entering FAULTED, and silence (R15 to R17, R40, R55) -/

namespace Sys2Proof.Machine

open Sys2Proof.Safety

set_option Elab.async false

/-- R17: the LANE_FAULT notice of lane record `l` at station `k`. -/
def faultNotice (u : State) (i : Fin 16) (k : Fin 4) (l : Lane) (r : FaultReason) : Notice :=
  { kind := .laneFault, station := k.val, lane := i.val, cell := 0xFFFF, cycle := (u.station k).cycle,
    time := l.horizon.getD 0, v1 := BitVec.ofNat 32 (reasonCode (some r)), v2 := BitVec.ofNat 32 l.badBlocks,
    v3 := BitVec.ofNat 32 l.skipped }

/-- R16, R17: the lane record reset and LANE_FAULT handed on. -/
def toldFault (u : State) (i : Fin 16) (k : Fin 4) (l : Lane) (r : FaultReason) : State :=
  handNotice (u.setLane i (l.faulted r)) (faultNotice u i k l r)

/-- R16, R17, R40: what entering FAULTED does, in order. -/
theorem faultLane_eq {s : State} {i : Fin 16} {m : Mapping} (h : (s.lane i).mapping = some m) (r : FaultReason) :
    faultLane s i r =
      let u := toldFault (handHit? (s.setLane i (s.lane i).resetDetector) m.station ((s.lane i).truncatedHit i)) i m.station
        (s.lane i) r
      if m.role = .vibration then goBlind u m.station (s.lane i).horizon r
      else if (s.lane i).state = .settling ∨ (s.lane i).state = .live then formingPass u m.station
      else u := by
  have hl := State.lane_congr (handHit?_lanes (s.setLane i (s.lane i).resetDetector) m.station ((s.lane i).truncatedHit i)) i
  rw [State.lane_setLane] at hl
  unfold faultLane
  dsimp only
  rw [Lane.stationOf_eq h]
  dsimp only
  generalize handHit? (s.setLane i (s.lane i).resetDetector) m.station ((s.lane i).truncatedHit i) = u at hl
  have hu : (u.onLane i fun l => l.faulted r) = u.setLane i ((s.lane i).faulted r) := by
    unfold State.onLane
    rw [hl]
    rfl
  have hn : laneNotice (u.setLane i ((s.lane i).faulted r)) .laneFault i m.station (some r)
      = faultNotice u i m.station (s.lane i) r := by
    unfold laneNotice
    rw [State.lane_setLane]
    rfl
  have hz : ((toldFault u i m.station (s.lane i) r).lane i).horizon = (s.lane i).horizon := by
    unfold toldFault
    rw [State.lane_congr (handNotice_lanes _ _), State.lane_setLane]
    rfl
  rw [hu, hn, Lane.isVibration_eq h]
  show (if decide (m.role = .vibration) = true then
      goBlind (toldFault u i m.station (s.lane i) r) m.station ((toldFault u i m.station (s.lane i) r).lane i).horizon r
    else if (s.lane i).inHorizonSet = true then _ else _) = _
  rw [hz]
  by_cases hr : m.role = .vibration
  · simp only [hr, decide_true, if_true]
  · unfold Lane.inHorizonSet
    rw [Lane.isAE_eq h]
    simp only [hr, decide_false, if_false, ne_eq, not_false_eq_true, decide_true, Bool.true_and, Bool.or_eq_true,
      decide_eq_true_eq]
    rfl

@[simp] theorem goBlind_lanes (s : State) (k : Fin 4) (h : Option SampleTime) (r : FaultReason) :
    (goBlind s k h r).lanes = s.lanes := by
  unfold goBlind
  dsimp only
  split
  case h_1 | h_2 => rfl
  all_goals
    split
    · rw [formingPass_lanes]; rfl
    · rfl

/-- R16: the lane record once the lane has entered FAULTED. -/
theorem faultLane_lane {s : State} {i : Fin 16} {m : Mapping} (h : (s.lane i).mapping = some m) (r : FaultReason) :
    (faultLane s i r).lane i = (s.lane i).faulted r := by
  have ht : ∀ u, (toldFault u i m.station (s.lane i) r).lane i = (s.lane i).faulted r := fun u => by
    unfold toldFault
    rw [State.lane_congr (handNotice_lanes _ _), State.lane_setLane]
  rw [faultLane_eq h]
  dsimp only
  split
  · rw [State.lane_congr (goBlind_lanes _ _ _ _), ht]
  · split
    · rw [State.lane_congr (formingPass_lanes _ _), ht]
    · exact ht _

/-- R15: the silence time-out. -/
theorem silenceTimeout_faults {s : State} {i : Fin 16} {n : Nat} (ho : OutOfReset s)
    (hst : (s.lane i).state = .settling ∨ (s.lane i).state = .live)
    (hl : 0 < (s.lane i).silenceLimit) (ht : (s.lane i).silenceTimer = some n) (hn : (s.lane i).silenceLimit * 1000 ≤ n) :
    exec (.silenceTimeout i) s = .next (commit s (faultLane s i .silent)) := by
  have hs : (s.lane i).silent = true := by
    unfold Lane.silent
    rw [ht]
    simpa [hl, hn] using hst
  show execSilenceTimeout i s = _
  unfold execSilenceTimeout
  rw [hs, show s.path.resetLow = false from ho]
  rfl

/-! ### AE lanes (R40, R70) -/

theorem Lane.truncatedHit_none {l : Lane} (h : l.hit = none) (i : Fin 16) : l.truncatedHit i = none := by
  unfold Lane.truncatedHit; rw [h]

theorem Lane.truncatedHit_some {l : Lane} {m : Mapping} {r : Fin 6} {x : HitInProgress} (hm : l.mapping = some m)
    (hr : m.role = .ae r) (h : l.hit = some x) (i : Fin 16) : l.truncatedHit i = some (x.close i r true false) := by
  unfold Lane.truncatedHit; rw [h, Lane.aeRole_of_ae hm hr]

theorem Lane.truncatedHit_vibration {l : Lane} {m : Mapping} (hm : l.mapping = some m) (hr : m.role = .vibration)
    (i : Fin 16) : l.truncatedHit i = none := by
  unfold Lane.truncatedHit; rw [Lane.aeRole_of_vibration hm hr]; cases l.hit <;> rfl

/-- R70: with no hit pooled and no record queued a forming pass does nothing. -/
theorem formingPass_idle {s : State} {k : Fin 4} (hp : (s.station k).pool = []) (hb : (s.station k).boundary = []) :
    formingPass s k = s := by
  unfold formingPass
  rw [hp]
  show closeHeads (s.station k).boundary.length s k = s
  rw [hb]
  rfl

/-- R16, R40: a lane without a hit in progress has its detector reset with the rest of its record. -/
theorem toldFault_setLane (s : State) (i : Fin 16) (k : Fin 4) (l x : Lane) (r : FaultReason) :
    toldFault (s.setLane i x) i k l r = toldFault s i k l r := by
  unfold toldFault
  rw [State.setLane_setLane]
  rfl

/-! ### Vibration lanes (R55) -/

theorem closeTail_append (front : List CycleRecord) (r : CycleRecord) (e : SampleTime) (inc : Bool) :
    closeTail (front ++ [r]) e inc = front ++ [{ r with finish := some e, incomplete := inc }] := by
  unfold closeTail
  rw [List.reverse_append]
  simp

/-- R55: the station record of a lost vibration lane. -/
def Station.blinded (x : Station) (boundary : List CycleRecord) : Station :=
  ({ x with boundary := boundary, state := .blind, quietTimer := none, tail := 0 } : Station).forget

/-- R55: the VIBRATION_LOST notice. -/
def lostNotice (s : State) (k : Fin 4) (h : Option SampleTime) (r : FaultReason) (closing : Nat) : Notice :=
  stationNotice s k .vibrationLost (h.getD 0) (reasonCode (some r)) closing ((s.station k).period.getD 0)

section
variable {s : State} {k : Fin 4} (h : Option SampleTime) (r : FaultReason)

theorem goBlind_unwatched (hx : (s.station k).state = .stopped ∨ (s.station k).state = .blind) : goBlind s k h r = s := by
  unfold goBlind
  dsimp only
  rcases hx with hx | hx <;> rw [hx]

theorem lostNotice_setStation (b : List CycleRecord) (closing : Nat) :
    stationNotice (s.setStation k ((s.station k).blinded b)) k .vibrationLost (h.getD 0) (reasonCode (some r)) closing
      ((s.station k).period.getD 0) = lostNotice s k h r closing := by
  unfold lostNotice stationNotice
  rw [State.station_setStation]
  rfl

/-- R55: what a lost vibration lane does to a station that watches it. -/
theorem goBlind_watched (hs : (s.station k).state ≠ .stopped) (hb : (s.station k).state ≠ .blind) :
    goBlind s k h r =
      let x := s.station k
      let start := match x.boundary.getLast? with | some r => r.start | none => 0
      let u := handNotice (s.setStation k (x.blinded
          (if x.measuring = true then closeTail x.boundary (lostEnd h start) true else x.boundary)))
        (lostNotice s k h r x.measuring.toNat)
      if (x.measuring && decide (x.boundary.length = 1)) = true then formingPass u k else u := by
  unfold goBlind
  simp only [← lostNotice_setStation h r (if (s.station k).measuring = true then closeTail (s.station k).boundary
    (lostEnd h (match (s.station k).boundary.getLast? with | some r => r.start | none => 0)) true else (s.station k).boundary)]
  split
  next hx => exact absurd hx hs
  next hx => exact absurd hx hb
  all_goals rfl

theorem goBlind_resting (hx : (s.station k).state = .waiting ∨ (s.station k).state = .pressIdle) :
    goBlind s k h r
      = handNotice (s.setStation k ((s.station k).blinded (s.station k).boundary)) (lostNotice s k h r 0) := by
  have hc : (s.station k).measuring = false := by
    unfold Station.measuring; rcases hx with hx | hx <;> rw [hx] <;> rfl
  rw [goBlind_watched h r (by rcases hx with hx | hx <;> simp [hx]) (by rcases hx with hx | hx <;> simp [hx])]
  dsimp only
  rw [hc]
  rfl

theorem goBlind_measuring {front : List CycleRecord} {x : CycleRecord}
    (hx : (s.station k).state = .compacting ∨ (s.station k).state = .tailing) (hb : (s.station k).boundary = front ++ [x]) :
    goBlind s k h r =
      let u := handNotice (s.setStation k ((s.station k).blinded
          (front ++ [{ x with finish := some (lostEnd h x.start), incomplete := true }]))) (lostNotice s k h r 1)
      if front = [] then formingPass u k else u := by
  have hc : (s.station k).measuring = true := by
    unfold Station.measuring; rcases hx with hx | hx <;> rw [hx] <;> rfl
  have hlast : (s.station k).boundary.getLast? = some x := by rw [hb]; simp
  have hlen : (s.station k).boundary.length = 1 ↔ front = [] := by rw [hb]; simp
  have hclose : closeTail (s.station k).boundary (lostEnd h x.start) true
      = front ++ [{ x with finish := some (lostEnd h x.start), incomplete := true }] := by
    rw [hb]; exact closeTail_append front x _ true
  rw [goBlind_watched h r (by rcases hx with hx | hx <;> simp [hx]) (by rcases hx with hx | hx <;> simp [hx])]
  dsimp only
  rw [hc, hlast]
  simp only [if_true, hclose, Bool.true_and, decide_eq_true_eq, hlen]
  rfl

end

/-- Settles O22. -/
theorem silenceFaultsLane : Obligations.SilenceFaultsLane := by
  refine ⟨fun s i m n ho hm hst hl ht hn => ?_, fun s i m reason hm => ?_⟩
  · refine ⟨silenceTimeout_faults ho hst hl ht hn, ?_, fun j hj => ?_, ?_, ?_⟩
    · rw [State.lane_congr (commit_lanes _ s), faultLane_lane hm]; rfl
    · rw [State.lane_congr (commit_lanes _ s)]; exact (only_faultLane s .silent).others j hj
    · rw [commit_own, faultLane_path]
    · rw [commit_cmd, faultLane_cmd]
  · intro k l0 still l code fault told
    have htold : ∀ u, toldFault u i k l0 reason = told u := fun u => by cases reason <;> rfl
    refine ⟨fun r hr => ?_, fun hr => ?_⟩
    · intro left
      have hleft : ∀ hit, l0.truncatedHit i = hit → faultLane s i reason = left (handHit? (s.setLane i still) k hit) := by
        rintro _ rfl
        rw [faultLane_eq hm]
        dsimp only
        rw [if_neg (by simp [hr])]
        exact congrArg (fun u => if l0.state = .settling ∨ l0.state = .live then formingPass u k else u) (htold _)
      have hnone : l0.hit = none → faultLane s i reason = left s := fun h => by
        rw [hleft none (Lane.truncatedHit_none h i)]
        show (if _ then formingPass (told (s.setLane i still)) k else told (s.setLane i still)) = _
        rw [← htold, toldFault_setLane, htold]
      refine ⟨hnone, fun h hh => ?_, fun h hp hb => ?_⟩
      · rw [hleft _ (Lane.truncatedHit_some hm hr hh i)]; rfl
      · rw [hnone h]
        have hidle : formingPass (told s) k = told s := formingPass_idle hp hb
        show (if _ then formingPass (told s) k else told s) = told s
        rw [hidle, ite_self]
    · intro x lost blind
      have hgo : faultLane s i reason = goBlind (told s) k l0.horizon reason := by
        rw [faultLane_eq hm, Lane.truncatedHit_vibration hm hr i]
        dsimp only
        rw [if_pos hr, ← htold]
        exact congrArg (fun u => goBlind u k l0.horizon reason) (toldFault_setLane s i k l0 still reason)
      have hlost : ∀ closing, lostNotice (told s) k l0.horizon reason closing = lost closing := by
        intro closing
        have hv : (told s).vibrationLane k = s.vibrationLane k :=
          State.vibrationLane_congr (fun j => (State.mapping_setLane (x := l) rfl j)) k
        unfold lostNotice stationNotice
        rw [hv]
        cases reason <;> rfl
      refine ⟨fun hx => ?_, fun hx => ?_, fun front r hx hb => ?_⟩
      · rw [hgo]; exact goBlind_unwatched _ _ hx
      · rw [hgo, goBlind_resting _ _ (by exact hx), hlost]; rfl
      · intro e u
        rw [hgo, goBlind_measuring _ _ (by exact hx) (by exact hb), hlost]
        rfl

end Sys2Proof.Machine
end

section
/-! ## The pattern test: its generator and its end (R21 to R23) -/

namespace Sys2Proof.Machine

open Sys2Proof.Safety

set_option Elab.async false

/-! ### The generator (R21) -/

/-- R21: the generator's register after `j` steps. -/
def genReg (g : BitVec 15) (j : Nat) : BitVec 15 := (fun r => (genStep r).1)^[j] g

theorem genReg_succ (g : BitVec 15) (j : Nat) : genReg g (j + 1) = (genStep (genReg g j)).1 :=
  Function.iterate_succ_apply' _ j g

theorem genReg_genStep (g : BitVec 15) (j : Nat) : genReg (genStep g).1 j = genReg g (j + 1) :=
  (Function.iterate_succ_apply _ j g).symm

theorem genStep_fst (g : BitVec 15) : (genStep g).1 = (g <<< 1 ||| if (genStep g).2 = true then 1 else 0) := by
  show (g <<< 1 ||| (BitVec.ofBool (genStep g).2).setWidth 15) = _
  congr 1
  cases (genStep g).2 <;> rfl

/-- R21: above the gathered outputs stands what was gathered before. -/
theorem genSteps_div (n : Nat) (r : BitVec 15) (acc : Nat) : (genSteps n r acc).2 / 2 ^ n = acc := by
  induction n generalizing r acc with
  | zero => exact Nat.div_one acc
  | succ n ih =>
    have h : (genSteps (n + 1) r acc).2 / 2 ^ n = 2 * acc + (genStep r).2.toNat := ih _ _
    have hb := Bool.toNat_le (genStep r).2
    rw [pow_succ, ← Nat.div_div_eq_div_mul, h]
    omega

/-- R21: the output of step `j` of `n` stands in place `n - 1 - j`. -/
theorem genSteps_testBit (n : Nat) (r : BitVec 15) (acc : Nat) {j : Nat} (hj : j < n) :
    (genSteps n r acc).2.testBit (n - 1 - j) = (genStep (genReg r j)).2 := by
  induction n generalizing r acc j with
  | zero => exact absurd hj (Nat.not_lt_zero j)
  | succ n ih =>
    cases j with
    | zero =>
      have h : (genSteps (n + 1) r acc).2 / 2 ^ n = 2 * acc + (genStep r).2.toNat := genSteps_div n _ _
      show (genSteps (n + 1) r acc).2.testBit n = (genStep r).2
      rw [Nat.testBit_eq_decide_div_mod_eq, h]
      cases (genStep r).2 <;> simp
    | succ j =>
      have hi := ih (genStep r).1 (2 * acc + (genStep r).2.toNat) (Nat.lt_of_succ_lt_succ hj)
      rw [genReg_genStep] at hi
      rwa [show n + 1 - 1 - (j + 1) = n - 1 - j by omega]

theorem predicted_getLsbD (g : BitVec 15) {j : Nat} (hj : j < 16) :
    (predicted g).getLsbD (15 - j) = (genStep (genReg g j)).2 := by
  unfold predicted
  rw [BitVec.getLsbD_ofNat, decide_eq_true (by omega), Bool.true_and]
  exact genSteps_testBit 16 g 0 hj

/-! ### The check of a flagged block (R21) -/

theorem checkSamples_unseeded (x : BitVec 16) (xs : List (BitVec 16)) (e : Nat) :
    checkSamples none (x :: xs) e = checkSamples (if x.setWidth 15 = 0 then none else some (x.setWidth 15)) xs e := by
  rw [checkSamples]
  unfold checkSample
  dsimp only
  split <;> rfl

theorem checkSamples_seeded (g : BitVec 15) (x : BitVec 16) (xs : List (BitVec 16)) (e : Nat) :
    checkSamples (some g) (x :: xs) e
      = checkSamples (some ((predicted g).setWidth 15)) xs (if x = predicted g then e else e + 1) := by
  rw [checkSamples]
  show checkSamples (some ((predicted g).setWidth 15)) xs (e + if predicted g = x then 0 else 1) = _
  simp only [eq_comm (a := predicted g)]
  split <;> rfl

/-! ### The end of a test (R23) -/

section
variable {s u : State} {i : Fin 16} {r : TestRun} {c : Cmd}

/-- R23: the lane and its command at the end of a test. -/
theorem endTest_ended (hl : CommandLaw s) (hu : u.cmd = s.cmd) (ht : (u.lane i).test = some r) (hc : c ∈ s.cmd.queue)
    (hslot : c.slot = r.slot) (hn : ∀ x ∈ s.cmd.copies, x.slot ≠ r.slot) (res : TestResult) :
    endTest u i res = { u.setLane i ((u.lane i).afterTest r res) with
      cmd := ended s.cmd c res.outcome (BitVec.ofNat 16 (match res with | .pass | .fail => r.clampedFields | _ => 0)) } := by
  unfold endTest
  rw [ht]
  dsimp only
  rw [← hslot]
  cases res <;> exact decideCmd_ended (u := u.onLane i fun l => l.afterTest r _) _ _ hl hu hc (by rw [hslot]; exact hn)

theorem testVerdict_open (ht : (s.lane i).test = some r) (h : r.counted < r.blocks ∨ (s.lane i).queue ≠ []) :
    testVerdict s i = s := by
  unfold testVerdict
  rw [ht]
  exact if_neg fun ⟨hb, hq⟩ => h.elim (Nat.not_lt.mpr hb) (· hq)

theorem testVerdict_reached (ht : (s.lane i).test = some r) (hb : r.blocks ≤ r.counted) (hq : (s.lane i).queue = []) :
    testVerdict s i = endTest s i (if r.errors ≤ r.limit then .pass else .fail) := by
  unfold testVerdict
  rw [ht]
  exact if_pos ⟨hb, hq⟩

/-- R22, R23: the verdict of a test with its blocks counted and its queue analysed. -/
theorem testVerdict_ended (hl : CommandLaw s) (hu : u.cmd = s.cmd) (ht : (u.lane i).test = some r)
    (hb : r.blocks ≤ r.counted) (hq : (u.lane i).queue = []) (hc : c ∈ s.cmd.queue) (hslot : c.slot = r.slot)
    (hn : ∀ x ∈ s.cmd.copies, x.slot ≠ r.slot) :
    testVerdict u i = { u.setLane i ((u.lane i).afterTest r (if r.errors ≤ r.limit then .pass else .fail)) with
      cmd := ended s.cmd c (if r.errors ≤ r.limit then .pass else .fail) (BitVec.ofNat 16 r.clampedFields) } := by
  rw [testVerdict_reached ht hb hq, endTest_ended hl hu ht hc hslot hn]
  split <;> rfl

theorem execTestTimeout_ends (ho : OutOfReset s) (hs : (s.lane i).state = .test) (ht : (s.lane i).test = some r)
    (hb : r.counted < r.blocks) (he : r.timeoutUs ≤ r.elapsed) :
    exec (.testTimeout i) s = .next (commit s (endTest s i .timeout)) := by
  have hx : testExpired (s.lane i) = true := by
    unfold testExpired
    rw [hs, ht]
    simp [hb, he]
  show execTestTimeout i s = _
  unfold execTestTimeout
  rw [hx, show s.path.resetLow = false from ho]
  rfl

end

/-! ### The end of a block's analysis (R12) -/

theorem beginBlock_of_nil {s : State} {i : Fin 16} (h : (s.lane i).queue = []) : beginBlock s i = s := by
  unfold beginBlock
  dsimp only
  rw [h]

section
variable {s : State} {i : Fin 16} {b : QueuedBlock} {rest : List QueuedBlock}

theorem execBlockAnalysisEnd_ends (ho : OutOfReset s) (hq : (s.lane i).queue = b :: rest) :
    exec (.blockAnalysisEnd i) s = .next (commit s (endBlock s i)) := by
  show execBlockAnalysisEnd i s = _
  unfold execBlockAnalysisEnd
  rw [hq, show s.path.resetLow = false from ho]
  rfl

theorem endBlock_test {m : Mapping} {r : TestRun} (hq : (s.lane i).queue = b :: rest) (hm : (s.lane i).mapping = some m)
    (hu : (s.lane i).used.state = .test) (ht : (s.lane i).test = some r) :
    endBlock s i = beginBlock (endTestBlock s i r b rest) i := by
  unfold endBlock
  dsimp only
  rw [hq, hm]
  dsimp only
  rw [hu, ht]

/-- R21, R22: the test once a flagged block has been checked. -/
def TestRun.checked (r : TestRun) (b : QueuedBlock) : TestRun :=
  let g := checkSamples (if b.breakMark = true ∨ b.unseed = true then none else r.generator) b.samples 0
  { r with generator := g.1, errors := min 16777215 (r.errors + g.2) }

theorem endTestBlock_eq (r : TestRun) :
    endTestBlock s i r b rest = testVerdict (s.setLane i { s.lane i with queue := rest, test := some (r.checked b) }) i := by
  unfold endTestBlock TestRun.checked
  simp only [Bool.or_eq_true]
  rfl

end

/-- Settles O23. -/
theorem testTimesOut : Obligations.TestTimesOut := by
  refine ⟨fun s i r c hl ho hs ht hb he hc hslot hn => ?_, fun s i m r b rest ho hm hu ht hq => ?_,
    fun s i r c hl ht => ⟨testVerdict_open ht, fun hb hq hc hslot hn => ?_⟩, fun g => ?_, fun x xs e => ?_⟩
  · rw [execTestTimeout_ends ho hs ht hb he, endTest_ended hl rfl ht hc hslot hn]
    rfl
  · intro g e
    have hlane : ∀ x, (s.setLane i x).lane i = x := State.lane_setLane s i
    rw [execBlockAnalysisEnd_ends ho hq, endBlock_test hq hm hu ht, endTestBlock_eq]
    refine ⟨fun h => ?_, fun c hl hb hr hc hslot hn => ?_⟩
    · rw [testVerdict_open (r := r.checked b) (by rw [hlane]) (by rw [hlane]; exact h)]
      rfl
    · subst hr
      rw [testVerdict_ended (r := r.checked b) hl (by rfl) (by rw [hlane]) hb (by rw [hlane]) hc hslot hn, beginBlock_of_nil,
        hlane, State.setLane_setLane]
      · rfl
      · exact congrArg Lane.queue (State.lane_setLane _ i _)
  · rw [testVerdict_ended hl rfl ht hb hq hc hslot hn]
    have hafter : ∀ res, (s.lane i).afterTest r res = { s.lane i with
        state := .idle, test := none, breakDue := true, badRun := 0, goodRun := 0,
        lastTest := { result := res, errors := r.errors, counted := r.counted } } := fun res => by
      unfold Lane.afterTest Lane.discardQueue
      rw [← hq]
    rw [hafter]
    rfl
  · exact ⟨genReg g, fun j => (genStep (genReg g j)).2, rfl, fun j => ⟨rfl, by rw [genReg_succ]; exact genStep_fst _⟩,
      fun j hj => predicted_getLsbD g hj⟩
  · rw [checkSamples_unseeded]
    exact ⟨fun h => by rw [if_pos h], fun h => by rw [if_neg h], fun g => checkSamples_seeded g x xs e⟩

end Sys2Proof.Machine
end

section
/-! ## The station tracker: peaks, crossings and the vibration block (R50 to R53, R57 to R61) -/

namespace Sys2Proof.Machine

open Sys2Proof.Safety

set_option Elab.async false

/-! ### Crossings (R59 to R61) -/

section
variable {x : Station} {t : SampleTime} {v : Int}

/-- R59: the sample rises through 0 with the mark primed. -/
def Station.crosses (x : Station) (v : Int) : Prop := x.primed = true ∧ 0 ≤ v ∧ ∃ p, x.prevSample = some p ∧ p < 0

/-- R59: the primed mark and the previous sample after a sample. -/
def Station.settled (y : Station) (v : Int) : Station :=
  { (if v < -((y.settings.stopLevel / 2 : Nat) : Int) then { y with primed := true } else y) with prevSample := some v }

theorem Station.settled_eq (y : Station) (v : Int) : y.settled v =
    { y with prevSample := some v, primed := y.primed || decide (v < -((y.settings.stopLevel / 2 : Nat) : Int)) } := by
  unfold Station.settled
  by_cases hv : v < -((y.settings.stopLevel / 2 : Nat) : Int)
  · rw [if_pos hv, decide_eq_true hv, Bool.or_true]
  · rw [if_neg hv, decide_eq_false hv, Bool.or_false]

/-- R59: a sample of 0 or above does not prime the mark. -/
theorem Station.settled_nonneg (y : Station) (h : 0 ≤ v) : y.settled v = { y with prevSample := some v } := by
  rw [Station.settled_eq, decide_eq_false (by omega), Bool.or_false]

theorem crosses_iff : ((match x.prevSample with | some p => decide (p < 0) && decide (0 ≤ v) | none => false) && x.primed) = true
    ↔ x.crosses v := by
  unfold Station.crosses
  cases x.prevSample with
  | none => simp
  | some p => simp [and_comm]

theorem Station.sample_level (h : ¬x.crosses v) : x.sample t v = x.settled v :=
  congrArg (Station.settled · v) (if_neg (mt crosses_iff.mp h))

theorem Station.sample_crossing (h : x.crosses v) : x.sample t v = { x.crossing t with prevSample := some v } := by
  rw [← Station.settled_nonneg _ h.2.1]
  exact congrArg (Station.settled · v) (if_pos (crosses_iff.mpr h))

/-- R60: the station with the crossing in its history and the mark spent. -/
def Station.crossed (x : Station) (t : SampleTime) : Station :=
  { x with primed := false, history := (if 8 ≤ x.history.length then x.history.drop 1 else x.history) ++ [t] }

theorem Station.crossing_resting (h : x.measuring = false) : x.crossing t = { x.crossed t with measureRef := none } := by
  unfold Station.crossing
  exact if_neg fun hm => Bool.false_ne_true (h.symm.trans hm)

theorem Station.crossing_measuring (h : x.measuring = true) : x.crossing t =
    { (match x.measureRef with | some r => (x.crossed t).measure (signedDiff t r) | none => x.crossed t) with
      measureRef := some t } := by
  unfold Station.crossing
  exact if_pos h

theorem Station.measuring_iff : x.measuring = true ↔ x.state = .compacting ∨ x.state = .tailing := by
  simp [Station.measuring]

end

/-! ### Evaluation leaves the cycle, the period and the other records (R95) -/

theorem summarize_frame (k : Fin 4) (r : CycleRecord) (x : Station) (cells : Vector Cell 96) :
    ∃ t n, (summarize k r x cells).1 = { x with totals := t, sumCounter := n } := by
  unfold summarize
  dsimp only
  split
  · exact ⟨_, _, rfl⟩
  · split <;> exact ⟨_, _, rfl⟩

theorem evaluate_station (s : State) (k : Fin 4) (r : CycleRecord) :
    (evaluate s k r).station k = (evaluateStation k r (s.station k)).1 := by
  unfold evaluate
  rw [State.station_congr (handNotices_stations _ _), State.station_setStation]

theorem evaluate_boundary (s : State) (k : Fin 4) (r : CycleRecord) :
    ((evaluate s k r).station k).boundary = (s.station k).boundary.drop 1 := by
  rw [evaluate_station]; rfl

/-- The fields of a station that an evaluation has no part in. -/
theorem evaluate_kept (s : State) (k : Fin 4) (r : CycleRecord) :
    ((evaluate s k r).station k).cycle = (s.station k).cycle
    ∧ ((evaluate s k r).station k).period = (s.station k).period := by
  rw [evaluate_station]
  obtain ⟨t, n, h⟩ := summarize_frame k r (s.station k)
    (if r.incomplete then (s.station k).cells else (s.station k).cells.map fun c => (c.judge (s.station k).criteria r.number).1)
  unfold evaluateStation
  dsimp only
  rw [h]
  exact ⟨rfl, rfl⟩

/-! ### The start and the end of a cycle (R51, R53, R57, R58) -/

section
variable {s : State} {k : Fin 4}

/-- R57: the open record of the cycle with number `n` that starts at `t`. -/
def openRecord (n : BitVec 32) (t : SampleTime) : CycleRecord :=
  { number := n, start := t, finish := none, incomplete := false, forced := false }

/-- R51: the station as a cycle starts, before its record is queued. -/
def Station.pressing (x : Station) : Station :=
  { x with quietTimer := none, cycle := x.cycle + 1, state := .compacting, tail := 0 }

/-- R51, R57: the new record queued behind those of `u`, and a press that was idle said to be resumed. -/
def openCycle (u : State) (k : Fin 4) (t : SampleTime) (peak : Nat) (resumed : Bool) : State :=
  let u1 := u.onStation k fun x => { x with boundary := x.boundary ++ [openRecord x.cycle t] }
  if resumed then handNotice u1 (stationNotice u1 k .pressResumed t peak ((u1.station k).period.getD 0) 0) else u1

theorem startCycle_eq (t : SampleTime) (peak : Nat) : startCycle s k t peak =
    let u := openCycle (forceHead (s.setStation k (s.station k).pressing) k) k t peak (decide ((s.station k).state = .pressIdle))
    if 4 ≤ (s.station k).boundary.length then formingPass u k else u := by
  unfold startCycle
  exact if_congr decide_eq_true_iff rfl rfl

theorem forceHead_room {u : State} (h : (u.station k).boundary.length < 4) : forceHead u k = u := by
  unfold forceHead
  split
  · exact if_neg (Nat.not_le.mpr h)
  · rfl

theorem forceHead_full {u : State} {r : CycleRecord} {rest : List CycleRecord} (hb : (u.station k).boundary = r :: rest)
    (h : 4 ≤ (u.station k).boundary.length) : forceHead u k = evaluate u k { r with forced := true } := by
  unfold forceHead
  rw [hb]
  rw [hb] at h
  exact if_pos h

/-- R51, R57: the state with the new record queued, in terms of the station `x` before the start. -/
theorem openCycle_eq {u : State} {x : Station} {bs : List CycleRecord} (hl : u.vibrationLane k = s.vibrationLane k)
    (hx : x.state = .waiting ∨ x.state = .pressIdle) (hb : (u.station k).boundary = bs)
    (hc : (u.station k).cycle = x.cycle + 1) (hp : (u.station k).period = x.period) (t : SampleTime) (peak : Nat) :
    openCycle u k t peak (decide (x.state = .pressIdle)) = { u with
      stations := u.stations.set k { u.station k with boundary := bs ++ [openRecord (x.cycle + 1) t] }
      notices := if x.state = .waiting then u.notices else u.notices.take
          { kind := .pressResumed, station := k.val, cell := 0xFFFF, cycle := x.cycle + 1, time := t
            lane := match s.vibrationLane k with | some v => v.val | none => 255
            v1 := BitVec.ofNat 32 peak, v2 := BitVec.ofNat 32 (x.period.getD 0), v3 := 0 } } := by
  rw [← hl, ← hb, ← hc, ← hp]
  unfold openCycle
  dsimp only
  rcases hx with hx | hx
  · rw [hx]; rfl
  · rw [hx]
    unfold stationNotice
    rw [State.station_onStation]
    rfl

/-- R53: the station with its open record closed. -/
theorem endCycle_eq {front : List CycleRecord} {r : CycleRecord} (hb : (s.station k).boundary = front ++ [r]) (e : SampleTime) :
    endCycle s k e =
      let u := s.setStation k { s.station k with
        boundary := front ++ [{ r with finish := some e, incomplete := false }], state := .waiting, tail := 0,
        quietTimer := some 0, measureRef := none }
      if front = [] then formingPass u k else u := by
  have hlen : (s.station k).boundary.length = 1 ↔ front = [] := by rw [hb]; simp
  unfold endCycle State.onStation
  dsimp only
  rw [if_congr hlen rfl rfl, hb, closeTail_append]

/-! ### The block peak (R51 to R53) -/

variable (first last : SampleTime) (peak : Nat)

theorem applyPeak_ready (hx : (s.station k).state = .waiting ∨ (s.station k).state = .pressIdle) :
    applyPeak s k first last peak
      = if (s.station k).settings.startLevel ≤ peak then startCycle s k first peak else s := by
  unfold applyPeak
  dsimp only
  rcases hx with hx | hx <;> rw [hx]

theorem applyPeak_compacting (hx : (s.station k).state = .compacting) :
    applyPeak s k first last peak = if peak < (s.station k).settings.stopLevel then
        (if (s.station k).settings.tailBlocks ≤ 1 then
            endCycle (s.setStation k { s.station k with state := .tailing, tail := 1 }) k last
          else s.setStation k { s.station k with state := .tailing, tail := 1 })
      else s := by
  unfold applyPeak
  dsimp only
  rw [hx]
  rfl

theorem applyPeak_tailing (hx : (s.station k).state = .tailing) :
    applyPeak s k first last peak = if (s.station k).settings.startLevel ≤ peak then
        s.setStation k { s.station k with state := .compacting, tail := 0 }
      else if (s.station k).settings.tailBlocks ≤ (s.station k).tail + 1 then
        endCycle (s.setStation k { s.station k with tail := (s.station k).tail + 1 }) k last
      else s.setStation k { s.station k with tail := (s.station k).tail + 1 } := by
  unfold applyPeak
  dsimp only
  conv_lhs => rw [hx]
  rfl

theorem applyPeak_unwatched (hx : (s.station k).state = .stopped ∨ (s.station k).state = .blind) :
    applyPeak s k first last peak = s := by
  unfold applyPeak
  dsimp only
  rcases hx with hx | hx <;> rw [hx]

end

/-! ### The end of a vibration block's analysis (R12, R19, R28, R50) -/

@[simp] theorem endCycle_lanes (s : State) (k : Fin 4) (e : SampleTime) : (endCycle s k e).lanes = s.lanes := by
  unfold endCycle
  dsimp only
  split
  · rw [formingPass_lanes]; rfl
  · rfl

@[simp] theorem startCycle_lanes (s : State) (k : Fin 4) (t : SampleTime) (peak : Nat) :
    (startCycle s k t peak).lanes = s.lanes := by
  have hf : ∀ u, (forceHead u k).lanes = u.lanes := fun u => by
    unfold forceHead
    split
    · split
      · exact evaluate_lanes u k _
      · rfl
    · rfl
  have ho : ∀ u b, (openCycle u k t peak b).lanes = u.lanes := fun u b => by cases b <;> rfl
  rw [startCycle_eq]
  dsimp only
  split
  · rw [formingPass_lanes, ho, hf]; rfl
  · rw [ho, hf]; rfl

@[simp] theorem applyPeak_lanes (s : State) (k : Fin 4) (a b : SampleTime) (peak : Nat) :
    (applyPeak s k a b peak).lanes = s.lanes := by
  cases hx : (s.station k).state with
  | stopped => rw [applyPeak_unwatched _ _ _ (.inl hx)]
  | blind => rw [applyPeak_unwatched _ _ _ (.inr hx)]
  | waiting | pressIdle =>
    rw [applyPeak_ready _ _ _ (by simp [hx])]
    split
    · exact startCycle_lanes s k a peak
    · rfl
  | compacting =>
    rw [applyPeak_compacting _ _ _ hx]
    split
    · split
      · exact endCycle_lanes _ k b
      · rfl
    · rfl
  | tailing =>
    rw [applyPeak_tailing _ _ _ hx]
    split
    · rfl
    · split
      · exact endCycle_lanes _ k b
      · rfl

theorem newHorizon_eq (old : Option SampleTime) (first : SampleTime) (trim : Int) :
    newHorizon old first trim = some (match old with
      | none => first + 59 + BitVec.ofInt 32 trim
      | some o => if 1 ≤ (first + 59 + BitVec.ofInt 32 trim - o).toNat ∧ (first + 59 + BitVec.ofInt 32 trim - o).toNat ≤ 2147483647
          then first + 59 + BitVec.ofInt 32 trim else o) := by
  unfold newHorizon shiftTime later
  cases old with
  | none => rfl
  | some o => simp only [decide_eq_true_eq]; split <;> rfl

/-- R19, R70: a lane outside the horizon set advances its horizon alone. -/
theorem advanceHorizon_outside {s : State} {i : Fin 16} (h : (s.lane i).inHorizonSet = false) (k : Fin 4)
    (first : SampleTime) (trim : Int) :
    advanceHorizon s i k first trim = s.setLane i { s.lane i with horizon := newHorizon (s.lane i).horizon first trim } := by
  unfold advanceHorizon
  exact if_neg fun hc => by simp [h] at hc

section
variable {s : State} {i : Fin 16} {m : Mapping} {b : QueuedBlock} {rest : List QueuedBlock}

theorem endBlock_vibration (hq : (s.lane i).queue = b :: rest) (hm : (s.lane i).mapping = some m) (hr : m.role = .vibration)
    (hu : (s.lane i).used.state ≠ .test) : endBlock s i = beginBlock (endVibration s i m.station b rest) i := by
  unfold endBlock
  dsimp only
  rw [hq, hm]
  dsimp only
  rw [hr]
  cases h : (s.lane i).used.state with
  | test => exact absurd h hu
  | _ => rfl

theorem Lane.inHorizonSet_vibration {l : Lane} (hm : l.mapping = some m) (hr : m.role = .vibration) :
    l.inHorizonSet = false := by
  unfold Lane.inHorizonSet
  rw [Lane.isAE_eq hm, hr]
  rfl

/-- R12, R26: the vibration lane's record once the block has left its queue. -/
def Lane.shiftVibration (l : Lane) (b : QueuedBlock) (rest : List QueuedBlock) : Lane :=
  { l with offset := l.endOffset b, queue := rest }

/-- R12, R19, R26: the vibration lane's record after the block. -/
def Lane.afterVibration (l : Lane) (b : QueuedBlock) (rest : List QueuedBlock) : Lane :=
  { l.shiftVibration b rest with horizon := newHorizon l.horizon b.first l.used.trim }

theorem endVibration_eq (hm : (s.lane i).mapping = some m) (hr : m.role = .vibration) (k : Fin 4) :
    endVibration s i k b rest =
      let l := s.lane i
      let u := if l.used.state = .live then
          vibrationBlock (s.setLane i (l.shiftVibration b rest)) k (b.samples.map (corrected l.offset))
            (shiftTime b.first l.used.trim) b.breakMark
        else s.setLane i (l.shiftVibration b rest)
      u.setLane i (l.afterVibration b rest) := by
  have hset : ∀ u : State, u.lane i = (s.lane i).shiftVibration b rest → advanceHorizon u i k b.first (s.lane i).used.trim
      = u.setLane i ((s.lane i).afterVibration b rest) := by
    intro u hu
    rw [advanceHorizon_outside (by rw [hu]; exact Lane.inHorizonSet_vibration (m := m) hm hr), hu]
    rfl
  unfold endVibration
  refine hset _ ?_
  split
  · unfold vibrationBlock
    rw [State.lane_congr (applyPeak_lanes _ _ _ _ _)]
    exact State.lane_setLane s i _
  · exact State.lane_setLane s i _

end

/-- Settles O24. -/
theorem trackerFollowsPress : Obligations.TrackerFollowsPress := by
  refine ⟨fun s k first last peak => ?_, fun s i m b rest ho hm hr hq hu => ?_, fun x t v rest => ?_⟩
  · intro x finished
    have hend : ∀ (y : Station) (front : List CycleRecord) (r : CycleRecord), x.boundary = front ++ [r] →
        y.boundary = x.boundary → (∀ b, { y with
            boundary := b, state := .waiting, tail := 0, quietTimer := some 0, measureRef := none }
          = { x with boundary := b, state := .waiting, tail := 0, quietTimer := some 0, measureRef := none }) →
        endCycle (s.setStation k y) k last = finished front r := by
      intro y front r hb hy he
      rw [endCycle_eq (front := front) (r := r) (by rw [State.station_setStation, hy, hb])]
      simp only [State.station_setStation, State.setStation_setStation]
      rw [he]
      rfl
    have hstart : (x.state = .waiting ∨ x.state = .pressIdle) → x.settings.startLevel ≤ peak →
        applyPeak s k first last peak = startCycle s k first peak := fun hx hp => by
      rw [applyPeak_ready _ _ _ hx]; exact if_pos hp
    have hpress : (s.setStation k x.pressing).station k = x.pressing := State.station_setStation s k _
    refine ⟨fun hx hp hb => ?_, fun hx hp => ?_, fun hx hp => ?_, fun hx hp ht => ?_, fun hx hp => ?_, fun hx hp ht => ?_,
      fun front r hb => ⟨fun hx hp ht => ?_, fun hx hp ht => ?_⟩, fun hx => ?_, fun r rest hx hp hb hfull => ?_⟩
    · rw [hstart hx hp, startCycle_eq]
      dsimp only
      rw [if_neg (Nat.not_le.mpr hb), forceHead_room (by rw [hpress]; exact hb),
        openCycle_eq (s := s) (x := x) (by rfl) hx (by rw [hpress]) (by rw [hpress]; rfl) (by rw [hpress]; rfl), hpress]
      simp only [State.setStation, Vector.set_set]
      rfl
    · rw [applyPeak_ready _ _ _ hx]; exact if_neg (Nat.not_le.mpr hp)
    · rw [applyPeak_compacting _ _ _ hx]; exact if_neg (Nat.not_lt.mpr hp)
    · rw [applyPeak_compacting _ _ _ hx, if_pos hp]; exact if_neg (Nat.not_le.mpr ht)
    · rw [applyPeak_tailing _ _ _ hx]; exact if_pos hp
    · rw [applyPeak_tailing _ _ _ hx, if_neg (Nat.not_le.mpr hp)]; exact if_neg (Nat.not_le.mpr ht)
    · rw [applyPeak_tailing _ _ _ hx, if_neg (Nat.not_le.mpr hp), if_pos ht]
      exact hend _ _ _ hb rfl fun _ => rfl
    · rw [applyPeak_compacting _ _ _ hx, if_pos hp, if_pos ht]
      exact hend _ _ _ hb rfl fun _ => rfl
    · exact applyPeak_unwatched _ _ _ hx
    · intro u
      have hpb : ((s.setStation k x.pressing).station k).boundary = r :: rest := by rw [hpress]; exact hb
      obtain ⟨hcycle, hperiod⟩ := evaluate_kept (s.setStation k x.pressing) k { r with forced := true }
      rw [hpress] at hcycle hperiod
      rw [hstart hx hp, startCycle_eq]
      dsimp only
      rw [if_pos hfull, forceHead_full hpb (by rw [hpress]; exact hfull),
        openCycle_eq (s := s) (x := x) (bs := rest) ?_ hx ?_ hcycle hperiod]
      · rfl
      · exact State.vibrationLane_congr (fun j => by rw [State.lane_congr (evaluate_lanes _ _ _)]; rfl) k
      · rw [evaluate_boundary, hpb]; rfl
  · intro k l x h first values peak l1 l2 y u
    have hl2 : (s.lane i).afterVibration b rest = l2 := by unfold Lane.afterVibration; rw [newHorizon_eq]; rfl
    rw [execBlockAnalysisEnd_ends ho hq, endBlock_vibration hq hm hr hu, endVibration_eq hm hr]
    dsimp only
    rw [hl2]
    refine ⟨fun hlive => ?_, fun hlive => ?_⟩
    · rw [if_neg hlive]
      exact congrArg (fun w => (.next (commit s (beginBlock w i)) : Reply)) (State.setLane_setLane s i _ l2)
    · rw [if_pos hlive]
      rfl
  · intro up y
    refine ⟨rfl, fun h => ?_, fun h hc ht => ?_, fun h hs => ⟨fun hn => ?_, fun n hn => ?_⟩⟩
    · rw [Station.sample_level h, Station.settled_eq]
    · have hm : x.measuring = false := by
        rw [← Bool.not_eq_true, Station.measuring_iff]
        exact fun h => h.elim hc ht
      rw [Station.sample_crossing h, Station.crossing_resting hm]
      rfl
    · rw [Station.sample_crossing h, Station.crossing_measuring (Station.measuring_iff.mpr hs), hn]
      rfl
    · rw [Station.sample_crossing h, Station.crossing_measuring (Station.measuring_iff.mpr hs), hn]
      rfl

end Sys2Proof.Machine
end

section
/-! ## The end and the beginning of a block's analysis (R12, R19, R26 to R45) -/

namespace Sys2Proof.Machine

open Sys2Proof.Safety

set_option Elab.async false

/-! ### The noise window (R30, R31) -/

/-- R30, R31: the lane with a block of level `level` in its window, the block being quiet when `q`. -/
def Lane.windowed (l : Lane) (q : Prop) [Decidable q] (level : Nat) : Lane :=
  let nq := l.winQuiet + if q then 1 else 0
  let sum := if q then min 4294967295 (l.winSum + level) else l.winSum
  let full := l.used.detect.windowLength ≤ l.winBlocks + 1
  let valid := full ∧ l.used.detect.windowLength ≤ 4 * nq
  { l with
    winBlocks := if full then 0 else l.winBlocks + 1
    winQuiet := if full then 0 else nq
    winSum := if full then 0 else sum
    noise := if valid then sum / nq else l.noise
    noiseValid := if valid then true else l.noiseValid }

theorem Lane.addToWindow_eq (l : Lane) {quiet : Bool} {q : Prop} [Decidable q] (h : quiet = true ↔ q) (level : Nat) :
    l.addToWindow quiet level = l.windowed q level := by
  have hn : quiet.toNat = if q then 1 else 0 := by rw [← if_congr h rfl rfl]; cases quiet <;> rfl
  have hs : (if quiet = true then sat32 l.winSum level else l.winSum)
      = if q then min 4294967295 (l.winSum + level) else l.winSum := if_congr h rfl rfl
  unfold Lane.addToWindow Lane.windowed
  dsimp only
  rw [hn, hs]
  by_cases hf : l.used.detect.windowLength ≤ l.winBlocks + 1
  · by_cases hv : l.used.detect.windowLength ≤ 4 * (l.winQuiet + if q then 1 else 0)
    · simp only [hf, hv, if_true, and_self]
    · simp only [hf, hv, if_true, if_false, and_false]
  · simp only [hf, if_false, false_and]

/-- R30: the blocks that count as quiet. -/
theorem isQuiet_iff (src : WindowSource) (hitFree : Bool) (st : StationState) : isQuiet src hitFree st = true ↔
    hitFree = true ∧ (src = .any ∨ st = .stopped ∨ st = .waiting ∨ st = .pressIdle) := by
  cases hitFree
  · simp [isQuiet]
  · cases src <;> cases st <;> simp [isQuiet]

/-! ### The end of an AE lane's block (R26, R29 to R34, R70) -/

theorem handHits_lanes (hs : List Hit) (s : State) (k : Fin 4) :
    (hs.foldl (fun s h => handHit s k h) s).lanes = s.lanes :=
  handHits_induct (P := fun t => t.lanes = s.lanes) (fun t h ht => (handHit_lanes t k h).trans ht) hs s rfl

section
variable {s : State} {i : Fin 16} {m : Mapping} {r : Fin 6} {b : QueuedBlock} {rest : List QueuedBlock}

theorem endBlock_ae (hq : (s.lane i).queue = b :: rest) (hm : (s.lane i).mapping = some m) (hr : m.role = .ae r)
    (hu : (s.lane i).used.state ≠ .test) : endBlock s i = beginBlock (endAE s i m.station r b rest) i := by
  unfold endBlock
  dsimp only
  rw [hq, hm]
  dsimp only
  rw [hr]
  cases h : (s.lane i).used.state with
  | test => exact absurd h hu
  | _ => rfl

/-- R19, R70: with `run` the detector's run and `x` the lane's record after the block, its hits are handed on, and then
the lane advances its horizon, the pass running when it has moved. -/
theorem endAE_of_run {run : DetectRun} {x : Lane} (k : Fin 4)
    (hrun : (s.lane i).detect? i r b (b.samples.map fun v => magnitude (corrected (s.lane i).offset v)) = run)
    (hx : { (s.lane i).endAE b run (isQuiet (s.lane i).used.detect.source run.hitFree (s.station k).state)
      (blockLevel (b.samples.map fun v => magnitude (corrected (s.lane i).offset v))) with queue := rest } = x) :
    endAE s i k r b rest =
      let h := newHorizon x.horizon b.first (s.lane i).used.trim
      let v := (run.closed.foldl (fun s h => handHit s k h) (s.setLane i x)).setLane i { x with horizon := h }
      if x.inHorizonSet = true ∧ h ≠ x.horizon then formingPass v k else v := by
  have hl : (run.closed.foldl (fun s h => handHit s k h) (s.setLane i x)).lane i = x := by
    rw [State.lane_congr (handHits_lanes _ _ _), State.lane_setLane]
  have he : endAE s i k r b rest
      = advanceHorizon (run.closed.foldl (fun s h => handHit s k h) (s.setLane i x)) i k b.first (s.lane i).used.trim := by
    rw [← hx, ← hrun]
    rfl
  rw [he]
  unfold advanceHorizon
  rw [hl]

end

/-- R29: outside LIVE the detector is held as it is. -/
def Lane.heldRun (l : Lane) : DetectRun :=
  { state := l.detector, hit := l.hit, rearm := l.rearmCount, closed := [], hitFree := true }

theorem Lane.detect?_eq (l : Lane) (i : Fin 16) (r : Fin 6) (b : QueuedBlock) (mags : List Nat) :
    l.detect? i r b mags = match l.threshold with
      | some t => if l.used.state = .live then
          detectAll { lane := i, role := r, threshold := t, deadTime := l.used.detect.deadTime,
                      rearmTime := l.used.detect.rearmTime, segment := b.segment, overload := b.overload }
            l.heldRun (b.first + BitVec.ofInt 32 l.used.trim) mags
        else l.heldRun
      | none => l.heldRun := by
  unfold Lane.detect?
  cases l.threshold <;> cases l.used.state <;> rfl

/-- R26, R30, R31, R34: the lane record after a block. -/
theorem Lane.endAE_eq (l : Lane) (b : QueuedBlock) (run : DetectRun) {quiet : Bool} {q : Prop} [Decidable q]
    (h : quiet = true ↔ q) (level : Nat) :
    l.endAE b run quiet level =
      let x := { l.windowed q level with
        offset := l.endOffset b, detector := run.state, hit := run.hit, rearmCount := run.rearm,
        settleCount := l.endSettleCount }
      { x with liveDue := decide (l.state = .settling) && (match l.used.detect.mode with
          | .auto => x.noiseValid
          | .manual => decide (l.endSettleCount = 16)) } := by
  unfold Lane.endAE
  rw [Lane.addToWindow_eq _ h]
  rfl

/-! ### The beginning of a block's analysis (R27, R33 to R35, R37, R40, R45) -/

theorem Lane.restartWindow_eq (l : Lane) :
    let same := l.detect.windowLength = l.used.detect.windowLength ∧ l.detect.source = l.used.detect.source
    l.restartWindow = { l with
      winBlocks := if same then l.winBlocks else 0
      winQuiet := if same then l.winQuiet else 0
      winSum := if same then l.winSum else 0 } := by
  intro same
  unfold Lane.restartWindow
  by_cases h : same
  · simp only [if_pos h]; exact if_pos h
  · simp only [if_neg h]; exact if_neg h

/-- R40: the detector reset when a beginning cuts the hit in progress. -/
def Lane.cut (l : Lane) (c : Prop) [Decidable c] : Lane :=
  { l with
    detector := if c then .armed else l.detector
    hit := if c then none else l.hit
    rearmCount := if c then 0 else l.rearmCount }

/-- R27, R37, R40, R45: the lane record as a block begins, in its parts. -/
theorem Lane.beginBlock_eq (l : Lane) (b : QueuedBlock) {c : Prop} [Decidable c] (h : l.beginTruncates b = true ↔ c) :
    l.beginBlock b =
      let x := if l.isAE = true then (l.cut c).beginAE else l.cut c
      ({ x with offset := x.beginOffset, used := x.inForce } : Lane).markOverload b := by
  have hcut : (if l.beginTruncates b = true then l.resetDetector else l) = l.cut c := by
    rw [if_congr h rfl rfl]
    unfold Lane.cut
    by_cases hc : c
    · simp only [if_pos hc]; rfl
    · simp only [if_neg hc]
  unfold Lane.beginBlock
  rw [hcut]
  rfl

/-- R37: the hit that goes on takes the block's overload flag. -/
theorem Lane.overload_cut (l : Lane) (b : QueuedBlock) (c : Prop) [Decidable c] :
    ((l.cut c).hit.map fun h => { h with overloadSeen := h.overloadSeen || b.overload })
      = if c then none else l.hit.map fun h => { h with overloadSeen := h.overloadSeen || b.overload } := by
  unfold Lane.cut
  by_cases hc : c
  · simp only [if_pos hc]; rfl
  · simp only [if_neg hc]

/-- R27, R33 to R35, R37, R40, R45: the record of an AE lane as a block begins, `c` being what cuts a hit. -/
theorem Lane.beginBlock_ae {l : Lane} {b : QueuedBlock} {c : Prop} [Decidable c] (hae : l.isAE = true)
    (h : l.beginTruncates b = true ↔ c) :
    let same := l.detect.windowLength = l.used.detect.windowLength ∧ l.detect.source = l.used.detect.source
    l.beginBlock b = { l with
      state := l.settleState, liveDue := false
      settleCount := if l.detect.mode = .auto ∨ l.settleState = .settling ∧ l.state = .live then 0 else l.settleCount
      winBlocks := if same then l.winBlocks else 0
      winQuiet := if same then l.winQuiet else 0
      winSum := if same then l.winSum else 0
      threshold := thresholdFor l.detect l.noise l.noiseValid
      offset := l.beginOffset
      used := { state := l.settleState, trim := l.trim, offsetMode := l.offsetMode, offsetRange := l.offsetRange,
                fixedOffset := l.fixedOffset, detect := l.detect }
      detector := if c then .armed else l.detector
      hit := if c then none else l.hit.map fun h => { h with overloadSeen := h.overloadSeen || b.overload }
      rearmCount := if c then 0 else l.rearmCount } := by
  rw [Lane.beginBlock_eq l b h, if_pos hae, ← Lane.overload_cut]
  unfold Lane.beginAE
  rw [Lane.restartWindow_eq]
  rfl

/-- R27, R37, R40, R45: the record of a vibration lane as a block begins. -/
theorem Lane.beginBlock_vibration {l : Lane} {b : QueuedBlock} {c : Prop} [Decidable c] (hae : l.isAE = false)
    (h : l.beginTruncates b = true ↔ c) :
    l.beginBlock b = { l with
      offset := l.beginOffset
      used := { state := l.state, trim := l.trim, offsetMode := l.offsetMode, offsetRange := l.offsetRange,
                fixedOffset := l.fixedOffset, detect := l.detect }
      detector := if c then .armed else l.detector
      hit := if c then none else l.hit.map fun h => { h with overloadSeen := h.overloadSeen || b.overload }
      rearmCount := if c then 0 else l.rearmCount } := by
  rw [Lane.beginBlock_eq l b h, hae, ← Lane.overload_cut]
  rfl

theorem Lane.beginTruncates_ae {l : Lane} (hae : l.isAE = true) (b : QueuedBlock) :
    l.beginTruncates b = true ↔ b.breakMark = true ∨ l.state = .live ∧ l.settleState = .settling := by
  unfold Lane.beginTruncates
  rw [hae]
  simp only [Bool.true_and, Bool.or_eq_true, Bool.and_eq_true, decide_eq_true_eq]

theorem Lane.beginTruncates_vibration {l : Lane} (hae : l.isAE = false) (b : QueuedBlock) :
    l.beginTruncates b = true ↔ b.breakMark = true := by
  unfold Lane.beginTruncates
  rw [hae]
  simp only [Bool.false_and, Bool.or_false]

section
variable {s : State} {i : Fin 16} {m : Mapping} {b : QueuedBlock} {rest : List QueuedBlock}

/-- R40: a running lane's block begins, and the hit that this cuts is handed on. -/
theorem beginBlock_running (hm : (s.lane i).mapping = some m) (hq : (s.lane i).queue = b :: rest)
    (hst : (s.lane i).state = .idle ∨ (s.lane i).state = .settling ∨ (s.lane i).state = .live) :
    beginBlock s i = handHit? (s.setLane i ((s.lane i).beginBlock b)) m.station
      (if (s.lane i).beginTruncates b = true then (s.lane i).truncatedHit i else none) := by
  unfold beginBlock
  dsimp only
  rw [hq, Lane.stationOf_eq hm]
  dsimp only
  rcases hst with hst | hst | hst <;> rw [hst]

end

/-- Settles O20. -/
theorem idleLaneAnalysis : Obligations.IdleLaneAnalysis := by
  refine ⟨fun s i m r b rest ho hm hr hq hu => ?_, fun s i h => beginBlock_of_nil h, fun s i m r b rest hm hr hq hst => ?_,
    fun s i m b rest hm hq => ⟨fun ht => ?_, fun hr hst => ?_⟩⟩
  · intro k l mags level offset still h horizon after
    have hquiet : ∀ hitFree, isQuiet l.used.detect.source hitFree (s.station k).state = true ↔ hitFree = true ∧ still :=
      fun hitFree => isQuiet_iff _ _ _
    rw [execBlockAnalysisEnd_ends ho hq, endBlock_ae hq hm hr hu]
    refine ⟨fun hst hused => ?_, fun hst => ?_⟩
    · have hrun : l.detect? i r b mags = l.heldRun := by
        rw [Lane.detect?_eq, hused]
        cases l.threshold <;> rfl
      have hsettle : l.endSettleCount = l.settleCount := by
        unfold Lane.endSettleCount
        rw [hused]
        rfl
      have hx : { l.endAE b l.heldRun (isQuiet l.used.detect.source l.heldRun.hitFree (s.station k).state) level with
          queue := rest } = after true := by
        rw [Lane.endAE_eq l b _ (hquiet _), hsettle, hst]
        rfl
      have hout : (after true).inHorizonSet = false := by
        show (_ && (decide (l.state = .settling) || decide (l.state = .live))) = false
        rw [hst]
        exact Bool.and_false _
      rw [endAE_of_run k hrun hx]
      dsimp only
      rw [if_neg (by simp [hout]), newHorizon_eq]
      exact congrArg (fun w => (.next (commit s (beginBlock w i)) : Reply)) (State.setLane_setLane s i (after true) _)
    · intro held run settle l1 l2 u v
      have hrun : l.detect? i r b mags = run := Lane.detect?_eq l i r b mags
      have hx : { l.endAE b run (isQuiet l.used.detect.source run.hitFree (s.station k).state) level with queue := rest }
          = l2 := by
        rw [Lane.endAE_eq l b _ (hquiet _)]
        rfl
      have hin : l2.inHorizonSet = true := by
        unfold Lane.inHorizonSet
        rw [Lane.isAE_eq (l := l2) hm, hr]
        show (true && (decide (l.state = .settling) || decide (l.state = .live))) = true
        simpa using hst
      rw [endAE_of_run k hrun hx]
      dsimp only
      rw [newHorizon_eq]
      have hpass : (if l2.inHorizonSet = true ∧ some horizon ≠ l.horizon then formingPass v k else v)
          = if some horizon = l.horizon then v else formingPass v k := by
        by_cases he : some horizon = l.horizon
        · rw [if_neg fun h => h.2 he, if_pos he]
        · rw [if_pos ⟨hin, he⟩, if_neg he]
      exact congrArg (fun w => (.next (commit s (beginBlock w i)) : Reply)) hpass
  · intro l risen st same cut l1
    have hae : l.isAE = true := by rw [Lane.isAE_eq hm, hr]; rfl
    have hcut : l.beginTruncates b = true ↔ cut := Lane.beginTruncates_ae hae b
    have hl1 : l.beginBlock b = l1 := by
      rw [Lane.beginBlock_ae hae hcut]
      rfl
    rw [beginBlock_running hm hq hst, hl1, if_congr hcut rfl rfl]
    cases hh : l.hit with
    | none => rw [Lane.truncatedHit_none hh, ite_self]; rfl
    | some x =>
      rw [Lane.truncatedHit_some hm hr hh]
      dsimp only
      split <;> rfl
  · exact beginBlock_test hm ht (by rw [hq]; exact List.cons_ne_nil _ _)
  · have hae : (s.lane i).isAE = false := by rw [Lane.isAE_eq hm, hr]; rfl
    rw [beginBlock_running hm hq hst, Lane.truncatedHit_vibration hm hr, ite_self,
      Lane.beginBlock_vibration hae (Lane.beginTruncates_vibration hae b)]
    rfl

end Sys2Proof.Machine
end

section
/-! ## Set Detection (R44) -/

namespace Sys2Proof.Machine

open Sys2Proof.Safety

set_option Elab.async false

/-- R44: the settings of a record, clamped. -/
theorem detectionOf_eq (mode : ThresholdMode) (src : WindowSource) (l : List Byte) :
    detectionOf mode src l =
      { mode := mode, gain := max 8 (min 255 (u8 l 7)), thresholdOffset := min 4095 (u16 l 12),
        manual := max 16 (min 32767 (u16 l 10)), deadTime := max 8 (min 4095 (u16 l 14)),
        rearmTime := min 4095 (u16 l 16), windowLength := u16 l 8, source := src } := by
  simp only [detectionOf, clampNat_zero]
  rfl

/-- R44: a record that passes the tests replaces the lane's settings and completes. -/
theorem startSetDetection_takes {s : State} {c : Cmd} {lane : Fin 16} {mode : ThresholdMode} {src : WindowSource}
    (h4 : u8 c.bytes.toList 4 = lane.val) (h5 : thresholdModeOf (u8 c.bytes.toList 5) = some mode)
    (h6 : sourceOf (u8 c.bytes.toList 6) = some src) (h8 : u16 c.bytes.toList 8 ∈ [128, 256, 512, 1024])
    (hu : (s.lane lane).state ≠ .unmapped) :
    startSetDetection c s =
      complete (s.onLane lane fun x => { x with detect := detectionOf mode src c.bytes.toList }) c.slot
        (detectionClamped (detectionOf mode src c.bytes.toList) c.bytes.toList) := by
  simp only [startSetDetection, h4, laneOf_val, h5, h6, (windowLengthOk_iff _).mpr h8, hu, Bool.not_true, Bool.false_eq_true,
    if_false]

/-- Settles O40. -/
theorem detectionTakes : Obligations.DetectionTakes := by
  intro s c lane mode src hl hs l h4 h5 h6 h8 hu gain offset manual dead rearm
  have h := startStep_completes (f := startSetDetection) hl hs (startSetDetection_takes h4 h5 h6 h8 hu) rfl
  rw [detectionOf_eq] at h
  exact h

end Sys2Proof.Machine
end

section
/-! ## The hit detector (R30, R36 to R42) -/

namespace Sys2Proof.Machine

set_option Elab.async false

/-! ### Differences of sample times (00, 4) -/

/-- Signed differences add up while their sum has a place in 32 bits. -/
theorem signedDiff_add {t u v : SampleTime} (hlo : -2147483648 ≤ signedDiff t u + signedDiff u v)
    (hhi : signedDiff t u + signedDiff u v < 2147483648) : signedDiff t v = signedDiff t u + signedDiff u v := by
  unfold signedDiff at *
  rw [← sub_add_sub_cancel t u v, BitVec.toInt_add]
  exact Int.bmod_eq_of_le (by omega) (by omega)

@[simp] theorem signedDiff_self (t : SampleTime) : signedDiff t t = 0 := by simp [signedDiff]

theorem signedDiff_succ_self (t : SampleTime) : signedDiff (t + 1) t = 1 := by
  unfold signedDiff
  rw [add_sub_cancel_left]
  rfl

theorem signedDiff_succ {t u : SampleTime} (hlo : 0 ≤ signedDiff t u) (hhi : signedDiff t u < 2147483647) :
    signedDiff (t + 1) u = signedDiff t u + 1 := by
  have h1 := signedDiff_succ_self t
  rw [signedDiff_add (u := t) (by omega) (by omega), h1, add_comm]

/-! ### One sample (R36 to R39) -/

/-- R37, R38: a hit that a sample reopens in its trail, before that sample is taken: the pending energy joins. -/
def HitInProgress.reopened (h : HitInProgress) : HitInProgress :=
  { h with crossings := min 255 (h.crossings + 1), energy := min 4294967295 (h.energy + h.pending), pending := 0, below := 0 }

/-- R38: one more sample below the threshold in the trail. -/
def HitInProgress.trailed (h : HitInProgress) (mag : Nat) : HitInProgress :=
  { h with below := h.below + 1, pending := min 4294967295 (h.pending + energyOf mag) }

section
variable (c : BlockContext) {r : DetectRun} (t : SampleTime) {mag : Nat} {h : HitInProgress}

theorem detectStep_armed_below (hs : r.state = .armed) (hm : mag < c.threshold) : detectStep c r t mag = r := by
  simp only [detectStep, hs, if_neg (Nat.not_le.mpr hm)]

theorem detectStep_armed_reached (hs : r.state = .armed) (hm : c.threshold ≤ mag) :
    detectStep c r t mag = { r with state := .opened, hit := some (openHit c t mag) } := by
  simp only [detectStep, hs, if_pos hm]

theorem detectStep_opened_below (hs : r.state = .opened) (hh : r.hit = some h) (hm : mag < c.threshold) :
    detectStep c r t mag = { r with state := .trailing, hit := some { h with below := 1, pending := energyOf mag } } := by
  simp only [detectStep, hs, hh, if_neg (Nat.not_le.mpr hm)]

theorem detectStep_opened_reached (hs : r.state = .opened) (hh : r.hit = some h) (hm : c.threshold ≤ mag) :
    detectStep c r t mag = r.keepOpen c (h.taken t mag) := by
  simp only [detectStep, hs, hh, if_pos hm]

theorem detectStep_trailing_reached (hs : r.state = .trailing) (hh : r.hit = some h) (hm : c.threshold ≤ mag) :
    detectStep c r t mag = r.keepOpen c (h.reopened.taken t mag) := by
  simp only [detectStep, hs, hh, if_pos hm]
  rfl

theorem detectStep_trailing_counts (hs : r.state = .trailing) (hh : r.hit = some h) (hm : mag < c.threshold)
    (hd : h.below + 1 < c.deadTime) : detectStep c r t mag = { r with hit := some (h.trailed mag) } := by
  simp only [detectStep, hs, hh, if_neg (Nat.not_le.mpr hm), if_neg (Nat.not_le.mpr hd)]
  rfl

/-- R38, R41: the record of a hit that its dead time closes does not depend on the trail. -/
theorem detectStep_trailing_closes (hs : r.state = .trailing) (hh : r.hit = some h) (hm : mag < c.threshold)
    (hd : c.deadTime ≤ h.below + 1) : detectStep c r t mag = r.rearmed c (h.close c.lane c.role false false) := by
  simp only [detectStep, hs, hh, if_neg (Nat.not_le.mpr hm), if_pos hd]
  rfl

theorem detectStep_rearm (hs : r.state = .rearm) :
    detectStep c r t mag = { r with state := if r.rearm ≤ 1 then .armed else .rearm, rearm := r.rearm - 1 } := by
  by_cases hr : r.rearm ≤ 1
  · simp only [detectStep, hs, if_pos hr, Nat.sub_eq_zero_of_le hr]
  · simp only [detectStep, hs, if_neg hr]

/-- OPEN or TRAILING without a hit, which no step leads to, the detector stands still. -/
theorem detectStep_no_hit (hs : r.state = .opened ∨ r.state = .trailing) (hh : r.hit = none) :
    detectStep c r t mag = r := by
  rcases hs with hs | hs <;> simp only [detectStep, hs, hh]

theorem DetectRun.keepOpen_short (hd : signedDiff h.last h.arrival + 1 < 65535) :
    r.keepOpen c h = { r with state := .opened, hit := some h } := if_neg (Int.not_le.mpr hd)

theorem DetectRun.keepOpen_long (hd : 65535 ≤ signedDiff h.last h.arrival + 1) :
    r.keepOpen c h = r.rearmed c (h.close c.lane c.role false true) := if_pos hd

/-- R30: a sample before or after which the detector is not ARMED makes the block not hit-free. -/
theorem detectSample_spoils (hs : ¬ (r.state = .armed ∧ (detectStep c r t mag).state = .armed)) :
    detectSample c r t mag = { detectStep c r t mag with hitFree := false } := by
  have hf : (r.hitFree && decide (r.state = .armed) && decide ((detectStep c r t mag).state = .armed)) = false := by
    rw [Bool.and_assoc, ← Bool.decide_and, decide_eq_false hs, Bool.and_false]
  simp only [detectSample, hf]

theorem detectSample_not_armed (hs : r.state ≠ .armed) :
    detectSample c r t mag = { detectStep c r t mag with hitFree := false } :=
  detectSample_spoils c t fun hn => hs hn.1

theorem detectSample_armed_below (hs : r.state = .armed) (hm : mag < c.threshold) : detectSample c r t mag = r := by
  have hf : (r.hitFree && decide (r.state = .armed) && decide (r.state = .armed)) = r.hitFree := by
    rw [decide_eq_true hs, Bool.and_true, Bool.and_true]
  simp only [detectSample, detectStep_armed_below c t hs hm, hf]

end

/-! ### The record made at a close (R41, R42) -/

theorem HitInProgress.close_eq {h : HitInProgress} (lane : Fin 16) (role : Fin 6) (truncated long : Bool)
    (hp : 0 ≤ signedDiff h.peakTime h.arrival) (hd : 0 ≤ signedDiff h.last h.arrival) :
    h.close lane role truncated long =
      { lane := lane, role := role, arrival := h.arrival, peak := h.peak
        rise := min 65535 (signedDiff h.peakTime h.arrival).toNat
        duration := if long = true then 65535 else (signedDiff h.last h.arrival + 1).toNat
        crossings := h.crossings, energy := h.energy, segment := h.segment, truncated := truncated, long := long
        saturated := decide (h.peak = 32767 ∨ h.overloadSeen = true) } := by
  have hrise : h.rise = min 65535 (signedDiff h.peakTime h.arrival).toNat := if_pos hp
  have hspan : h.span = (signedDiff h.last h.arrival + 1).toNat := if_pos (Int.le_add_of_nonneg_left hd)
  have hsat : (decide (h.peak = 32767) || h.overloadSeen) = decide (h.peak = 32767 ∨ h.overloadSeen = true) := by
    rw [Bool.decide_or, Bool.decide_eq_true]
  unfold HitInProgress.close
  rw [hrise, hspan, hsat]

/-- R41: what a record closed by dead time or by length in the block holds. -/
def Hit.InRange (c : BlockContext) (x : Hit) : Prop :=
  x.lane = c.lane ∧ x.role = c.role ∧ x.truncated = false ∧ 16 ≤ x.peak ∧ x.peak ≤ 32767 ∧ 1 ≤ x.crossings
    ∧ x.crossings ≤ 255 ∧ 1 ≤ x.energy ∧ x.energy ≤ 4294967295 ∧ 0 ≤ x.rise ∧ x.rise ≤ 65535 ∧ 1 ≤ x.duration
    ∧ x.duration ≤ 65535 ∧ x.rise ≤ x.duration ∧ (x.long = true ↔ x.duration = 65535)

/-- R41: a hit in progress whose values are in range and whose times are in order. -/
structure HitInProgress.Sound (h : HitInProgress) : Prop where
  le_peak : 16 ≤ h.peak
  peak_le : h.peak ≤ 32767
  le_crossings : 1 ≤ h.crossings
  crossings_le : h.crossings ≤ 255
  le_energy : 1 ≤ h.energy
  energy_le : h.energy ≤ 4294967295
  arrival_peak : 0 ≤ signedDiff h.peakTime h.arrival
  peak_last : signedDiff h.peakTime h.arrival ≤ signedDiff h.last h.arrival

/-- R39, R41: the record is in range when LONG stands for a duration of 65535 or more. -/
theorem HitInProgress.Sound.close_inRange {h : HitInProgress} (hs : h.Sound) (c : BlockContext) {long : Bool}
    (hl : long = true ↔ 65535 ≤ signedDiff h.last h.arrival + 1) : (h.close c.lane c.role false long).InRange c := by
  have hp := hs.arrival_peak
  have hpl := hs.peak_last
  rw [HitInProgress.close_eq _ _ _ _ hp (hp.trans hpl)]
  refine ⟨rfl, rfl, rfl, hs.le_peak, hs.peak_le, hs.le_crossings, hs.crossings_le, hs.le_energy, hs.energy_le,
    Nat.zero_le _, Nat.min_le_left _ _, ?_⟩
  cases long with
  | true => exact ⟨Nat.succ_pos 65534, le_rfl, Nat.min_le_left _ _, iff_of_true rfl rfl⟩
  | false =>
    have hd : ¬ 65535 ≤ signedDiff h.last h.arrival + 1 := fun hn => Bool.noConfusion (hl.mpr hn)
    simp only [Bool.false_eq_true, if_false, false_iff]
    omega

/-! ### What a hit in progress keeps from sample to sample (R36 to R39, R41) -/

/-- A hit in progress before the sample at time `t`, `n` samples of the block being left with that one. The bound of
`near` is a distance of 65535 at the block's beginning and 60 samples of block. -/
structure HitInProgress.Awaits (h : HitInProgress) (t : SampleTime) (n : Nat) : Prop where
  sound : h.Sound
  short : signedDiff h.last h.arrival + 1 < 65535
  after : 1 ≤ signedDiff t h.last
  near : signedDiff t h.last + n ≤ 65595

theorem one_le_energyOf {mag : Nat} (hm : 16 ≤ mag) : 1 ≤ energyOf mag :=
  Nat.mul_pos (Nat.div_pos hm (by decide)) (Nat.div_pos hm (by decide))

theorem energyOf_le {mag : Nat} (hm : mag ≤ 32767) : energyOf mag ≤ 4294967295 := by
  have hq : mag / 16 ≤ 2047 := Nat.div_le_div_right (c := 16) hm
  exact (Nat.mul_le_mul hq hq).trans (by decide)

theorem openHit_sound (c : BlockContext) (t : SampleTime) {mag : Nat} (hlo : 16 ≤ mag) (hhi : mag ≤ 32767) :
    (openHit c t mag).Sound where
  le_peak := hlo
  peak_le := hhi
  le_crossings := le_rfl
  crossings_le := (by decide : 1 ≤ 255)
  le_energy := one_le_energyOf hlo
  energy_le := energyOf_le hhi
  arrival_peak := (signedDiff_self t).ge
  peak_last := le_rfl

namespace HitInProgress.Awaits

variable {h : HitInProgress} {t : SampleTime} {n : Nat}

/-- R37: a sample taken is later than all that the hit has taken before. -/
theorem taken_sound (ha : h.Awaits t n) {mag : Nat} (hm : mag ≤ 32767) : (h.taken t mag).Sound := by
  obtain ⟨hs, hshort, hafter, hnear⟩ := ha
  have hp := hs.arrival_peak
  have hpl := hs.peak_last
  have hadd : signedDiff t h.arrival = signedDiff t h.last + signedDiff h.last h.arrival :=
    signedDiff_add (by omega) (by omega)
  have hE := hs.le_energy
  exact {
    le_peak := hs.le_peak.trans (Nat.le_max_left _ _)
    peak_le := Nat.max_le.mpr ⟨hs.peak_le, hm⟩
    le_crossings := hs.le_crossings
    crossings_le := hs.crossings_le
    le_energy := Nat.le_min.mpr ⟨by decide, hE.trans (Nat.le_add_right _ _)⟩
    energy_le := Nat.min_le_left _ _
    arrival_peak := by
      show 0 ≤ signedDiff (if h.peak < mag then t else h.peakTime) h.arrival
      split <;> omega
    peak_last := by
      show signedDiff (if h.peak < mag then t else h.peakTime) h.arrival ≤ signedDiff t h.arrival
      split <;> omega }

theorem reopened (ha : h.Awaits t n) : h.reopened.Awaits t n where
  sound := { ha.sound with
    le_crossings := Nat.le_min.mpr ⟨by decide, Nat.le_add_left _ _⟩
    crossings_le := Nat.min_le_left _ _
    le_energy := Nat.le_min.mpr ⟨by decide, ha.sound.le_energy.trans (Nat.le_add_right _ _)⟩
    energy_le := Nat.min_le_left _ _ }
  short := ha.short
  after := ha.after
  near := ha.near

/-- R38: a sample below the threshold changes the trail alone. -/
theorem skip (ha : h.Awaits t (n + 1)) (below pending : Nat) :
    { h with below := below, pending := pending }.Awaits (t + 1) n := by
  obtain ⟨hs, hshort, hafter, hnear⟩ := ha
  have hsucc : signedDiff (t + 1) h.last = signedDiff t h.last + 1 := signedDiff_succ (by omega) (by omega)
  exact { sound := { hs with }, short := hshort, after := by dsimp only; omega, near := by dsimp only; omega }

end HitInProgress.Awaits

/-! ### The run through a block (R36 to R41) -/

/-- The detector before the sample at time `t`, `n` samples of the block being left with that one. -/
structure DetectRun.Ranged (c : BlockContext) (r : DetectRun) (t : SampleTime) (n : Nat) : Prop where
  hit : ∀ h, r.hit = some h → r.state = .opened ∨ r.state = .trailing → h.Awaits t n
  closed : ∀ x ∈ r.closed, x.InRange c

section
variable {c : BlockContext} {r : DetectRun} {t : SampleTime} {n mag : Nat} {h : HitInProgress}

theorem DetectRun.rearmed_ranged {x : Hit} (hc : ∀ x ∈ r.closed, x.InRange c) (hx : x.InRange c) :
    (r.rearmed c x).Ranged c t n where
  hit _ hh := nomatch hh
  closed := List.forall_mem_append.mpr ⟨hc, List.forall_mem_singleton.mpr hx⟩

/-- A run whose hit has just taken the sample at `t`, and so has a distance of 1 to the next one. -/
theorem DetectRun.opened_ranged (hc : ∀ x ∈ r.closed, x.InRange c) (hs : h.Sound) (ht : h.last = t)
    (hd : signedDiff h.last h.arrival + 1 < 65535) (hn : n ≤ 60) :
    DetectRun.Ranged c { r with state := .opened, hit := some h } (t + 1) n where
  hit := by
    rintro _ ⟨⟩ -
    have h1 : signedDiff (t + 1) h.last = 1 := by rw [ht]; exact signedDiff_succ_self t
    exact ⟨hs, hd, h1.ge, by omega⟩
  closed := hc

theorem DetectRun.keepOpen_ranged (hc : ∀ x ∈ r.closed, x.InRange c) (hs : h.Sound) (ht : h.last = t) (hn : n ≤ 60) :
    (r.keepOpen c h).Ranged c (t + 1) n := by
  by_cases hd : 65535 ≤ signedDiff h.last h.arrival + 1
  · rw [keepOpen_long c hd]
    exact rearmed_ranged hc (hs.close_inRange c (iff_of_true rfl hd))
  · rw [keepOpen_short c (Int.not_le.mp hd)]
    exact opened_ranged hc hs ht (Int.not_le.mp hd) hn

/-- R36 to R39: a sample keeps what is in range in range. -/
theorem detectStep_ranged (hr : r.Ranged c t (n + 1)) (h16 : 16 ≤ c.threshold) (hm : mag ≤ 32767) (hn : n ≤ 60) :
    (detectStep c r t mag).Ranged c (t + 1) n := by
  obtain ⟨hhit, hc⟩ := hr
  have quiet {r' : DetectRun} (h1 : r'.state = .armed ∨ r'.state = .rearm) (h2 : r'.closed = r.closed) :
      r'.Ranged c (t + 1) n := ⟨fun _ _ ho => by rcases h1 with h1 | h1 <;> simp [h1] at ho, h2 ▸ hc⟩
  have lacking (ho : r.state = .opened ∨ r.state = .trailing) (hh : r.hit = none) :
      (detectStep c r t mag).Ranged c (t + 1) n := by
    rw [detectStep_no_hit c t ho hh]
    exact ⟨fun _ he => (by rw [hh] at he; cases he), hc⟩
  cases hs : r.state with
  | armed =>
    rcases Nat.lt_or_ge mag c.threshold with hb | hb
    · rw [detectStep_armed_below c t hs hb]
      exact quiet (.inl hs) rfl
    · rw [detectStep_armed_reached c t hs hb]
      exact DetectRun.opened_ranged hc (openHit_sound c t (h16.trans hb) hm) rfl
        (by simp only [openHit, signedDiff_self]; decide) hn
  | opened =>
    cases hh : r.hit with
    | none => exact lacking (.inl hs) hh
    | some h =>
      have ha := hhit h hh (.inl hs)
      rcases Nat.lt_or_ge mag c.threshold with hb | hb
      · rw [detectStep_opened_below c t hs hh hb]
        exact ⟨by rintro _ ⟨⟩ -; exact ha.skip _ _, hc⟩
      · rw [detectStep_opened_reached c t hs hh hb]
        exact DetectRun.keepOpen_ranged hc (ha.taken_sound hm) rfl hn
  | trailing =>
    cases hh : r.hit with
    | none => exact lacking (.inr hs) hh
    | some h =>
      have ha := hhit h hh (.inr hs)
      rcases Nat.lt_or_ge mag c.threshold with hb | hb
      · rcases Nat.lt_or_ge (h.below + 1) c.deadTime with hd | hd
        · rw [detectStep_trailing_counts c t hs hh hb hd]
          exact ⟨by rintro _ ⟨⟩ -; exact ha.skip _ _, hc⟩
        · rw [detectStep_trailing_closes c t hs hh hb hd]
          exact DetectRun.rearmed_ranged hc
            (ha.sound.close_inRange c (iff_of_false Bool.false_ne_true (Int.not_le.mpr ha.short)))
      · rw [detectStep_trailing_reached c t hs hh hb]
        exact DetectRun.keepOpen_ranged hc (ha.reopened.taken_sound hm) rfl hn
  | rearm =>
    rw [detectStep_rearm c t hs]
    exact quiet (by dsimp only; split <;> simp) rfl

theorem detectSample_ranged (hr : r.Ranged c t (n + 1)) (h16 : 16 ≤ c.threshold) (hm : mag ≤ 32767) (hn : n ≤ 60) :
    (detectSample c r t mag).Ranged c (t + 1) n :=
  { detectStep_ranged hr h16 hm hn with }

theorem detectAll_closed_inRange (h16 : 16 ≤ c.threshold) {mags : List Nat} (hr : r.Ranged c t mags.length)
    (hm : ∀ m ∈ mags, m ≤ 32767) (hn : mags.length ≤ 60) : ∀ x ∈ (detectAll c r t mags).closed, x.InRange c := by
  induction mags generalizing r t with
  | nil => exact hr.closed
  | cons m rest ih =>
    have hlen : rest.length ≤ 60 := (Nat.le_succ _).trans hn
    exact ih (detectSample_ranged hr h16 (hm m List.mem_cons_self) hlen) (fun x hx => hm x (List.mem_cons_of_mem _ hx)) hlen

end

/-- Settles O21: the records by the invariant `DetectRun.Ranged` along the block, each sample by its case of the
detector. -/
theorem hitRecordRanges : Obligations.HitRecordRanges := by
  refine ⟨fun c r t mags x h16 hlen hm hc hh hx => ?_, fun c r t m rest => ?_,
    fun h lane role truncated long => HitInProgress.close_eq lane role truncated long⟩
  · refine detectAll_closed_inRange h16 ⟨fun h he _ => ?_, fun y hy => ?_⟩ hm hlen x hx
    · obtain ⟨hp16, hp, hc1, hc2, he1, he2, hap, hpl, hshort, hafter, hnear⟩ := hh h he
      exact ⟨⟨hp16, hp, hc1, hc2, he1, he2, hap, hpl⟩, hshort, hafter, by omega⟩
    · rw [hc] at hy
      cases hy
  · intro e took closing held
    refine ⟨rfl, fun hs hb => detectSample_armed_below c t hs hb, fun hs hb => ?_, fun h hs hh => ?_, fun h hs hh => ?_,
      fun hs => ?_⟩
    · have hstep := detectStep_armed_reached c t hs hb
      rw [detectSample_spoils c t (by simp [hstep]), hstep]
      rfl
    · rw [detectSample_not_armed c t (by simp [hs])]
      refine ⟨fun hb hd => ?_, fun hb hd => ?_, fun hb => ?_⟩
      · rw [detectStep_opened_reached c t hs hh hb, DetectRun.keepOpen_short c (h := h.taken t m) hd]
        rfl
      · rw [detectStep_opened_reached c t hs hh hb, DetectRun.keepOpen_long c (h := h.taken t m) hd]
        rfl
      · rw [detectStep_opened_below c t hs hh hb]
        rfl
    · rw [detectSample_not_armed c t (by simp [hs])]
      intro again
      refine ⟨fun hb hd => ?_, fun hb hd => ?_, fun hb hd => ?_, fun hb hd => ?_⟩
      · rw [detectStep_trailing_reached c t hs hh hb, DetectRun.keepOpen_short c (h := h.reopened.taken t m) hd]
        rfl
      · rw [detectStep_trailing_reached c t hs hh hb, DetectRun.keepOpen_long c (h := h.reopened.taken t m) hd]
        rfl
      · rw [detectStep_trailing_counts c t hs hh hb hd]
        show _ = held .trailing (h.trailed m)
        simp only [held, ← hs]
      · rw [detectStep_trailing_closes c t hs hh hb hd]
        rfl
    · rw [detectSample_not_armed c t (by simp [hs]), detectStep_rearm c t hs]

end Sys2Proof.Machine
end

section
/-! ## The boundary queue of one station (R57)

The law of R57 by whether the press runs: out of a cycle all records are closed, in one the tail record alone is open. -/

namespace Sys2Proof.Machine

open Sys2Proof.Safety

set_option Elab.async false

/-- The records of `q ++ [r]` are numbered up to `last`, so those of `q` up to the number before. -/
theorem numbersTo_concat {last : BitVec 32} {q : List CycleRecord} {r : CycleRecord} :
    NumbersTo last (q ++ [r]) ↔ r.number = last ∧ NumbersTo (last - 1) q := by
  induction q with
  | nil => simp [NumbersTo]
  | cons x rest ih =>
    have hn : last - BitVec.ofNat 32 (rest.length + 1) = last - 1 - BitVec.ofNat 32 rest.length := by bv_omega
    simp only [List.cons_append, NumbersTo, ih, List.length_append, List.length_singleton, hn]
    tauto

section
variable {x y : Station}

theorem boundaryLaw_resting (hx : x.measuring = false) :
    Station.BoundaryLaw x ↔ x.boundary.length ≤ 4 ∧ NumbersTo x.cycle x.boundary ∧ ∀ r ∈ x.boundary, r.finish.isSome := by
  have hm := (not_congr (Station.measuring_iff (x := x))).mp (by simp [hx])
  obtain ⟨hc, ht⟩ := not_or.mp hm
  unfold Station.BoundaryLaw
  constructor
  · rintro ⟨hl, hn, -, -, hf⟩
    exact ⟨hl, hn, hf hc ht⟩
  · rintro ⟨hl, hn, hf⟩
    exact ⟨hl, hn, fun r hr => hf r (List.mem_of_mem_dropLast hr), fun h => absurd h hm, fun _ _ => hf⟩

theorem boundaryLaw_measuring (hx : x.measuring = true) :
    Station.BoundaryLaw x ↔ ∃ front r, x.boundary = front ++ [r] ∧ front.length < 4 ∧ NumbersTo x.cycle (front ++ [r])
      ∧ (∀ z ∈ front, z.finish.isSome) ∧ r.finish = none := by
  have hm := Station.measuring_iff.mp hx
  unfold Station.BoundaryLaw
  constructor
  · rintro ⟨hl, hn, hf, ho, -⟩
    obtain ⟨r, hr, hopen⟩ := ho hm
    obtain ⟨front, hb⟩ := List.getLast?_eq_some_iff.mp hr
    rw [hb] at hl hn hf
    rw [List.dropLast_concat] at hf
    exact ⟨front, r, hb, by simpa using hl, hn, hf, hopen⟩
  · rintro ⟨front, r, hb, hl, hn, hf, hopen⟩
    rw [hb, List.dropLast_concat]
    exact ⟨by simpa using hl, hn, hf, fun _ => ⟨r, by simp, hopen⟩, fun hc ht => absurd hm (not_or.mpr ⟨hc, ht⟩)⟩

/-- `y` has the cycle number and the boundary queue of `x`, and its press runs when that of `x` does. -/
structure Station.SameQueue (x y : Station) : Prop where
  measuring : y.measuring = x.measuring
  cycle : y.cycle = x.cycle
  boundary : y.boundary = x.boundary

theorem Station.SameQueue.trans {z : Station} (h : x.SameQueue y) (h' : y.SameQueue z) : x.SameQueue z :=
  ⟨h'.measuring.trans h.measuring, h'.cycle.trans h.cycle, h'.boundary.trans h.boundary⟩

/-- The law of R57 speaks of nothing else. -/
theorem Station.SameQueue.law (h : x.SameQueue y) (hx : Station.BoundaryLaw x) : Station.BoundaryLaw y := by
  cases hm : x.measuring with
  | true => rwa [boundaryLaw_measuring (h.measuring.trans hm), h.cycle, h.boundary, ← boundaryLaw_measuring hm]
  | false => rwa [boundaryLaw_resting (h.measuring.trans hm), h.cycle, h.boundary, ← boundaryLaw_resting hm]

/-- R95: the law stands when a closed head leaves the queue; in a cycle the open tail record stays behind. -/
theorem boundaryLaw_headless {r : CycleRecord} {rest : List CycleRecord} (hb : x.boundary = r :: rest)
    (hr : r.finish.isSome) (h : Station.SameQueue { x with boundary := rest } y) (hx : Station.BoundaryLaw x) :
    Station.BoundaryLaw y := by
  refine h.law ?_
  cases hm : x.measuring with
  | false =>
    rw [boundaryLaw_resting hm, hb] at hx
    obtain ⟨hl, hn, hf⟩ := hx
    exact (boundaryLaw_resting (x := { x with boundary := rest }) hm).mpr
      ⟨Nat.le_of_succ_le hl, hn.2, fun z hz => hf z (List.mem_cons_of_mem r hz)⟩
  | true =>
    obtain ⟨front, z, hfz, hl, hn, hf, hopen⟩ := (boundaryLaw_measuring hm).mp hx
    rw [hb] at hfz
    cases front with
    | nil =>
      obtain ⟨rfl, -⟩ := List.cons.inj hfz
      simp [hopen] at hr
    | cons w front =>
      obtain ⟨rfl, hrest⟩ := List.cons.inj hfz
      exact (boundaryLaw_measuring (x := { x with boundary := rest }) hm).mpr
        ⟨front, z, hrest, Nat.lt_of_succ_lt hl, hn.2, fun u hu => hf u (List.mem_cons_of_mem r hu), hopen⟩

/-- R53, R55: the law stands when a cycle ends and its record is closed. -/
theorem boundaryLaw_closeTail {e : SampleTime} {incomplete : Bool} (hx : x.measuring = true) (hy : y.measuring = false)
    (hc : y.cycle = x.cycle) (hb : y.boundary = closeTail x.boundary e incomplete) (h : Station.BoundaryLaw x) :
    Station.BoundaryLaw y := by
  obtain ⟨front, r, hfr, hl, hn, hf, -⟩ := (boundaryLaw_measuring hx).mp h
  rw [hfr, closeTail_append] at hb
  rw [boundaryLaw_resting hy, hc, hb]
  refine ⟨by simpa using hl, ?_, fun z hz => ?_⟩
  · rw [numbersTo_concat] at hn ⊢
    exact hn
  · rcases List.mem_append.mp hz with hz | hz
    · exact hf z hz
    · rw [List.mem_singleton.mp hz]; rfl

/-- R51, R57: the law holds when a cycle begins and its record, numbered next, joins a queue with room. -/
theorem boundaryLaw_opened {q : List CycleRecord} {t : SampleTime} (hy : y.measuring = true) (hl : q.length < 4)
    (hn : NumbersTo (y.cycle - 1) q) (hq : ∀ r ∈ q, r.finish.isSome) (hb : y.boundary = q ++ [openRecord y.cycle t]) :
    Station.BoundaryLaw y :=
  (boundaryLaw_measuring hy).mpr ⟨q, _, hb, hl, numbersTo_concat.mpr ⟨rfl, hn⟩, hq, rfl⟩

/-! ### Samples and tallies leave the queue (R59 to R63, R93) -/

theorem Station.measure_sameQueue (x : Station) (m : Int) : x.SameQueue (x.measure m) := by
  obtain ⟨p, n, h⟩ := Station.measure_frame x m
  rw [h]
  exact ⟨rfl, rfl, rfl⟩

theorem Station.crossing_sameQueue (x : Station) (t : SampleTime) : x.SameQueue (x.crossing t) := by
  have hc : x.SameQueue (x.crossed t) := ⟨rfl, rfl, rfl⟩
  cases hm : x.measuring with
  | false => rw [Station.crossing_resting hm]; exact hc.trans ⟨rfl, rfl, rfl⟩
  | true =>
    rw [Station.crossing_measuring hm]
    split
    · exact (hc.trans (Station.measure_sameQueue _ _)).trans ⟨rfl, rfl, rfl⟩
    · exact hc.trans ⟨rfl, rfl, rfl⟩

theorem Station.sample_sameQueue (x : Station) (t : SampleTime) (v : Int) : x.SameQueue (x.sample t v) := by
  by_cases h : x.crosses v
  · rw [Station.sample_crossing h]
    exact (x.crossing_sameQueue t).trans ⟨rfl, rfl, rfl⟩
  · rw [Station.sample_level h, Station.settled_eq]
    exact ⟨rfl, rfl, rfl⟩

theorem Station.scan_sameQueue (vs : List Int) (x : Station) (t : SampleTime) : x.SameQueue (x.scan t vs) := by
  induction vs generalizing x t with
  | nil => exact ⟨rfl, rfl, rfl⟩
  | cons v rest ih => exact (x.sample_sameQueue t v).trans (ih _ _)

theorem Station.reportOutOfCycle_sameQueue (x : Station) : x.SameQueue x.reportOutOfCycle := by
  unfold Station.reportOutOfCycle
  split <;> exact ⟨rfl, rfl, rfl⟩

end

end Sys2Proof.Machine
end

section
/-! ## The close check and the formation of an event (R71 to R75, R82, R83)

The condition of the close check, and what forming an event comes to when it is assigned to the head record and when it
is not. -/

namespace Sys2Proof.Machine

open Sys2Proof.Safety

set_option Elab.async false

/-- R82: no pooled hit arrived at or before the end `e` of a record, and the minimum horizon has passed the window behind
it. -/
def Ripe (s : State) (k : Fin 4) (e : SampleTime) : Prop :=
  reached s k (e + BitVec.ofNat 32 (s.station k).settings.window) = true
    ∧ ∀ h ∈ (s.station k).pool, h.arrival ≠ e ∧ later e h.arrival = false

/-- R82: the close check gives the head record when its end is ripe. -/
theorem closeCheck_eq_some {s : State} {k : Fin 4} {r : CycleRecord} :
    closeCheck s k = some r ↔ ∃ rest e, (s.station k).boundary = r :: rest ∧ r.finish = some e ∧ Ripe s k e := by
  unfold closeCheck Ripe
  dsimp only
  cases (s.station k).boundary with
  | nil => simp
  | cons r0 rest0 =>
    cases hf : r0.finish with
    | none =>
      simp only [hf, reduceCtorEq, List.cons.injEq, false_iff, not_exists, not_and]
      rintro rest e ⟨rfl, -⟩ he
      rw [hf] at he
      cases he
    | some e0 =>
      simp only [hf]
      constructor
      · intro h
        split at h <;> cases h
        next hc =>
          refine ⟨rest0, e0, rfl, hf, ?_⟩
          simpa using hc
      · rintro ⟨rest, e, hb, he, hr⟩
        obtain ⟨rfl, -⟩ := List.cons.inj hb
        cases hf.symm.trans he
        exact if_pos (by simpa using hr)

/-- R71: the hits that an event of `h0` takes together. -/
def Station.membersOf (x : Station) (h0 : Hit) : List Hit := members h0 x.pool x.settings.window

/-- R71, R72, R81: the station once the members of the event of `h0` have left the pool, an EARLY formation and a clamped
location counted. -/
def Station.afterEvent (x : Station) (h0 : Hit) (early : Bool) : Station :=
  { x with
    pool := (x.membersOf h0).foldl (fun p h => p.erase h) x.pool
    early := sat16 x.early early.toNat
    clamped := sat16 x.clamped (x.lines.toList.any fun l => (locate l (x.membersOf h0)).clamped).toNat }

/-- R85: the cells that the event of `h0` names. -/
def Station.cellsOf (x : Station) (h0 : Hit) : List Nat := cellIds x.lines (x.membersOf h0)

/-- R65, R73 to R75: what the event of `h0` adds to a tally. -/
def Station.eventTally (x : Station) (h0 : Hit) : EventTally :=
  { energy := (x.membersOf h0).foldl (fun a h => sat32 a h.energy) 0
    peak := (x.membersOf h0).foldl (fun a h => max a h.peak) 0
    coherent := inTension x.settings.ws x.settings.we (phaseBin x h0.arrival) }

section
variable {s : State} {k : Fin 4} {h0 : Hit} (early : Bool)

/-- R83, R85: the event of the head record is credited. -/
theorem formEvent_assigned (h : assigned (s.station k).boundary.head? h0.arrival = true) :
    formEvent s k h0 early = creditEvent (s.setStation k ((s.station k).afterEvent h0 early)) k
      ((s.station k).cellsOf h0) ((s.station k).membersOf h0) ((s.station k).eventTally h0) :=
  if_pos h

/-- R83, R84: any other is counted out of cycle. -/
theorem formEvent_outOfCycle (h : assigned (s.station k).boundary.head? h0.arrival = false) :
    formEvent s k h0 early = s.setStation k
      { ((s.station k).afterEvent h0 early).reportOutOfCycle with outOfCycle := sat32 (s.station k).outOfCycle 1 } :=
  if_neg (by simp [h])

end

end Sys2Proof.Machine
end

section
/-! ## What every operation does to the boundary queues (R57)

`KeepsBoundary s t` says of a part of a step from `s` to `t` that each station that meets R57 in `s` meets it in `t`. It
composes, so each operation is proved once from the operations it is made of. -/

namespace Sys2Proof.Machine

open Sys2Proof.Safety

set_option Elab.async false

/-- Each station that meets R57 in `s` meets it in `t`. -/
def KeepsBoundary (s t : State) : Prop := ∀ j, Station.BoundaryLaw (s.station j) → Station.BoundaryLaw (t.station j)

namespace KeepsBoundary

variable {s t u : State}

@[refl] theorem refl (s : State) : KeepsBoundary s s := fun _ h => h

theorem trans (h : KeepsBoundary s t) (h' : KeepsBoundary t u) : KeepsBoundary s u := fun j hj => h' j (h j hj)

/-- A change to no station. -/
theorem of_same (h : t.stations = s.stations := by simp) : KeepsBoundary s t := fun j hj => by
  rw [State.station_congr h]; exact hj

/-- A change to no station, then an operation. -/
theorem after (h : KeepsBoundary t u) (hs : t.stations = s.stations := by simp) : KeepsBoundary s u :=
  (of_same hs).trans h

/-- An operation, then a change to no station. -/
theorem before (h : KeepsBoundary s t) (hu : u.stations = t.stations := by simp) : KeepsBoundary s u :=
  h.trans (of_same hu)

/-- A change of the stations that leaves each its boundary queue. -/
theorem of_queues (h : ∀ j, (s.station j).SameQueue (t.station j)) : KeepsBoundary s t := fun j hj => (h j).law hj

/-- A change to station `k` alone. -/
theorem of_station {k : Fin 4} (hk : Station.BoundaryLaw (s.station k) → Station.BoundaryLaw (t.station k))
    (hne : ∀ j, j ≠ k → t.station j = s.station j) : KeepsBoundary s t := fun j hj => by
  rcases eq_or_ne j k with rfl | h
  · exact hk hj
  · rw [hne j h]; exact hj

end KeepsBoundary

/-- A change of one station; by default one that leaves its boundary queue. -/
theorem keepsBoundary_setStation (s : State) (k : Fin 4) (x : Station)
    (hx : Station.BoundaryLaw (s.station k) → Station.BoundaryLaw x := by exact Station.SameQueue.law ⟨rfl, rfl, rfl⟩) :
    KeepsBoundary s (s.setStation k x) :=
  .of_station (by rwa [State.station_setStation]) fun _ hj => State.station_setStation_ne s x hj

theorem keepsBoundary_onStation (s : State) (k : Fin 4) (f : Station → Station)
    (hf : Station.BoundaryLaw (s.station k) → Station.BoundaryLaw (f (s.station k)) := by
      exact Station.SameQueue.law ⟨rfl, rfl, rfl⟩) : KeepsBoundary s (s.onStation k f) :=
  keepsBoundary_setStation s k _ hf

theorem keepsBoundary_handNotice (s : State) (n : Notice) : KeepsBoundary s (handNotice s n) := .of_same
theorem keepsBoundary_onLane (s : State) (i : Fin 16) (f : Lane → Lane) : KeepsBoundary s (s.onLane i f) := .of_same
theorem keepsBoundary_onLanesOf (s : State) (k : Fin 4) (f : Lane → Lane) : KeepsBoundary s (onLanesOf s k f) := .of_same
theorem keepsBoundary_complete (s : State) (slot : Fin 32) (n : Nat) : KeepsBoundary s (complete s slot n) := .of_same
theorem keepsBoundary_commit (s t : State) : KeepsBoundary t (commit s t) := .of_same

/-! ### The event former (R68 to R72, R82, R95) -/

theorem evaluate_station_ne (s : State) {k j : Fin 4} (r : CycleRecord) (h : j ≠ k) :
    (evaluate s k r).station j = s.station j := by
  unfold evaluate
  rw [State.station_congr (handNotices_stations _ _), State.station_setStation_ne _ _ h]

/-- R95: an evaluation takes the head record out of the queue and leaves the cycle as it is. -/
theorem evaluate_sameQueue (s : State) (k : Fin 4) (r : CycleRecord) :
    Station.SameQueue { s.station k with boundary := (s.station k).boundary.drop 1 } ((evaluate s k r).station k) := by
  have hs : ((evaluate s k r).station k).state = (s.station k).state := by
    rw [evaluate_station]
    unfold evaluateStation
    obtain ⟨t, n, h⟩ := summarize_frame k r (s.station k)
      (if r.incomplete then (s.station k).cells
        else (s.station k).cells.map fun c => (c.judge (s.station k).criteria r.number).1)
    dsimp only
    rw [h]
    rfl
  refine ⟨?_, (evaluate_kept s k r).1, evaluate_boundary s k r⟩
  unfold Station.measuring
  rw [hs]

/-- R82, R95: the record that the close check hands for evaluation is closed. -/
theorem keepsBoundary_closeCheck {s : State} {k : Fin 4} {r : CycleRecord} (h : closeCheck s k = some r) :
    KeepsBoundary s (evaluate s k r) := by
  obtain ⟨rest, e, hb, he, -⟩ := closeCheck_eq_some.mp h
  have hq := evaluate_sameQueue s k r
  rw [hb] at hq
  exact .of_station (boundaryLaw_headless hb (by simp [he]) hq) fun j hj => evaluate_station_ne s r hj

theorem keepsBoundary_creditEvent (s : State) (k : Fin 4) (ids : List Nat) (ms : List Hit) (e : EventTally) :
    KeepsBoundary s (creditEvent s k ids ms e) := by
  have h1 : KeepsBoundary s (s.setStation k ((s.station k).tally ids e)) := keepsBoundary_onStation s k (·.tally ids e)
  unfold creditEvent
  dsimp only
  split
  · exact h1
  · exact eventPins_induct (P := KeepsBoundary s) (fun t c l p ht => ht.trans .of_same) ms _ _ h1

theorem keepsBoundary_formEvent (s : State) (k : Fin 4) (h0 : Hit) (early : Bool) :
    KeepsBoundary s (formEvent s k h0 early) := by
  have hx : (s.station k).SameQueue ((s.station k).afterEvent h0 early) := ⟨rfl, rfl, rfl⟩
  cases h : assigned (s.station k).boundary.head? h0.arrival with
  | true =>
    rw [formEvent_assigned early h]
    exact (keepsBoundary_setStation s k _ hx.law).trans (keepsBoundary_creditEvent _ k _ _ _)
  | false =>
    rw [formEvent_outOfCycle early h]
    exact keepsBoundary_setStation s k _
      ((hx.trans (Station.reportOutOfCycle_sameQueue _)).trans ⟨rfl, rfl, rfl⟩).law

theorem keepsBoundary_formingPass (s : State) (k : Fin 4) : KeepsBoundary s (formingPass s k) :=
  formingPass_induct (P := KeepsBoundary s) (fun _ _ hc h => h.trans (keepsBoundary_closeCheck hc))
    (fun t h0 _ _ h => h.trans (keepsBoundary_formEvent t k h0 false)) s (.refl s)

theorem keepsBoundary_handHit (s : State) (k : Fin 4) (h : Hit) : KeepsBoundary s (handHit s k h) :=
  handHit_induct (P := KeepsBoundary s) (fun _ _ hc h => h.trans (keepsBoundary_closeCheck hc))
    (fun t h0 _ e _ h => h.trans (keepsBoundary_formEvent t k h0 e)) h
    (fun t h => h.trans (keepsBoundary_onStation t k _)) s (.refl s)

theorem keepsBoundary_handHit? (s : State) (k : Fin 4) (h : Option Hit) : KeepsBoundary s (handHit? s k h) := by
  cases h with
  | none => exact .refl s
  | some h => exact keepsBoundary_handHit s k h

/-! ### The tracker (R50 to R56) -/

theorem keepsBoundary_endCycle {s : State} {k : Fin 4} (hm : (s.station k).measuring = true) (e : SampleTime) :
    KeepsBoundary s (endCycle s k e) := by
  have h1 : KeepsBoundary s (s.onStation k fun x =>
      { x with boundary := closeTail x.boundary e false, state := .waiting, tail := 0, quietTimer := some 0,
               measureRef := none }) :=
    keepsBoundary_setStation s k _ (boundaryLaw_closeTail hm rfl rfl rfl)
  unfold endCycle
  dsimp only
  split
  · exact h1.trans (keepsBoundary_formingPass _ k)
  · exact h1

theorem forceHead_station_ne (u : State) {k j : Fin 4} (h : j ≠ k) : (forceHead u k).station j = u.station j := by
  unfold forceHead
  split
  · split
    · exact evaluate_station_ne u _ h
    · rfl
  · rfl

/-- R58: a full queue loses its head, and one with room is left. -/
theorem forceHead_sameQueue (u : State) (k : Fin 4) :
    Station.SameQueue { u.station k with
      boundary := if 4 ≤ (u.station k).boundary.length then (u.station k).boundary.drop 1 else (u.station k).boundary }
      ((forceHead u k).station k) := by
  split
  · next h =>
    cases hb : (u.station k).boundary with
    | nil => simp [hb] at h
    | cons r rest =>
      rw [forceHead_full hb h]
      have he := evaluate_sameQueue u k { r with forced := true }
      rwa [hb] at he
  · next h =>
    rw [forceHead_room (Nat.lt_of_not_le h)]
    exact ⟨rfl, rfl, rfl⟩

theorem openCycle_stations (u : State) (k : Fin 4) (t : SampleTime) (peak : Nat) (resumed : Bool) :
    (openCycle u k t peak resumed).stations
      = (u.onStation k fun x => { x with boundary := x.boundary ++ [openRecord x.cycle t] }).stations := by
  cases resumed <;> rfl

/-- R57, R58: a closed queue that has made room keeps its numbers, and at most 3 records. -/
theorem numbersTo_forced {last : BitVec 32} {q : List CycleRecord} (hl : q.length ≤ 4) (hn : NumbersTo last q) :
    (if 4 ≤ q.length then q.drop 1 else q).length < 4 ∧ NumbersTo last (if 4 ≤ q.length then q.drop 1 else q) := by
  split
  · cases q with
    | nil => exact ⟨Nat.zero_lt_succ 3, hn⟩
    | cons r rest => exact ⟨hl, hn.2⟩
  · next h => exact ⟨Nat.lt_of_not_le h, hn⟩

/-- R51, R57, R58: the queue makes room, and the open record of the cycle joins it. -/
theorem keepsBoundary_startCycle {s : State} {k : Fin 4} (hm : (s.station k).measuring = false) (t : SampleTime)
    (peak : Nat) : KeepsBoundary s (startCycle s k t peak) := by
  have h1 (resumed : Bool) :
      KeepsBoundary s (openCycle (forceHead (s.setStation k (s.station k).pressing) k) k t peak resumed) := by
    have hf := forceHead_sameQueue (s.setStation k (s.station k).pressing) k
    rw [State.station_setStation] at hf
    refine .of_station (k := k) (fun h => ?_) fun j hj => ?_
    · rw [State.station_congr (openCycle_stations _ k t peak resumed), State.station_onStation]
      obtain ⟨hl, hn, hc⟩ := (boundaryLaw_resting hm).mp h
      obtain ⟨hroom, hnum⟩ := numbersTo_forced hl hn
      refine boundaryLaw_opened (t := t) hf.measuring hroom ?_ (fun r hr => hc r ?_) ?_
      · rw [hf.cycle]
        simpa [Station.pressing] using hnum
      · split at hr
        · exact List.mem_of_mem_drop hr
        · exact hr
      · rw [hf.boundary]; rfl
    · rw [State.station_congr (openCycle_stations _ k t peak resumed), State.station_onStation_ne _ _ hj,
        forceHead_station_ne _ hj, State.station_setStation_ne _ _ hj]
  rw [startCycle_eq]
  dsimp only
  split
  · exact (h1 _).trans (keepsBoundary_formingPass _ k)
  · exact h1 _

theorem keepsBoundary_applyPeak (s : State) (k : Fin 4) (a b : SampleTime) (peak : Nat) :
    KeepsBoundary s (applyPeak s k a b peak) := by
  have hset (x : Station) (h : (s.station k).SameQueue x) : KeepsBoundary s (s.setStation k x) :=
    keepsBoundary_setStation s k x h.law
  have hend (x : Station) (h : (s.station k).SameQueue x) (hm : x.measuring = true) :
      KeepsBoundary s (endCycle (s.setStation k x) k b) :=
    (hset x h).trans (keepsBoundary_endCycle (by rwa [State.station_setStation]) b)
  cases hx : (s.station k).state with
  | stopped => rw [applyPeak_unwatched _ _ _ (.inl hx)]
  | blind => rw [applyPeak_unwatched _ _ _ (.inr hx)]
  | waiting | pressIdle =>
    rw [applyPeak_ready _ _ _ (by simp [hx])]
    split
    · exact keepsBoundary_startCycle (by simp [Station.measuring, hx]) a peak
    · exact .refl s
  | compacting =>
    have hq : (s.station k).SameQueue { s.station k with state := .tailing, tail := 1 } :=
      ⟨by simp [Station.measuring, hx], rfl, rfl⟩
    rw [applyPeak_compacting _ _ _ hx]
    split
    · split
      · exact hend _ hq rfl
      · exact hset _ hq
    · exact .refl s
  | tailing =>
    have hm : (s.station k).measuring = true := Station.measuring_iff.mpr (.inr hx)
    rw [applyPeak_tailing _ _ _ hx]
    split
    · exact hset _ ⟨hm.symm, rfl, rfl⟩
    · split
      · exact hend _ ⟨rfl, rfl, rfl⟩ hm
      · exact hset _ ⟨rfl, rfl, rfl⟩

theorem keepsBoundary_vibrationBlock (s : State) (k : Fin 4) (vs : List Int) (t : SampleTime) (brk : Bool) :
    KeepsBoundary s (vibrationBlock s k vs t brk) := by
  refine (keepsBoundary_onStation s k _ (Station.SameQueue.trans ?_ (Station.scan_sameQueue vs _ t)).law).trans
    (keepsBoundary_applyPeak _ k t (t + 59) _)
  split <;> exact ⟨rfl, rfl, rfl⟩

end Sys2Proof.Machine
end

section
/-! ## What lanes, commands and steps do to the boundary queues (R57) -/

namespace Sys2Proof.Machine

open Sys2Proof.Safety

set_option Elab.async false

/-! ### Loss and recovery of the vibration lane (R55, R56) -/

/-- R55: a station that goes BLIND in a cycle closes its record; else its queue stays. -/
theorem boundaryLaw_blinded {x y : Station} {e : SampleTime} (hy : y.measuring = false) (hc : y.cycle = x.cycle)
    (hb : y.boundary = if x.measuring then closeTail x.boundary e true else x.boundary) (h : Station.BoundaryLaw x) :
    Station.BoundaryLaw y := by
  cases hm : x.measuring with
  | true => exact boundaryLaw_closeTail hm hy hc (hb.trans (if_pos hm)) h
  | false => exact Station.SameQueue.law ⟨hy.trans hm.symm, hc, hb.trans (if_neg (by simp [hm]))⟩ h

theorem keepsBoundary_goBlind (s : State) (k : Fin 4) (h : Option SampleTime) (reason : FaultReason) :
    KeepsBoundary s (goBlind s k h reason) := by
  by_cases hx : (s.station k).state = .stopped ∨ (s.station k).state = .blind
  · rw [goBlind_unwatched h reason hx]
  · obtain ⟨hs, hb⟩ := not_or.mp hx
    have h1 (e : SampleTime) (n : Notice) : KeepsBoundary s (handNotice (s.setStation k ((s.station k).blinded
        (if (s.station k).measuring = true then closeTail (s.station k).boundary e true else (s.station k).boundary))) n) :=
      (keepsBoundary_setStation s k _ (by exact boundaryLaw_blinded rfl rfl rfl)).trans (keepsBoundary_handNotice _ n)
    rw [goBlind_watched h reason hs hb]
    dsimp only
    split
    · exact (h1 _ _).trans (keepsBoundary_formingPass _ k)
    · exact h1 _ _

theorem keepsBoundary_leaveBlind (s : State) (k : Fin 4) : KeepsBoundary s (leaveBlind s k) := by
  unfold leaveBlind
  split
  · next hx => exact keepsBoundary_onStation s k _ (Station.SameQueue.law ⟨by simp [Station.measuring, hx], rfl, rfl⟩)
  · exact .refl s

/-! ### Lanes (R7 to R23) -/

theorem keepsBoundary_faultLane (s : State) (i : Fin 16) (reason : FaultReason) :
    KeepsBoundary s (faultLane s i reason) := by
  unfold faultLane
  dsimp only
  split
  · exact .refl s
  · next k _ =>
    have h1 (n : Notice) : KeepsBoundary s (handNotice
        ((handHit? (s.setLane i (s.lane i).resetDetector) k ((s.lane i).truncatedHit i)).onLane i fun l => l.faulted reason)
        n) :=
      ((keepsBoundary_handHit? _ k _).after.trans (keepsBoundary_onLane _ i _)).trans (keepsBoundary_handNotice _ n)
    split
    · exact (h1 _).trans (keepsBoundary_goBlind _ k _ reason)
    · split
      · exact (h1 _).trans (keepsBoundary_formingPass _ k)
      · exact h1 _

theorem keepsBoundary_recoverLane (s : State) (i : Fin 16) : KeepsBoundary s (recoverLane s i) := by
  unfold recoverLane
  dsimp only
  split
  · exact .refl s
  · split
    · exact (keepsBoundary_leaveBlind _ _).after
    · exact .of_same

theorem keepsBoundary_beginBlock (s : State) (i : Fin 16) : KeepsBoundary s (beginBlock s i) := by
  unfold beginBlock
  dsimp only
  split
  · split
    case h_1 => exact .of_same
    case h_2 | h_3 | h_4 => exact (keepsBoundary_handHit? _ _ _).after
    case h_5 | h_6 => exact .refl s
  · exact .refl s

theorem keepsBoundary_advanceHorizon (s : State) (i : Fin 16) (k : Fin 4) (t : SampleTime) (d : Int) :
    KeepsBoundary s (advanceHorizon s i k t d) := by
  unfold advanceHorizon
  dsimp only
  split
  · exact (keepsBoundary_formingPass _ k).after
  · exact .of_same

theorem keepsBoundary_endAE (s : State) (i : Fin 16) (k : Fin 4) (role : Fin 6) (b : QueuedBlock)
    (rest : List QueuedBlock) : KeepsBoundary s (endAE s i k role b rest) :=
  (handHits_induct (P := KeepsBoundary s) (fun t h ht => ht.trans (keepsBoundary_handHit t k h)) _ _ .of_same).trans
    (keepsBoundary_advanceHorizon _ i k _ _)

theorem keepsBoundary_endVibration (s : State) (i : Fin 16) (k : Fin 4) (b : QueuedBlock) (rest : List QueuedBlock) :
    KeepsBoundary s (endVibration s i k b rest) := by
  unfold endVibration
  dsimp only
  refine KeepsBoundary.trans ?_ (keepsBoundary_advanceHorizon _ i k _ _)
  split
  · exact (keepsBoundary_vibrationBlock _ k _ _ _).after
  · exact .of_same

theorem keepsBoundary_endBlock (s : State) (i : Fin 16) : KeepsBoundary s (endBlock s i) := by
  unfold endBlock
  dsimp only
  split
  · refine KeepsBoundary.trans ?_ (keepsBoundary_beginBlock _ i)
    split
    · exact .of_same (by simp [endTestBlock])
    · split
      · exact keepsBoundary_endAE s i _ _ _ _
      · exact keepsBoundary_endVibration s i _ _ _
  · exact .refl s

theorem keepsBoundary_enterQueue (s : State) (i : Fin 16) (d : BlockData) (gap : Bool) (p : Nat) (unseed : Bool) :
    KeepsBoundary s (enterQueue s i d gap p unseed) := by
  unfold enterQueue
  dsimp only
  split
  · exact (keepsBoundary_beginBlock _ i).after
  · exact .of_same

theorem keepsBoundary_offerBlock (s : State) (i : Fin 16) (d : BlockData) (gap : Bool) (p : Nat) :
    KeepsBoundary s (offerBlock s i d gap p) := by
  unfold offerBlock
  split
  · exact keepsBoundary_enterQueue s i d gap p false
  · exact .of_same

theorem keepsBoundary_testGood (s : State) (i : Fin 16) (r : TestRun) (d : BlockData) (missing p : Nat) :
    KeepsBoundary s (testGood s i r d missing p) := by
  unfold testGood
  dsimp only
  split
  · split
    · split
      · exact (keepsBoundary_enterQueue _ i d _ p _).after
      · exact .of_same
    · exact .of_same
  · exact .of_same

theorem keepsBoundary_goodBlock (s : State) (i : Fin 16) (d : BlockData) (missing p : Nat) :
    KeepsBoundary s (goodBlock s i d missing p) := by
  have h1 : KeepsBoundary s (extendRange (s.onLane i fun l => l.checkedGood d missing) i p d.first) := .of_same
  unfold goodBlock
  dsimp only
  split
  · split
    · exact h1.trans (keepsBoundary_recoverLane _ i).after
    · exact h1.before
  · exact (h1.trans (keepsBoundary_testGood _ i _ d missing p)).before (testVerdict_stations _ i)
  · exact h1
  · exact h1
  · exact h1.trans (keepsBoundary_offerBlock _ i d _ p)

theorem keepsBoundary_badBlock (s : State) (i : Fin 16) (reason : FaultReason) :
    KeepsBoundary s (badBlock s i reason) := by
  have hbad (t : State) (r : TestRun) : (testBad t i r).stations = t.stations := by unfold testBad; split <;> rfl
  unfold badBlock
  dsimp only
  split
  · exact .of_same
  · exact .of_same (by simp [hbad])
  · exact .of_same
  · exact .of_same
  · split
    · exact (keepsBoundary_faultLane _ i reason).after
    · exact .of_same

theorem keepsBoundary_laneSeesWrite (s : State) (i : Fin 16) (t : Transfer) (p : Nat) :
    KeepsBoundary s (laneSeesWrite s i t p) := by
  unfold laneSeesWrite
  dsimp only
  split
  · exact (keepsBoundary_goodBlock _ i _ _ p).after
  · exact (keepsBoundary_badBlock _ i _).after

theorem keepsBoundary_writeEffects (s : State) (t : Transfer) : KeepsBoundary s (writeEffects s t).1 := by
  unfold writeEffects
  split
  · unfold laneWrite
    dsimp only
    split
    · exact (keepsBoundary_laneSeesWrite _ _ t _).after
    · exact .of_same
  · split
    · exact .of_same
    · exact .refl s

theorem keepsBoundary_issueForwarded (s : State) (a : Accepted) : KeepsBoundary s (issueForwarded s a) := by
  unfold issueForwarded
  dsimp only
  split
  · have h := (keepsBoundary_writeEffects { s with path := { s.path with
        starvation := if (waitingOwn s).isSome then s.path.starvation + 1 else 0 } } a.t).after (s := s) rfl
    exact h.before rfl
  · exact .of_same

/-! ### The station commands (R47 to R49, R77, R92, R111) -/

theorem keepsBoundary_silenceCheck (s : State) (i : Fin 16) : KeepsBoundary s (silenceCheck s i) := by
  unfold silenceCheck
  split
  · exact keepsBoundary_faultLane s i _
  · exact .refl s

theorem keepsBoundary_startSetLaneConditioning (c : Cmd) (s : State) :
    KeepsBoundary s (startSetLaneConditioning c s) := by
  unfold startSetLaneConditioning
  dsimp only
  split
  · split
    · exact .of_same
    · exact (keepsBoundary_silenceCheck _ _).after
  · exact .of_same

theorem keepsBoundary_startSetStation (c : Cmd) (s : State) : KeepsBoundary s (startSetStation c s) := by
  unfold startSetStation
  dsimp only
  split
  · split
    · exact .of_same
    · split
      · exact .of_same
      · exact (keepsBoundary_onStation s _ _).trans (keepsBoundary_complete _ _ _)
  · exact .of_same

/-- R48: a STOPPED station starts with the queue it has. -/
theorem keepsBoundary_startStartStation (c : Cmd) (s : State) : KeepsBoundary s (startStartStation c s) := by
  unfold startStartStation
  dsimp only
  split
  · exact .of_same
  · next k _ =>
    split
    · exact .of_same
    · next hx =>
      split
      · exact .of_same
      · have hst (st : StationState) (h : st = .waiting ∨ st = .blind) :
            (s.station k).SameQueue ((s.station k).started st) :=
          ⟨by rcases h with rfl | rfl <;> simp [Station.measuring, Station.started, not_not.mp hx], rfl, rfl⟩
        have hstate : startState s k = .waiting ∨ startState s k = .blind := by
          unfold startState
          split
          · split <;> simp
          · simp
        exact ((keepsBoundary_onStation s k _ (hst _ hstate).law).trans (keepsBoundary_onLanesOf _ k _)).trans
          (keepsBoundary_complete _ _ _)

/-- R49: a station that stops is left with an empty queue. -/
theorem keepsBoundary_startStopStation (c : Cmd) (s : State) : KeepsBoundary s (startStopStation c s) := by
  unfold startStopStation
  split
  · exact .of_same
  · next k _ =>
    split
    · exact .of_same
    · have hx : Station.BoundaryLaw (s.station k).stopped :=
        (boundaryLaw_resting rfl).mpr ⟨Nat.zero_le 4, trivial, fun r hr => absurd hr List.not_mem_nil⟩
      exact ((keepsBoundary_onStation s k _ fun _ => hx).trans (keepsBoundary_onLanesOf _ k _)).trans
        (keepsBoundary_complete _ _ _)

theorem keepsBoundary_startSetLocationLine (c : Cmd) (s : State) : KeepsBoundary s (startSetLocationLine c s) := by
  unfold startSetLocationLine
  dsimp only
  split
  · split
    · exact .of_same
    · split
      · exact .of_same
      · exact (keepsBoundary_onStation s _ _).trans (keepsBoundary_complete _ _ _)
  · exact .of_same

theorem keepsBoundary_startSetMapCriteria (c : Cmd) (s : State) : KeepsBoundary s (startSetMapCriteria c s) := by
  unfold startSetMapCriteria
  dsimp only
  split
  · exact .of_same
  · exact (keepsBoundary_onStation s _ _).trans (keepsBoundary_complete _ _ _)

theorem keepsBoundary_startClearCells (c : Cmd) (s : State) : KeepsBoundary s (startClearCells c s) := by
  unfold startClearCells
  dsimp only
  split
  · exact .of_same
  · split
    · exact .of_same
    · exact (keepsBoundary_onStation s _ _).trans (keepsBoundary_complete _ _ _)

end Sys2Proof.Machine
end

section
/-! ## Every step keeps the boundary queues (R57) -/

namespace Sys2Proof.Machine

open Sys2Proof.Safety

set_option Elab.async false

/-! ### Commands that start, and events with a condition -/

/-- The start of a command keeps the queues when its own effect does. -/
theorem keepsBoundary_startStep {kind : Nat → Bool} {f : Cmd → State → State} {s t : State}
    (hf : ∀ c, KeepsBoundary s (f c s)) (h : startStep kind f s = .next t) : KeepsBoundary s t := by
  rcases startStep_cases kind f s with hs | ⟨c, -, -, hs⟩
  · rw [hs] at h; cases h; exact .refl s
  · rw [hs] at h; cases h; exact (hf c).before

/-- The start of a command that touches no station. -/
theorem keepsBoundary_startStep_of_same {kind : Nat → Bool} {f : Cmd → State → State} {s t : State}
    (h : startStep kind f s = .next t) (hf : ∀ c, (f c s).stations = s.stations := by intro; simp) :
    KeepsBoundary s t :=
  keepsBoundary_startStep (fun c => .of_same (hf c)) h

/-- An event whose effect, when its condition holds, keeps the queues. -/
theorem keepsBoundary_guarded {g : Bool} {s v u : State} (hv : KeepsBoundary s v)
    (h : (if g then Host.Outcome.next (commit s v) else .next s : Reply) = .next u) : KeepsBoundary s u := by
  split at h <;> cases h
  · exact hv.before
  · exact .refl s

/-- A state whose stations are those of the reset state meets R57. -/
theorem keepsBoundary_of_reset {s t : State} (h : t.stations = State.reset.stations := by rfl) : KeepsBoundary s t :=
  fun j _ => by rw [State.station_congr h]; exact boundaryLaw_reset j

/-! ### The memory path, the writers and RESET_N: none touches a station but an issued write and a clearing -/

section
variable {s u : State}

theorem keepsBoundary_execTransferArrival {t : Transfer} (h : execTransferArrival t s = .next u) : KeepsBoundary s u := by
  unfold execTransferArrival at h
  split at h <;> cases h
  exact .of_same

theorem keepsBoundary_execTransferAcceptance {m : Fin 16} (h : execTransferAcceptance m s = .next u) :
    KeepsBoundary s u := by
  unfold execTransferAcceptance at h
  split at h
  · split at h <;> cases h
    · exact .of_same
    · exact .refl s
  · cases h; exact .refl s

theorem keepsBoundary_execForwardedIssue (h : execForwardedIssue s = .next u) : KeepsBoundary s u := by
  unfold execForwardedIssue at h
  split at h
  · exact keepsBoundary_guarded (keepsBoundary_issueForwarded s _) h
  · cases h; exact .refl s

theorem keepsBoundary_execForwardedResponse {id : Nat} {a : Answer} (h : execForwardedResponse id a s = .next u) :
    KeepsBoundary s u := by
  unfold execForwardedResponse at h
  split at h
  · split at h
    · split at h <;> cases h
      · exact .refl s
      · exact .of_same
    · cases h; exact .refl s
  · cases h

theorem keepsBoundary_execOwnWriteIssue (h : execOwnWriteIssue s = .next u) : KeepsBoundary s u := by
  unfold execOwnWriteIssue at h
  split at h
  · exact keepsBoundary_guarded .of_same h
  · cases h; exact .refl s

theorem keepsBoundary_execOwnWriteResponse {id : Nat} {r : Response} (h : execOwnWriteResponse id r s = .next u) :
    KeepsBoundary s u := by
  unfold execOwnWriteResponse at h
  split at h
  · split at h <;> cases h
    · exact .refl s
    · exact .of_same
  · cases h; exact .refl s

theorem keepsBoundary_execStrayResponse {a : Answer} (h : execStrayResponse a s = .next u) : KeepsBoundary s u := by
  unfold execStrayResponse at h
  split at h <;> cases h
  exact .refl s

theorem keepsBoundary_execResetNAssertion (h : execResetNAssertion s = .next u) : KeepsBoundary s u := by
  unfold execResetNAssertion at h
  cases h
  split
  · exact .refl s
  · exact keepsBoundary_of_reset

theorem keepsBoundary_execResetNRelease {straps : BitVec 8} (h : execResetNRelease straps s = .next u) :
    KeepsBoundary s u := by
  unfold execResetNRelease at h
  cases h
  split
  · exact .of_same
  · exact .refl s

theorem keepsBoundary_execNoticeWriteHandOn (h : execNoticeWriteHandOn s = .next u) : KeepsBoundary s u := by
  unfold execNoticeWriteHandOn at h
  split at h
  · split at h <;> cases h
    · exact .of_same
    · exact .refl s
  · cases h; exact .refl s

theorem keepsBoundary_execStatusPartHandOn (h : execStatusPartHandOn s = .next u) : KeepsBoundary s u := by
  unfold execStatusPartHandOn at h
  split at h
  · split at h <;> cases h
    · exact .of_same
    · exact .refl s
  · cases h; exact .refl s

theorem keepsBoundary_execSnapshotWriteHandOn {slot : Fin 32} (h : execSnapshotWriteHandOn slot s = .next u) :
    KeepsBoundary s u := by
  unfold execSnapshotWriteHandOn at h
  split at h
  · split at h <;> cases h
    · exact .of_same
    · exact .refl s
  · cases h; exact .refl s

theorem keepsBoundary_execCompletion (h : execCompletion s = .next u) : KeepsBoundary s u := by
  unfold execCompletion at h
  split at h
  · split at h <;> cases h
    · exact .of_same
    · exact .refl s
  · cases h; exact .refl s

theorem keepsBoundary_execQueueDrained (h : execQueueDrained s = .next u) : KeepsBoundary s u := by
  unfold execQueueDrained at h
  split at h <;> cases h
  · exact keepsBoundary_of_reset
  · exact .refl s

/-- R54: a WAITING station that becomes idle keeps its queue. -/
theorem keepsBoundary_execQuietTimeout {k : Fin 4} (h : execQuietTimeout k s = .next u) : KeepsBoundary s u := by
  unfold execQuietTimeout at h
  split at h
  · next hg =>
    have hx : (s.station k).state = .waiting := by
      simp only [quietExpired, Bool.and_eq_true, decide_eq_true_eq] at hg
      obtain ⟨-, ⟨hx, -⟩, -⟩ := hg
      exact hx
    have hq : (s.station k).SameQueue { s.station k with state := .pressIdle, quietTimer := none } :=
      ⟨by simp [Station.measuring, hx], rfl, rfl⟩
    cases h
    exact ((keepsBoundary_onStation s k _ hq.law).trans (keepsBoundary_handNotice _ _)).trans (keepsBoundary_commit s _)
  · cases h; exact .refl s

/-! ### Every command, and the step -/

theorem keepsBoundary_exec {c : Instr} (h : exec c s = .next u) : KeepsBoundary s u := by
  cases c with
  | transferArrival t => exact keepsBoundary_execTransferArrival h
  | transferAcceptance m => exact keepsBoundary_execTransferAcceptance h
  | forwardedIssue => exact keepsBoundary_execForwardedIssue h
  | forwardedResponse id a => exact keepsBoundary_execForwardedResponse h
  | ownWriteIssue => exact keepsBoundary_execOwnWriteIssue h
  | ownWriteResponse id r => exact keepsBoundary_execOwnWriteResponse h
  | strayResponse a => exact keepsBoundary_execStrayResponse h
  | resetNAssertion => exact keepsBoundary_execResetNAssertion h
  | resetNRelease straps => exact keepsBoundary_execResetNRelease h
  | silenceTimeout i => exact keepsBoundary_guarded (keepsBoundary_faultLane s i .silent) h
  | blockAnalysisEnd i => exact keepsBoundary_guarded (keepsBoundary_endBlock s i) h
  | testTimeout i => exact keepsBoundary_guarded (.of_same (endTest_stations s i .timeout)) h
  | quietTimeout k => exact keepsBoundary_execQuietTimeout h
  | noticeWriteHandOn => exact keepsBoundary_execNoticeWriteHandOn h
  | statusWriteStart => exact keepsBoundary_guarded (.of_same (startStatusWrite_stations s)) h
  | statusPartHandOn => exact keepsBoundary_execStatusPartHandOn h
  | snapshotWriteHandOn slot => exact keepsBoundary_execSnapshotWriteHandOn h
  | completion => exact keepsBoundary_execCompletion h
  | queueDrained => exact keepsBoundary_execQueueDrained h
  | setLaneConditioning =>
    exact keepsBoundary_startStep (keepsBoundary_startSetLaneConditioning · s)
      (show execSetLaneConditioning s = .next u from h)
  | setStation =>
    exact keepsBoundary_startStep (keepsBoundary_startSetStation · s) (show execSetStation s = .next u from h)
  | startStation =>
    exact keepsBoundary_startStep (keepsBoundary_startStartStation · s) (show execStartStation s = .next u from h)
  | stopStation =>
    exact keepsBoundary_startStep (keepsBoundary_startStopStation · s) (show execStopStation s = .next u from h)
  | setLocationLine =>
    exact keepsBoundary_startStep (keepsBoundary_startSetLocationLine · s)
      (show execSetLocationLine s = .next u from h)
  | setMapCriteria =>
    exact keepsBoundary_startStep (keepsBoundary_startSetMapCriteria · s) (show execSetMapCriteria s = .next u from h)
  | clearCells =>
    exact keepsBoundary_startStep (keepsBoundary_startClearCells · s) (show execClearCells s = .next u from h)
  | badKind => exact keepsBoundary_startStep_of_same (f := startBadKind) h
  | mapLane => exact keepsBoundary_startStep_of_same (show execMapLane s = .next u from h)
  | unmapLane => exact keepsBoundary_startStep_of_same (show execUnmapLane s = .next u from h)
  | testLane => exact keepsBoundary_startStep_of_same (show execTestLane s = .next u from h)
  | setDetection => exact keepsBoundary_startStep_of_same (show execSetDetection s = .next u from h)
  | copyMap => exact keepsBoundary_startStep_of_same (show execCopyMap s = .next u from h)
  | holdSegment => exact keepsBoundary_startStep_of_same (show execHoldSegment s = .next u from h)
  | releaseHold => exact keepsBoundary_startStep_of_same (show execReleaseHold s = .next u from h)
  | abort => exact keepsBoundary_startStep_of_same (show execAbort s = .next u from h)
  | restart => exact keepsBoundary_startStep_of_same (show execRestart s = .next u from h)
  | setNoticeRing => exact keepsBoundary_startStep_of_same (show execSetNoticeRing s = .next u from h)
  | setStatusBlock => exact keepsBoundary_startStep_of_same (show execSetStatusBlock s = .next u from h)
  | writeStatus => exact keepsBoundary_startStep_of_same (show execWriteStatus s = .next u from h)

theorem keepsBoundary_tick (s : State) : KeepsBoundary s (tick s) := by
  unfold tick
  split
  · exact .refl s
  · refine .of_queues fun j => ?_
    simp only [State.station, Vector.get_eq_getElem, Vector.getElem_map]
    exact ⟨rfl, rfl, rfl⟩

theorem keepsBoundary_step (h : step s = .next u) : KeepsBoundary s u := by
  unfold step at h
  split at h
  · cases h; exact keepsBoundary_tick s
  · exact (keepsBoundary_exec h).after

end

/-- Settles O56: every operation keeps each boundary queue (`KeepsBoundary`), so every step does. -/
theorem boundaryKept : Obligations.BoundaryKept := fun _ _ h hs j => keepsBoundary_step h j (hs j)

end Sys2Proof.Machine
end

section
/-! ## Settings, quiet time-out, period and tension window of a station (R46, R47, R54, R62, R63, R65) -/

namespace Sys2Proof.Machine

open Sys2Proof.Safety

set_option Elab.async false

/-! ### Set Station (R46, R47) -/

/-- R47: the settings of a record, clamped. -/
theorem settingsOf_eq (policy : HoldPolicy) (l : List Byte) :
    settingsOf policy l =
      { startLevel := max 1 (min 32767 (u16 l 8)), stopLevel := max 1 (min 32767 (u16 l 10)),
        tailBlocks := max 1 (min 4095 (u16 l 12)), quietCode := u8 l 6, window := max 1 (min 8191 (u16 l 14)),
        ws := min 63 (u8 l 16), we := min 63 (u8 l 17), unlocatedLimit := u16 l 18, summaryInterval := u8 l 7,
        policy := policy } := by
  simp only [settingsOf, clampNat_zero]
  rfl

/-- R47: a record that passes the tests replaces the station's settings and completes. -/
theorem startSetStation_takes {s : State} {c : Cmd} {k : Fin 4} {policy : HoldPolicy}
    (h4 : u8 c.bytes.toList 4 = k.val) (h5 : policyOf (u8 c.bytes.toList 5) = some policy)
    (hx : (s.station k).state = .stopped)
    (hlevel : (settingsOf policy c.bytes.toList).stopLevel < (settingsOf policy c.bytes.toList).startLevel) :
    startSetStation c s =
      complete (s.onStation k fun y => { y with settings := settingsOf policy c.bytes.toList }) c.slot
        (settingsClamped (settingsOf policy c.bytes.toList) c.bytes.toList) := by
  simp only [startSetStation, h4, stationOf_val, h5, hx, ne_eq, not_true_eq_false, if_false, if_neg (Nat.not_le.mpr hlevel)]

/-- Settles O41. -/
theorem stationSet : Obligations.StationSet := by
  intro s c k policy hl hs l h4 h5 hx start stop tail window ws we hlevel
  have h := startStep_completes (f := startSetStation) hl hs (startSetStation_takes h4 h5 hx hlevel) rfl
  rw [settingsOf_eq] at h
  exact h

/-! ### The quiet time-out (R54, R66) -/

theorem quietExpired_waiting {x : Station} {n : Nat} (hx : x.state = .waiting) (hq : 0 < quietSeconds x.settings.quietCode)
    (ht : x.quietTimer = some n) (hn : quietSeconds x.settings.quietCode * 1000000 ≤ n) : quietExpired x = true := by
  simp [quietExpired, hx, hq, ht, hn]

/-- R54: code 0, no time-out, is the first of the codes up to 100. -/
theorem quietSeconds_eq (c : Nat) :
    quietSeconds c = if c ≤ 100 then c else if c ≤ 190 then 100 + (c - 100) * 10 else 1000 + (c - 190) * 60 := by
  unfold quietSeconds
  split
  · next h => rw [h]; rfl
  · rfl

/-- Settles O25. -/
theorem quietTimeOut : Obligations.QuietTimeOut := by
  refine ⟨fun s k n hr hx hq ht hn => ?_, fun c _ => quietSeconds_eq c⟩
  have hg : (!s.path.resetLow && quietExpired (s.station k)) = true := by
    rw [show s.path.resetLow = false from hr, quietExpired_waiting hx hq ht hn]; rfl
  refine (if_pos hg).trans ?_
  unfold stationNotice
  rw [State.station_onStation]
  rfl

/-! ### The period (R62, R63) -/

section
variable {x : Station} {m : Int}

theorem Station.measure_unknown (h : x.period = none) :
    x.measure m = if 2000 ≤ m ∧ m ≤ 65535 then { x with period := some m.toNat, rejectRun := 0 } else x := by
  unfold Station.measure
  rw [h]

theorem Station.measure_locked {p : Nat} (h : x.period = some p) :
    x.measure m = if 1 ≤ m ∧ m ≤ 65535 ∧ (m - (p : Int)).natAbs * 4 ≤ p then
        { x with period := some ((3 * p + m.toNat) / 4), rejectRun := 0 }
      else if 4 ≤ x.rejectRun + 1 then { x with period := none, rejectRun := 0 }
      else { x with rejectRun := x.rejectRun + 1 } := by
  unfold Station.measure
  rw [h]

end

/-- Settles O26. -/
theorem periodLocks : Obligations.PeriodLocks := by
  intro x m
  refine ⟨fun h hlo hhi => ?_, fun h hout => ?_, fun p h hlo hhi hnear => ?_, fun p h hfar hrun => ?_,
    fun p h hfar hrun => ?_⟩
  · rw [Station.measure_unknown h, if_pos ⟨hlo, hhi⟩]
  · rw [Station.measure_unknown h, if_neg (by omega)]
  · rw [Station.measure_locked h, if_pos ⟨hlo, hhi, hnear⟩]
  · rw [Station.measure_locked h, if_neg (by omega), if_neg (by omega)]
  · rw [Station.measure_locked h, if_neg (by omega), if_pos (by omega)]

/-! ### The tension window (R65) -/

theorem inTension_unknown (ws we : Nat) : inTension ws we 255 = false := rfl

theorem inTension_iff {ws we b : Nat} (hb : b ≠ 255) :
    inTension ws we b = true ↔ if ws ≤ we then ws ≤ b ∧ b ≤ we else ws ≤ b ∨ b ≤ we := by
  unfold inTension
  rw [if_neg hb]
  split <;> simp

/-- Settles O27. -/
theorem tensionWindow : Obligations.TensionWindow := by
  intro ws we b _ _
  refine ⟨fun h hb => ?_, fun h hb => ?_, inTension_unknown ws we⟩
  · rw [inTension_iff (by omega), if_pos h]
  · rw [inTension_iff (by omega), if_neg (Nat.not_le.mpr h)]

end Sys2Proof.Machine
end

section
/-! ## The order of sample times, the hit pool and the members of an event (00 4, R68, R71, R83) -/

namespace Sys2Proof.Machine

open Sys2Proof.Safety

set_option Elab.async false

/-! ### The order of sample times (00, 4) -/

section
variable {a b h : SampleTime}

theorem later_iff : later a b = true ↔ 1 ≤ (a - b).toNat ∧ (a - b).toNat ≤ 2147483647 := decide_eq_true_iff

theorem halfApart_eq_false : halfApart a b = false ↔ (a - b).toNat ≠ 2147483648 := decide_eq_false_iff_not

theorem atOrAfter_iff : atOrAfter a b = true ↔ a = b ∨ later a b = true := by simp [atOrAfter]

theorem later_asymm (h : later a b = true) : later b a = false ∧ halfApart b a = false := by
  rw [later_iff] at h
  rw [Bool.eq_false_iff, Ne, later_iff, halfApart_eq_false]
  bv_omega

theorem later_self (a : SampleTime) : later a a = false := by simp [later]
theorem halfApart_self (a : SampleTime) : halfApart a a = false := by simp [halfApart]

theorem orderedBefore_of_later (h : later b a = true) : orderedBefore a b = true := by simp [orderedBefore, h]

theorem orderedBefore_apart (h : (a - b).toNat ≠ 2147483648) : orderedBefore a b = later b a := by
  simp [orderedBefore, halfApart_eq_false.mpr h]

theorem orderedBefore_eq_false (h : a = b ∨ later a b = true) : orderedBefore a b = false := by
  rcases h with rfl | h
  · simp [orderedBefore, later_self, halfApart_self]
  · have hh : halfApart a b = false := halfApart_eq_false.mpr (by rw [later_iff] at h; omega)
    simp [orderedBefore, (later_asymm h).1, hh]

theorem orderedFrom_apart (h : (a - b).toNat ≠ 2147483648) : orderedFrom a b = atOrAfter a b := by
  simp [orderedFrom, halfApart_eq_false.mpr h]

/-- Among the times within half the range from `h` on, the order is that of the distance from `h`. -/
theorem orderedBefore_iff_nearer (ha : (a - h).toNat ≤ 2147483647) (hb : (b - h).toNat ≤ 2147483647) :
    orderedBefore b a = true ↔ (b - h).toNat < (a - h).toNat := by
  rw [orderedBefore_apart (by bv_omega), later_iff]
  bv_omega

end

/-! ### The hit pool (R68) -/

section
variable {h x : Hit}

theorem poolBefore_of (hx : later x.arrival h.arrival = true ∨ h.arrival = x.arrival ∧ h.role < x.role) :
    poolBefore h x = true := by
  unfold poolBefore
  rcases hx with hx | ⟨ha, hr⟩
  · rw [orderedBefore_of_later hx, Bool.true_or]
  · rw [decide_eq_true ha, decide_eq_true (Fin.lt_def.mp hr), Bool.and_self, Bool.or_true]

theorem poolBefore_eq_false (hx : later h.arrival x.arrival = true ∨ h.arrival = x.arrival ∧ x.role ≤ h.role) :
    poolBefore h x = false := by
  unfold poolBefore
  rcases hx with hx | ⟨ha, hr⟩
  · have hne : h.arrival ≠ x.arrival := fun e => by simp [e, later_self] at hx
    rw [orderedBefore_eq_false (.inr hx), decide_eq_false hne, Bool.false_and, Bool.or_false]
  · rw [orderedBefore_eq_false (.inl ha), decide_eq_false (Nat.not_lt.mpr (Fin.le_def.mp hr)), Bool.and_false,
      Bool.or_false]

/-- R68: a hit passes those it does not precede. -/
theorem poolInsert_append {front back : List Hit} (hf : ∀ x ∈ front, poolBefore h x = false) :
    poolInsert h (front ++ back) = front ++ poolInsert h back := by
  induction front with
  | nil => rfl
  | cons x rest ih =>
    obtain ⟨hx, hr⟩ := List.forall_mem_cons.mp hf
    rw [List.cons_append, poolInsert, hx, if_neg Bool.false_ne_true, ih hr]
    rfl

/-- R68: a hit stands before the first it precedes. -/
theorem poolInsert_before {back : List Hit} (hb : ∀ x ∈ back.head?, poolBefore h x = true) :
    poolInsert h back = h :: back := by
  cases back with
  | nil => rfl
  | cons x rest => rw [poolInsert, if_pos (hb x rfl)]

end

/-! ### The members of an event (R71) -/

/-- R71: the member of role `r` in the event of `h0`. -/
def memberOf (h0 : Hit) (pool : List Hit) (w : Nat) (r : Fin 6) : Option Hit :=
  if r = h0.role then some h0 else pool.find? fun h => decide (h.role = r) && inWindow h.arrival h0.arrival w

theorem members_eq (h0 : Hit) (pool : List Hit) (w : Nat) :
    members h0 pool w = (List.finRange 6).filterMap (memberOf h0 pool w) := rfl

section
variable {h0 h : Hit} {pool : List Hit} {w : Nat}

theorem memberOf_role {r : Fin 6} (hr : memberOf h0 pool w r = some h) : h.role = r := by
  unfold memberOf at hr
  split at hr
  · next he => cases hr; exact he.symm
  · have hp := List.find?_some hr
    simp only [Bool.and_eq_true, decide_eq_true_eq] at hp
    exact hp.1

theorem members_ascending (h0 : Hit) (pool : List Hit) (w : Nat) : ((members h0 pool w).map (·.role)).Pairwise (· < ·) := by
  rw [members_eq, List.pairwise_map]
  refine (List.pairwise_lt_finRange 6).filterMap _ fun r r' hlt x hx y hy => ?_
  rwa [memberOf_role hx, memberOf_role hy]

theorem mem_members_iff : h ∈ members h0 pool w ↔ memberOf h0 pool w h.role = some h := by
  rw [members_eq, List.mem_filterMap]
  constructor
  · rintro ⟨r, -, hr⟩
    rwa [memberOf_role hr]
  · exact fun hr => ⟨h.role, List.mem_finRange _, hr⟩

theorem memberOf_eq_some : memberOf h0 pool w h.role = some h ↔ h = h0 ∨ (h.role ≠ h0.role
    ∧ pool.find? (fun y => decide (y.role = h.role ∧ (y.arrival - h0.arrival).toNat ≤ w)) = some h) := by
  have hp : (fun y : Hit => decide (y.role = h.role) && inWindow y.arrival h0.arrival w)
      = fun y => decide (y.role = h.role ∧ (y.arrival - h0.arrival).toNat ≤ w) := by
    funext y
    rw [inWindow, Bool.decide_and]
  unfold memberOf
  rw [hp]
  by_cases hr : h.role = h0.role
  · rw [if_pos hr, Option.some_inj]
    exact ⟨fun e => .inl e.symm, fun e => (e.resolve_right fun ⟨hne, _⟩ => hne hr).symm⟩
  · rw [if_neg hr]
    exact ⟨fun e => .inr ⟨hr, e⟩, fun e => (e.resolve_left fun e => hr (congrArg Hit.role e)).2⟩

end

/-! ### Assignment and phase (R64, R83) -/

theorem assigned_iff {r : CycleRecord} {t : SampleTime} (hs : (t - r.start).toNat ≠ 2147483648)
    (he : ∀ e, r.finish = some e → (e - t).toNat ≠ 2147483648) :
    assigned (some r) t = true
      ↔ (t = r.start ∨ later t r.start = true) ∧ ∀ e, r.finish = some e → later t e = false := by
  unfold assigned
  dsimp only
  rw [orderedFrom_apart hs, Bool.and_eq_true, atOrAfter_iff]
  cases hf : r.finish with
  | none => simp
  | some e =>
    dsimp only
    rw [orderedBefore_apart (he e hf), Bool.not_eq_true']
    simp

section
variable {x : Station} {t c : SampleTime}

theorem referenceCrossing_newest {hs front back : List SampleTime} (h : hs = front ++ c :: back)
    (hc : later c t = false) (hb : ∀ y ∈ back, later y t = true) : referenceCrossing hs t = some c := by
  have hfind : hs.reverse.find? (fun c => !later c t) = some c := by
    rw [h, List.reverse_append, List.reverse_cons, List.append_assoc, List.find?_append,
      List.find?_eq_none.mpr (by simpa using hb)]
    simp [hc]
  unfold referenceCrossing
  rw [hfind]

theorem referenceCrossing_oldest {hs : List SampleTime} (hb : ∀ y ∈ hs, later y t = true) :
    referenceCrossing hs t = hs.head? := by
  unfold referenceCrossing
  rw [List.find?_eq_none.mpr (by simpa using hb)]

theorem phaseBin_unknown (h : x.period = none ∨ x.history = []) : phaseBin x t = 255 := by
  unfold phaseBin
  rcases h with h | h
  · rw [h]
  · have hr : referenceCrossing x.history t = none := by rw [h]; rfl
    rw [hr]
    split
    · next he => cases he
    · rfl

theorem phaseBin_known {p : Nat} (hp : x.period = some p) (hc : referenceCrossing x.history t = some c) :
    phaseBin x t = 64 * ((signedDiff t c).emod p).toNat / p := by
  unfold phaseBin
  rw [hp, hc]

end

end Sys2Proof.Machine
end

section
/-! ## Tallies, hold requests and the formation of an event (R71 to R75, R83 to R86, R93, R121, R122) -/

namespace Sys2Proof.Machine

open Sys2Proof.Safety

set_option Elab.async false

/-! ### Tallies and hold policies (R86, R93) -/

theorem Station.tally_eq (x : Station) (ids : List Nat) (e : EventTally) : x.tally ids e = { x with
    cells := x.cells.mapIdx fun i c => if i ∈ ids then { c with
      events := min 65535 (c.events + 1), coherent := min 65535 (c.coherent + if e.coherent = true then 1 else 0)
      energy := min 4294967295 (c.energy + e.energy), peak := max c.peak e.peak } else c
    located := if ids = [] then x.located else min 65535 (x.located + 1)
    unlocated := if ids = [] then min 65535 (x.unlocated + 1) else x.unlocated } := by
  have hc (c : Cell) : c.tally e = { c with
      events := min 65535 (c.events + 1), coherent := min 65535 (c.coherent + if e.coherent = true then 1 else 0)
      energy := min 4294967295 (c.energy + e.energy), peak := max c.peak e.peak } := by
    cases he : e.coherent <;> simp [Cell.tally, sat16, sat32, satAdd, he]
  simp only [Station.tally, hc, List.contains_iff_mem, List.isEmpty_iff, sat16, satAdd]

theorem covers_eq (p : HoldPolicy) (st : CellState) :
    covers p st = decide (p ≠ .none ∧ (st = .confirmed ∨ st = .fading ∨ p = .suspectUp ∧ st = .suspect)) := by
  cases p <;> cases st <;> rfl

/-- R94, R108: an event out of cycle counts toward the summary while its counter runs. -/
theorem Station.reportOutOfCycle_eq (x : Station) : x.reportOutOfCycle = { x with
    totals := if x.sumCounter = 0 then x.totals
      else { x.totals with outOfCycle := min 65535 (x.totals.outOfCycle + 1) } } := by
  unfold Station.reportOutOfCycle
  by_cases h : x.sumCounter = 0
  · rw [if_pos h, if_pos h]
  · rw [if_neg h, if_neg h]; rfl

/-! ### Pin requests (R121, R122) -/

section
variable {s : State} {lane : Fin 16} {p : Nat} (cell : Nat)

/-- R120: a hold of the segment stands in the list. -/
def Listed (s : State) (lane : Fin 16) (p : Nat) : Prop := ∃ h ∈ s.holds, h.lane = lane ∧ h.segment = p

theorem pinCase_listed (h : Listed s lane p) : ∃ st, pinCase s lane p = .merged st := by
  obtain ⟨e, he, hp⟩ := h
  unfold pinCase
  cases hf : s.holds.find? fun h => decide (h.lane = lane ∧ h.segment = p) with
  | none => exact absurd (decide_eq_true hp) (List.find?_eq_none.mp hf e he)
  | some e' => exact ⟨e'.state, rfl⟩

theorem pinCase_unlisted (h : ¬Listed s lane p) : pinCase s lane p = (s.seg lane).table.elim .notFound fun t =>
    if p ∈ t.map then (if s.holds.length < 64 then .made else .full) else .notFound := by
  have hf : (s.holds.find? fun h => decide (h.lane = lane ∧ h.segment = p)) = none :=
    List.find?_eq_none.mpr fun e he hp => h ⟨e, he, of_decide_eq_true hp⟩
  cases ht : (s.seg lane).table with
  | none => simp only [pinCase, hf, ht, Option.elim_none]
  | some t => simp only [pinCase, hf, ht, Option.elim_some, List.contains_iff_mem]

theorem eventPin_listed (h : Listed s lane p) : eventPin s cell lane p = s := by
  obtain ⟨st, hs⟩ := pinCase_listed h
  unfold eventPin
  rw [hs]

theorem eventPin_made {t : SegTable} (h : ¬Listed s lane p) (ht : (s.seg lane).table = some t) (hp : p ∈ t.map)
    (hl : s.holds.length < 64) :
    eventPin s cell lane p = { s with holds := s.holds ++ [{ lane := lane, segment := p, logical := t.map.idxOf p,
                                                             state := .pending, reason := .event cell, range := none }] } := by
  have hc : pinCase s lane p = .made := by
    rw [pinCase_unlisted h, ht, Option.elim_some, if_pos hp, if_pos hl]
  unfold eventPin makePending
  rw [hc, ht]

theorem eventPin_dropped (h : ¬Listed s lane p)
    (ht : ∀ t, (s.seg lane).table = some t → p ∈ t.map → 64 ≤ s.holds.length) :
    eventPin s cell lane p = s.setSeg lane { s.seg lane with dropped := min 65535 ((s.seg lane).dropped + 1) } := by
  have hc : pinCase s lane p = .full ∨ pinCase s lane p = .notFound := by
    rw [pinCase_unlisted h]
    cases htab : (s.seg lane).table with
    | none => exact .inr rfl
    | some t =>
      rw [Option.elim_some]
      by_cases hm : p ∈ t.map
      · rw [if_pos hm, if_neg (Nat.not_lt.mpr (ht t htab hm))]
        exact .inl rfl
      · rw [if_neg hm]
        exact .inr rfl
  unfold eventPin
  rcases hc with hc | hc <;> rw [hc] <;> rfl

end

/-! ### The formation of an event (R71 to R75, R83 to R86) -/

section
variable {s : State} {k : Fin 4} {ids : List Nat} {ms : List Hit} {e : EventTally}

/-- R86: the policy of a station covers the state of a cell. -/
def Station.coversCell (x : Station) (id : Nat) : Bool := covers x.settings.policy (cellState x id)

theorem Station.coversCell_of_none {x : Station} (h : x.settings.policy = .none) (id : Nat) :
    x.coversCell id = false := by
  unfold Station.coversCell
  rw [h]; rfl

theorem creditEvent_unheld (h : ∀ id ∈ ids, (s.station k).coversCell id = false) :
    creditEvent s k ids ms e = s.setStation k ((s.station k).tally ids e) := by
  have hf : ids.find? (s.station k).coversCell = none := List.find?_eq_none.mpr fun id hid => by simp [h id hid]
  show (match ids.find? (s.station k).coversCell with | none => _ | some id => _) = _
  rw [hf]

theorem creditEvent_held {id : Nat} (h : ids.find? (s.station k).coversCell = some id) :
    creditEvent s k ids ms e
      = ms.foldl (fun s h => eventPin s id h.lane h.segment) (s.setStation k ((s.station k).tally ids e)) := by
  show (match ids.find? (s.station k).coversCell with | none => _ | some id => _) = _
  rw [h]

end

/-- R85: the station with the event of `h0` tallied on the cells it names. -/
def Station.credited (x : Station) (h0 : Hit) (early : Bool) : Station :=
  (x.afterEvent h0 early).tally (x.cellsOf h0) (x.eventTally h0)

section
variable {s : State} {k : Fin 4} {h0 : Hit} (early : Bool)

/-- The members of an event leave settings and cells of the station as they are. -/
theorem coversCell_afterEvent :
    ((s.setStation k ((s.station k).afterEvent h0 early)).station k).coversCell = (s.station k).coversCell := by
  rw [State.station_setStation]; rfl

theorem setStation_credited :
    (s.setStation k ((s.station k).afterEvent h0 early)).setStation k
        (((s.setStation k ((s.station k).afterEvent h0 early)).station k).tally ((s.station k).cellsOf h0)
          ((s.station k).eventTally h0))
      = s.setStation k ((s.station k).credited h0 early) := by
  rw [State.station_setStation, State.setStation_setStation]; rfl

theorem formEvent_unheld (ha : assigned (s.station k).boundary.head? h0.arrival = true)
    (hc : ∀ id ∈ (s.station k).cellsOf h0, (s.station k).coversCell id = false) :
    formEvent s k h0 early = s.setStation k ((s.station k).credited h0 early) := by
  rw [← coversCell_afterEvent early (h0 := h0)] at hc
  rw [formEvent_assigned early ha, creditEvent_unheld hc, setStation_credited]

theorem formEvent_held {id : Nat} (ha : assigned (s.station k).boundary.head? h0.arrival = true)
    (hc : ((s.station k).cellsOf h0).find? (s.station k).coversCell = some id) :
    formEvent s k h0 early = ((s.station k).membersOf h0).foldl (fun s h => eventPin s id h.lane h.segment)
      (s.setStation k ((s.station k).credited h0 early)) := by
  rw [← coversCell_afterEvent early (h0 := h0)] at hc
  rw [formEvent_assigned early ha, creditEvent_held hc, setStation_credited]

end

end Sys2Proof.Machine
end

section
/-! ## The minimum horizon and the forming pass (R69, R70, R82) -/

namespace Sys2Proof.Machine

open Sys2Proof.Safety

set_option Elab.async false

/-! ### The minimum horizon (R69) -/

theorem minHorizon_cons (h : Option SampleTime) {hs : List (Option SampleTime)} (hne : hs ≠ []) :
    minHorizon (h :: hs) = match h, minHorizon hs with
      | some a, some b => some (earlierOf a b)
      | _, _ => none := by
  cases hs with
  | nil => exact absurd rfl hne
  | cons x rest => rfl

theorem minHorizon_of_none_mem {hs : List (Option SampleTime)} (h : none ∈ hs) : minHorizon hs = none := by
  induction hs with
  | nil => simp at h
  | cons x rest ih =>
    by_cases hr : rest = []
    · rw [hr] at h ⊢
      rw [← List.mem_singleton.mp h]; rfl
    · rw [minHorizon_cons x hr]
      rcases List.mem_cons.mp h with rfl | h
      · rfl
      · rw [ih h]; cases x <;> rfl

/-- Of horizons within half the range from `h` on, the minimum is the one nearest to `h`. -/
theorem minHorizon_nearest {h : SampleTime} {hs : List (Option SampleTime)} (hne : hs ≠ [])
    (hall : ∀ x ∈ hs, ∃ g, x = some g ∧ (g - h).toNat ≤ 2147483647) :
    ∃ m, minHorizon hs = some m ∧ (m - h).toNat ≤ 2147483647 ∧ ∀ g, some g ∈ hs → (m - h).toNat ≤ (g - h).toNat := by
  induction hs with
  | nil => exact absurd rfl hne
  | cons x rest ih =>
    obtain ⟨⟨a, rfl, ha⟩, hrest⟩ := List.forall_mem_cons.mp hall
    by_cases hr : rest = []
    · subst hr
      exact ⟨a, rfl, ha, fun g hg => by cases List.mem_singleton.mp hg; exact le_rfl⟩
    · obtain ⟨b, hb, hbnear, hmin⟩ := ih hr hrest
      have hcase : (earlierOf a b = b ∧ (b - h).toNat < (a - h).toNat)
          ∨ (earlierOf a b = a ∧ (a - h).toNat ≤ (b - h).toNat) := by
        unfold earlierOf
        by_cases ho : orderedBefore b a = true
        · rw [if_pos ho]
          exact .inl ⟨rfl, (orderedBefore_iff_nearer ha hbnear).mp ho⟩
        · rw [if_neg ho]
          exact .inr ⟨rfl, Nat.le_of_not_lt (mt (orderedBefore_iff_nearer ha hbnear).mpr ho)⟩
      refine ⟨earlierOf a b, by rw [minHorizon_cons _ hr, hb], ?_, fun g hg => ?_⟩
      · rcases hcase with ⟨e, -⟩ | ⟨e, -⟩ <;> rw [e] <;> assumption
      · have hg' : a = g ∨ some g ∈ rest := by simpa [eq_comm] using hg
        rcases hg' with rfl | hg'
        · rcases hcase with ⟨e, hlt⟩ | ⟨e, -⟩ <;> rw [e]
          exact hlt.le
        · have := hmin g hg'
          rcases hcase with ⟨e, -⟩ | ⟨e, hle⟩ <;> rw [e] <;> omega

/-- R69: the minimum is the horizon that no other is earlier than. -/
theorem minHorizon_eq {h : SampleTime} {hs : List (Option SampleTime)} (hmem : some h ∈ hs)
    (hall : ∀ x ∈ hs, ∃ g, x = some g ∧ (g = h ∨ later g h = true)) : minHorizon hs = some h := by
  have hnear : ∀ x ∈ hs, ∃ g, x = some g ∧ (g - h).toNat ≤ 2147483647 := fun x hx => by
    obtain ⟨g, rfl, hg⟩ := hall x hx
    refine ⟨g, rfl, ?_⟩
    rcases hg with rfl | hg
    · simp
    · exact (later_iff.mp hg).2
  obtain ⟨m, hm, -, hmin⟩ := minHorizon_nearest (List.ne_nil_of_mem hmem) hnear
  have hmh : m = h := by
    have := hmin h hmem
    bv_omega
  rw [hm, hmh]

/-- R69: lane `i` is in the horizon set of station `k`. -/
def InHorizonSet (s : State) (k : Fin 4) (i : Fin 16) : Prop :=
  (∃ m r, (s.lane i).mapping = some m ∧ m.station = k ∧ m.role = .ae r)
    ∧ ((s.lane i).state = .settling ∨ (s.lane i).state = .live)

theorem Lane.isAE_iff (l : Lane) : l.isAE = true ↔ ∃ m r, l.mapping = some m ∧ m.role = .ae r := by
  unfold Lane.isAE
  cases l.mapping with
  | none => simp
  | some m => cases hr : m.role <;> simp [hr]

section
variable {s : State} {k : Fin 4} {t : SampleTime}

theorem inHorizonSet_iff (i : Fin 16) :
    InHorizonSet s k i ↔ (s.lane i).serves k = true ∧ (s.lane i).inHorizonSet = true := by
  unfold InHorizonSet Lane.inHorizonSet
  rw [Bool.and_eq_true, Bool.or_eq_true, decide_eq_true_eq, decide_eq_true_eq, Lane.isAE_iff, Lane.serves_iff]
  constructor
  · rintro ⟨⟨m, r, hm, hk, hr⟩, hst⟩
    exact ⟨by rw [Lane.stationOf_eq hm, hk], ⟨m, r, hm, hr⟩, hst⟩
  · rintro ⟨hk, ⟨m, r, hm, hr⟩, hst⟩
    rw [Lane.stationOf_eq hm, Option.some_inj] at hk
    exact ⟨⟨m, r, hm, hk, hr⟩, hst⟩

theorem mem_horizons {x : Option SampleTime} : x ∈ horizons s k ↔ ∃ i, InHorizonSet s k i ∧ (s.lane i).horizon = x := by
  simp only [horizons, State.lanesOf, List.mem_map, List.mem_filter, List.mem_finRange, true_and, inHorizonSet_iff]

theorem reached_empty (h : ∀ i, ¬InHorizonSet s k i) : reached s k t = true := by
  have hn : horizons s k = [] := List.eq_nil_iff_forall_not_mem.mpr fun x hx => by
    obtain ⟨i, hi, -⟩ := mem_horizons.mp hx
    exact h i hi
  unfold reached
  rw [hn]

theorem reached_of_mem {x : Option SampleTime} (h : x ∈ horizons s k) :
    reached s k t = match minHorizon (horizons s k) with
      | some h => atOrAfter h t
      | none => false := by
  unfold reached
  split
  · next he => rw [he] at h; simp at h
  · rfl

theorem reached_absent {i : Fin 16} (hi : InHorizonSet s k i) (hh : (s.lane i).horizon = none) :
    reached s k t = false := by
  have hm : none ∈ horizons s k := mem_horizons.mpr ⟨i, hi, hh⟩
  rw [reached_of_mem hm, minHorizon_of_none_mem hm]

theorem reached_minimum {i : Fin 16} {h : SampleTime} (hi : InHorizonSet s k i) (hh : (s.lane i).horizon = some h)
    (hall : ∀ j, InHorizonSet s k j → ∃ g, (s.lane j).horizon = some g ∧ (g = h ∨ later g h = true)) :
    reached s k t = true ↔ h = t ∨ later h t = true := by
  have hm : some h ∈ horizons s k := mem_horizons.mpr ⟨i, hi, hh⟩
  have hmin : minHorizon (horizons s k) = some h := minHorizon_eq hm fun x hx => by
    obtain ⟨j, hj, rfl⟩ := mem_horizons.mp hx
    exact hall j hj
  rw [reached_of_mem hm, hmin]
  exact atOrAfter_iff

end

/-! ### The close check, made again on each new head (R82) -/

section
variable {s : State} {k : Fin 4}

theorem closeCheck_eq_none :
    closeCheck s k = none ↔ ¬∃ r rest e, (s.station k).boundary = r :: rest ∧ r.finish = some e ∧ Ripe s k e := by
  rw [Option.eq_none_iff_forall_ne_some]
  constructor
  · rintro h ⟨r, hr⟩
    exact h r (closeCheck_eq_some.mpr hr)
  · exact fun h r hr => h ⟨r, closeCheck_eq_some.mp hr⟩

/-- R82: all that the close check hands for evaluation, one after another. -/
def closeAll (s : State) (k : Fin 4) : State := closeHeads (s.station k).boundary.length s k

theorem closeAll_none (h : closeCheck s k = none) : closeAll s k = s := by
  unfold closeAll
  cases (s.station k).boundary.length with
  | zero => rfl
  | succ n => rw [closeHeads, h]

theorem closeAll_some {r : CycleRecord} (h : closeCheck s k = some r) : closeAll s k = closeAll (evaluate s k r) k := by
  obtain ⟨rest, e, hb, -⟩ := closeCheck_eq_some.mp h
  unfold closeAll
  rw [evaluate_boundary, hb, List.length_cons, closeHeads, h]
  rfl

theorem evaluate_pool (s : State) (k : Fin 4) (r : CycleRecord) :
    ((evaluate s k r).station k).pool = (s.station k).pool := by rw [evaluate_station, evaluateStation_pool]

theorem closeAll_pool (s : State) (k : Fin 4) : ((closeAll s k).station k).pool = (s.station k).pool :=
  closeHeads_induct (P := fun t => (t.station k).pool = (s.station k).pool)
    (fun t r _ h => (evaluate_pool t k r).trans h) _ s rfl

/-! ### The forming pass (R70) -/

theorem passLoop_empty (n : Nat) (h : (s.station k).pool = []) : passLoop n s k = closeAll s k := by
  cases n with
  | zero => rfl
  | succ n =>
    have hp : ((closeAll s k).station k).pool = [] := (closeAll_pool s k).trans h
    show (match ((closeAll s k).station k).pool with | [] => _ | h0 :: _ => _) = _
    rw [hp]
    rfl

theorem passLoop_pooled {h0 : Hit} {rest : List Hit} (n : Nat) (h : (s.station k).pool = h0 :: rest) :
    passLoop (n + 1) s k =
      if reached (closeAll s k) k (h0.arrival + BitVec.ofNat 32 ((closeAll s k).station k).settings.window) = true then
        passLoop n (formEvent (closeAll s k) k h0 false) k
      else closeAll s k := by
  have hp : ((closeAll s k).station k).pool = h0 :: rest := (closeAll_pool s k).trans h
  show (match ((closeAll s k).station k).pool with | [] => _ | h0 :: _ => _) = _
  rw [hp]
  rfl

/-- R70: the bound by the pool's depth never ends the pass: each formation takes its hit out of the pool. -/
theorem passLoop_bound (n m : Nat) (s : State) (hn : (s.station k).pool.length ≤ n) (hm : (s.station k).pool.length ≤ m) :
    passLoop n s k = passLoop m s k := by
  induction n generalizing m s with
  | zero =>
    have hp := List.length_eq_zero_iff.mp (Nat.le_zero.mp hn)
    rw [passLoop_empty _ hp, passLoop_empty _ hp]
  | succ n ih =>
    cases hp : (s.station k).pool with
    | nil => rw [passLoop_empty _ hp, passLoop_empty _ hp]
    | cons h0 rest =>
      have hlt := formEvent_pool_lt (s := closeAll s k) (k := k) (h0 := h0) false (by rw [closeAll_pool, hp]; simp)
      rw [closeAll_pool, hp, List.length_cons] at hlt
      rw [hp, List.length_cons] at hn hm
      cases m with
      | zero => exact absurd hm (Nat.not_succ_le_zero _)
      | succ m =>
        rw [passLoop_pooled n hp, passLoop_pooled m hp]
        exact if_congr Iff.rfl (ih m _ (by omega) (by omega)) rfl

theorem formingPass_eq {n : Nat} (h : (s.station k).pool.length ≤ n) : formingPass s k = passLoop n s k :=
  passLoop_bound _ n s le_rfl h

/-- R82: while the close check holds, the pass goes on behind the evaluation. -/
theorem formingPass_closing {r : CycleRecord} (h : closeCheck s k = some r) :
    formingPass s k = formingPass (evaluate s k r) k := by
  unfold formingPass
  rw [evaluate_pool]
  cases hp : (s.station k).pool with
  | nil => exact closeAll_some h
  | cons h0 rest =>
    rw [List.length_cons, passLoop_pooled _ hp, passLoop_pooled _ ((evaluate_pool s k r).trans hp), closeAll_some h]

/-- R70: then the oldest hit's event is formed, and the pass goes on behind it. -/
theorem formingPass_forming {h0 : Hit} {rest : List Hit} (hc : closeCheck s k = none) (hp : (s.station k).pool = h0 :: rest)
    (hr : reached s k (h0.arrival + BitVec.ofNat 32 (s.station k).settings.window) = true) :
    formingPass s k = formingPass (formEvent s k h0 false) k := by
  have hlt := formEvent_pool_lt (s := s) (k := k) (h0 := h0) false (by rw [hp]; simp)
  rw [hp, List.length_cons] at hlt
  rw [formingPass_eq (n := rest.length + 1) (by rw [hp]; rfl), passLoop_pooled _ hp, closeAll_none hc, if_pos hr,
    formingPass_eq (Nat.le_of_lt_succ hlt)]

/-- R70: the pass ends when it can do neither. -/
theorem formingPass_ends (hc : closeCheck s k = none) (hr : ∀ h0 rest, (s.station k).pool = h0 :: rest →
    reached s k (h0.arrival + BitVec.ofNat 32 (s.station k).settings.window) = false) : formingPass s k = s := by
  unfold formingPass
  cases hp : (s.station k).pool with
  | nil => exact closeAll_none hc
  | cons h0 rest =>
    rw [List.length_cons, passLoop_pooled _ hp, closeAll_none hc, if_neg (by simp [hr h0 rest hp])]

end

/-! ### A hit handed on (R68, R72) -/

section
variable {s : State} {k : Fin 4} (h : Hit)

theorem handHit_room (hl : (s.station k).pool.length < 64) :
    handHit s k h = formingPass (s.onStation k fun x => { x with pool := poolInsert h x.pool }) k := by
  have hw : withPoolRoom s k = s := by
    unfold withPoolRoom
    split
    · exact if_neg (Nat.not_le.mpr hl)
    · rfl
  rw [handHit_eq, hw]

theorem handHit_full {h0 : Hit} {rest : List Hit} (hp : (s.station k).pool = h0 :: rest)
    (hl : 64 ≤ (s.station k).pool.length) :
    handHit s k h
      = formingPass ((formEvent s k h0 true).onStation k fun x => { x with pool := poolInsert h x.pool }) k := by
  have hw : withPoolRoom s k = formEvent s k h0 true := by
    unfold withPoolRoom
    rw [hp] at hl ⊢
    exact if_pos hl
  rw [handHit_eq, hw]

end

/-! ### The rules of the event former together -/

/-- Settles O29: each rule of the event former by its own lemma. -/
theorem eventFormed : Obligations.EventFormed := by
  refine ⟨fun s k h0 early => ?_, fun s cell lane p => ?_, fun s k h => ?_, fun h0 pool w => ?_, fun t => ?_, fun x t => ?_,
    Station.tally_eq, fun s k => ?_⟩
  · intro x ms x1 tallied covered
    have hcov : x.coversCell = covered := funext fun id => covers_eq x.settings.policy (cellState x id)
    have htal : s.setStation k (x.credited h0 early) = tallied := rfl
    refine ⟨fun ha hp => ?_, fun ha hc => ?_, fun id ha hf => ?_, fun ha => ?_⟩
    · rw [← htal]
      exact formEvent_unheld early ha fun id _ => Station.coversCell_of_none hp id
    · exact formEvent_unheld early ha (hcov ▸ hc)
    · exact formEvent_held early ha (hcov ▸ hf)
    · rw [formEvent_outOfCycle early ha, Station.reportOutOfCycle_eq]
      rfl
  · exact ⟨eventPin_listed cell, fun t => eventPin_made cell, eventPin_dropped cell⟩
  · refine ⟨handHit_room h, fun h0 rest => handHit_full h, fun front back hf hb => ?_⟩
    rw [poolInsert_append fun x hx => poolBefore_eq_false (hf x hx), poolInsert_before fun x hx => poolBefore_of (hb x hx)]
  · exact ⟨members_ascending h0 pool w, fun h => mem_members_iff.trans memberOf_eq_some⟩
  · exact ⟨rfl, fun r => assigned_iff⟩
  · refine ⟨phaseBin_unknown, fun p c hp hc => phaseBin_known hp ?_⟩
    rcases hc with ⟨front, back, hh, hc, hb⟩ | ⟨hh, hb⟩
    · exact referenceCrossing_newest hh hc hb
    · exact (referenceCrossing_oldest hb).trans hh
  · intro x inSet ripe closes
    refine ⟨fun r rest e hb he hr => formingPass_closing (closeCheck_eq_some.mpr ⟨rest, e, hb, he, hr⟩),
      fun h0 rest hc => formingPass_forming (closeCheck_eq_none.mpr hc),
      fun hc => formingPass_ends (closeCheck_eq_none.mpr hc), fun t => ?_⟩
    exact ⟨reached_empty, fun i hi => reached_absent hi, fun i h hi hh => reached_minimum hi hh⟩

end Sys2Proof.Machine
end

section
/-! ## Location lines: the command that sets one and the location of an event (R77 to R81) -/

namespace Sys2Proof.Machine

open Sys2Proof.Safety

set_option Elab.async false

/-! ### Travel (R80) -/

section
variable (inc : Vector Nat 8) (w : Nat)

/-- R80: the travel over the segments below `k`. -/
def travelBelow (k : Nat) : Nat := ((List.range k).map fun j => inc.toList.getD j 0 * w).sum

theorem travelBelow_succ (k : Nat) : travelBelow inc w (k + 1) = travelBelow inc w k + inc.toList.getD k 0 * w := by
  simp [travelBelow, List.range_succ]

theorem travelBelow_monotone : Monotone (travelBelow inc w) :=
  monotone_nat_of_le_succ fun k => (travelBelow_succ inc w k).symm ▸ Nat.le_add_right _ _

theorem sum_take_increments {k : Nat} (hk : k ≤ 8) : ((inc.toList.take k).map (· * w)).sum = travelBelow inc w k := by
  induction k with
  | zero => rfl
  | succ k ih =>
    have hlt : k < inc.toList.length := by rw [Vector.length_toList]; omega
    rw [travelBelow_succ, ← ih (by omega), List.take_add_one, List.getElem?_eq_getElem hlt, List.getD_eq_getElem _ _ hlt]
    simp

/-- R80: the segment an argument falls in. -/
def segmentOf (u : Nat) : Nat := min 7 (u / w)

theorem segmentOf_monotone : Monotone (segmentOf w) := fun _ _ h => min_le_min le_rfl (Nat.div_le_div_right h)

/-- R80: below the last segment the remainder stays within the segment's width. -/
theorem remainder_le_width {u : Nat} (hw : 0 < w) (h : segmentOf w u < 7) : u - segmentOf w u * w ≤ w := by
  have hs : segmentOf w u = u / w := by unfold segmentOf at h ⊢; omega
  have hlt : u % w < w := Nat.mod_lt u hw
  rw [hs, Nat.mul_comm, ← Nat.mod_eq_sub_mul_div]
  exact hlt.le

theorem travel_eq (u : Nat) : travel inc w u
    = travelBelow inc w (segmentOf w u) + inc.toList.getD (segmentOf w u) 0 * (u - segmentOf w u * w) := by
  have hk : segmentOf w u ≤ 8 := by unfold segmentOf; omega
  rw [← sum_take_increments inc w hk]
  rfl

/-- R80: increments are not negative, so the travel rises with the argument, within a segment by its remainder and across
segments because the whole of a passed segment counts. -/
theorem travel_monotone : Monotone (travel inc w) := by
  intro u v huv
  rw [travel_eq, travel_eq]
  rcases (segmentOf_monotone w huv).eq_or_lt with hk | hk
  · rw [hk]
    exact Nat.add_le_add_left (Nat.mul_le_mul_left _ (Nat.sub_le_sub_right huv _)) _
  · have hw : 0 < w := by
      refine Nat.pos_of_ne_zero fun h0 => ?_
      simp [segmentOf, h0] at hk
    have hrem := remainder_le_width w hw (lt_of_lt_of_le hk (min_le_left 7 _))
    calc travelBelow inc w (segmentOf w u) + inc.toList.getD (segmentOf w u) 0 * (u - segmentOf w u * w)
        ≤ travelBelow inc w (segmentOf w u) + inc.toList.getD (segmentOf w u) 0 * w :=
          Nat.add_le_add_left (Nat.mul_le_mul_left _ hrem) _
      _ = travelBelow inc w (segmentOf w u + 1) := (travelBelow_succ inc w _).symm
      _ ≤ travelBelow inc w (segmentOf w v) := travelBelow_monotone inc w hk
      _ ≤ _ := Nat.le_add_right _ _

end

/-! ### The argument and the position of a difference (R79, R81) -/

/-- R79: the argument u of a difference of arrivals. -/
def Line.argument (l : Line) (d : Int) : Nat := ((l.tmax : Int) - max (-(l.tmax : Int)) (min (l.tmax : Int) d)).toNat

/-- R81: the position of a difference of arrivals, before it is brought down to 4095. -/
def Line.position (l : Line) (d : Int) : Nat := travel l.increments (l.tmax / 4) (l.argument d) / 256

section
variable (l : Line)

theorem Line.argument_antitone : Antitone l.argument := fun d e h => by unfold Line.argument; omega

theorem Line.position_antitone : Antitone l.position :=
  fun _ _ h => Nat.div_le_div_right (travel_monotone _ _ (l.argument_antitone h))

theorem Line.position_above {d : Int} (h : (l.tmax : Int) < d) : l.position d = l.position l.tmax := by
  have hu : l.argument d = l.argument l.tmax := by unfold Line.argument; omega
  rw [Line.position, hu, Line.position]

theorem Line.position_below {d : Int} (h : d < -(l.tmax : Int)) : l.position d = l.position (-l.tmax) := by
  have hu : l.argument d = l.argument (-l.tmax) := by unfold Line.argument; omega
  rw [Line.position, hu, Line.position]

theorem locateDiff_cell (d : Int) : (locateDiff l d).cell = some (min 4095 (l.position d) / 128) := rfl

theorem locateDiff_clamped (d : Int) :
    (locateDiff l d).clamped = true ↔ d < -(l.tmax : Int) ∨ (l.tmax : Int) < d ∨ 4095 < l.position d := by
  have hc : clampInt (-(l.tmax : Int)) l.tmax d ≠ d ↔ d < -(l.tmax : Int) ∨ (l.tmax : Int) < d := by
    unfold clampInt; omega
  change (decide _ || decide (4095 < l.position d)) = true ↔ _
  rw [Bool.or_eq_true, decide_eq_true_eq, decide_eq_true_eq, hc, or_assoc]

end

/-! ### The line's two members (R78) -/

section
variable {l : Line} {ms : List Hit}

theorem locate_disabled (h : l.form = .disabled) : locate l ms = { cell := none, clamped := false } := by
  unfold locate; rw [h]

theorem locate_both {a b : Hit} (hf : l.form = .linear ∨ l.form = .table)
    (ha : ms.find? (fun h => decide (h.role.val = l.roleA)) = some a)
    (hb : ms.find? (fun h => decide (h.role.val = l.roleB)) = some b) :
    locate l ms = locateDiff l (signedDiff b.arrival a.arrival) := by
  unfold locate
  rcases hf with hf | hf <;> simp only [hf, ha, hb]

theorem find_role_eq_none {r : Nat} (h : ∀ x ∈ ms, x.role.val ≠ r) :
    ms.find? (fun x => decide (x.role.val = r)) = none :=
  List.find?_eq_none.mpr fun x hx => by simpa using h x hx

theorem locate_lacking (h : (∀ x ∈ ms, x.role.val ≠ l.roleA) ∨ ∀ x ∈ ms, x.role.val ≠ l.roleB) :
    locate l ms = { cell := none, clamped := false } := by
  unfold locate
  split
  · rfl
  all_goals
    split
    · next ha hb =>
      rcases h with h | h
      · rw [find_role_eq_none h] at ha; cases ha
      · rw [find_role_eq_none h] at hb; cases hb
    · rfl

end

/-- Settles O28: the travel never falls (`travel_monotone`) and the argument never rises with the difference. -/
theorem locationOnLine : Obligations.LocationOnLine := by
  refine ⟨?_, fun l ms => ⟨fun a b => locate_both, ?_⟩⟩
  · intro l d e t u w k inc acc
    have hpos : acc / 256 = l.position d := congrArg (· / 256) (travel_eq l.increments w u).symm
    rw [hpos]
    refine ⟨locateDiff_cell l d, locateDiff_clamped l d, ⟨_, locateDiff_cell l d, by omega⟩, ?_, fun h => ?_, fun h => ?_⟩
    · intro hde c c' hc hc'
      rw [locateDiff_cell, Option.some_inj] at hc hc'
      rw [← hc, ← hc']
      exact Nat.div_le_div_right (min_le_min le_rfl (l.position_antitone hde))
    · exact ⟨(locateDiff_clamped l d).mpr (.inr (.inl h)), by rw [locateDiff_cell, locateDiff_cell, l.position_above h]⟩
    · exact ⟨(locateDiff_clamped l d).mpr (.inl h), by rw [locateDiff_cell, locateDiff_cell, l.position_below h]⟩
  · rintro (h | h)
    · exact locate_disabled h
    · exact locate_lacking h

/-! ### Set Location Line (R77) -/

/-- R77, R111: all cells of a line. -/
theorem clearCells_line (cells : Vector Cell 96) (n : Fin 3) :
    clearCells cells n.val 0xFF = cells.mapIdx fun j y => if j / 32 = n.val then .cleared else y := by
  have hn : n.val ≠ 0xFF := by omega
  simp [clearCells, clearNames, hn]

/-- R77: a record that passes the tests sets the line, clears its cells and completes. -/
theorem startSetLocationLine_takes {s : State} {c : Cmd} {k : Fin 4} {n : Fin 3} {form : LineForm}
    (h4 : u8 c.bytes.toList 4 = k.val) (h5 : u8 c.bytes.toList 5 = n.val) (h6 : formOf (u8 c.bytes.toList 6) = some form)
    (hr : rolesBad form c.bytes.toList = false) (hx : (s.station k).state = .stopped) :
    startSetLocationLine c s =
      complete (s.onStation k fun x =>
        { x with lines := x.lines.set n (lineFrom form (x.lines.get n) c.bytes.toList (clampNat 4 4095 (u16 c.bytes.toList 10)))
                 cells := clearCells x.cells n.val 0xFF }) c.slot
        (if form = .disabled then 0 else countClamped (u16 c.bytes.toList 10) (clampNat 4 4095 (u16 c.bytes.toList 10))) := by
  simp only [startSetLocationLine, h4, stationOf_val, h5, lineOf_val, h6, hr, hx, ne_eq, not_true_eq_false, Bool.false_eq_true,
    if_false]

/-- Settles O44: one effect for the three forms. -/
theorem locationLineSet : Obligations.LocationLineSet := by
  intro s c k n hl hs l h4 h5 hx tmax d after
  have takes {form : LineForm} (h6 : formOf (u8 l 6) = some form) (hr : rolesBad form l = false) :=
    startStep_completes (f := startSetLocationLine) hl hs (startSetLocationLine_takes h4 h5 h6 hr hx) rfl
  simp only [State.onStation, clearCells_line] at takes
  have roles (h7 : u8 l 7 ≤ 5) (h8 : u8 l 8 ≤ 5) (hne : u8 l 7 ≠ u8 l 8) :
      decide (5 < u8 l 7 ∨ 5 < u8 l 8 ∨ u8 l 7 = u8 l 8) = false := decide_eq_false (by omega)
  refine ⟨fun h6 h7 h8 hne => ?_, fun h6 h7 h8 hne => ?_, fun h6 => ?_⟩
  · exact takes (form := .linear) (by rw [h6]; rfl) (roles h7 h8 hne)
  · exact takes (form := .table) (by rw [h6]; rfl) (roles h7 h8 hne)
  · exact takes (form := .disabled) (by rw [h6]; rfl) rfl

end Sys2Proof.Machine
end

section
/-! ## Commands and the notice ring: the rules of the two laws (R112, R145, R146, R158, R160)

What the command unit's and the notice writer's own operations do to `CommandLaw` and `RingLaw`. -/

namespace Sys2Proof.Machine

open Sys2Proof.Safety

set_option Elab.async false

/-! ### The command queue and its Copy Maps (R112, R145, R146) -/

section
variable {s t : State}

/-- Commands that keep their slots and records and that, once started, stay started. -/
theorem commandLaw_of_map (f : Cmd → Cmd) (hq : t.cmd.queue = s.cmd.queue.map f) (hslot : ∀ c, (f c).slot = c.slot)
    (hbytes : ∀ c, (f c).bytes = c.bytes) (hstarted : ∀ c, c.state ≠ .queued → (f c).state ≠ .queued)
    (hc : t.cmd.copies.map (·.slot) = s.cmd.copies.map (·.slot)) (h : CommandLaw s) : CommandLaw t := by
  obtain ⟨hs, ht, hcs, hrun⟩ := h
  refine ⟨?_, ?_, hc ▸ hcs, fun r hr => ?_⟩
  · rw [hq, List.map_map]
    simpa only [Function.comp_def, hslot] using hs
  · rw [hq, List.map_map]
    simpa only [Function.comp_def, hbytes] using ht
  · have hmem : r.slot ∈ s.cmd.copies.map (·.slot) := hc ▸ List.mem_map_of_mem hr
    obtain ⟨r', hr', he⟩ := List.mem_map.mp hmem
    obtain ⟨c, hcq, hcs', hst⟩ := hrun r' hr'
    exact ⟨f c, hq ▸ List.mem_map_of_mem hcq, by rw [hslot, hcs', he], hstarted c hst⟩

/-- A change to neither the queue nor the slots of the Copy Maps. -/
theorem commandLaw_of_queue (hq : t.cmd.queue = s.cmd.queue) (hc : t.cmd.copies.map (·.slot) = s.cmd.copies.map (·.slot))
    (h : CommandLaw s) : CommandLaw t :=
  commandLaw_of_map id (by rw [hq, List.map_id]) (fun _ => rfl) (fun _ => rfl) (fun _ => id) hc h

/-- A started command stays started whatever becomes of the command in a slot, which is no longer QUEUED. -/
theorem commandLaw_setCmdState {slot : Fin 32} {st : CmdState} (hst : st ≠ .queued)
    (hq : t.cmd.queue = setCmdState s.cmd.queue slot st) (hc : t.cmd.copies = s.cmd.copies) (h : CommandLaw s) :
    CommandLaw t := by
  refine commandLaw_of_map (fun c => if c.slot = slot then { c with state := st } else c) hq (fun c => ?_) (fun c => ?_)
    (fun c hcst => ?_) (congrArg _ hc) h
  · split <;> rfl
  · split <;> rfl
  · split
    · exact hst
    · exact hcst

theorem strikeCmd_slot (id : Nat) (c : Cmd) : (strikeCmd id c).slot = c.slot := by
  unfold strikeCmd; split <;> rfl
theorem strikeCmd_bytes (id : Nat) (c : Cmd) : (strikeCmd id c).bytes = c.bytes := by
  unfold strikeCmd; split <;> rfl
theorem strikeCmd_started (id : Nat) (c : Cmd) (h : c.state ≠ .queued) : (strikeCmd id c).state ≠ .queued := by
  unfold strikeCmd
  split
  · exact CmdState.noConfusion
  · exact h
  · exact h

/-- R149: a completed command leaves the queue with its Copy Map. -/
theorem commandLaw_completed {e : Completed} {rest : List Completed} (ht : t.cmd = s.cmd.completed e rest)
    (h : CommandLaw s) : CommandLaw t := by
  obtain ⟨hs, htag, hcs, hrun⟩ := h
  unfold CommandLaw
  rw [ht]
  refine ⟨hs.sublist (List.filter_sublist.map _), htag.sublist (List.filter_sublist.map _),
    hcs.sublist (List.filter_sublist.map _), fun r hr => ?_⟩
  obtain ⟨hr, hne⟩ := List.mem_filter.mp hr
  obtain ⟨c, hc, hslot, hst⟩ := hrun r hr
  exact ⟨c, List.mem_filter.mpr ⟨hc, by rw [hslot]; exact hne⟩, hslot, hst⟩

/-- R145: a submission joins the queue from a slot that is free and with a tag not in use. -/
theorem commandLaw_submit {slot : Fin 32} {r : CmdBytes} (ho : occupied s slot = false)
    (hu : tagInUse s (tagOf r) = false)
    (hq : t.cmd.queue = s.cmd.queue ++ [{ slot := slot, bytes := r, state := .queued }])
    (hc : t.cmd.copies = s.cmd.copies) (h : CommandLaw s) : CommandLaw t := by
  obtain ⟨hs, htag, hcs, hrun⟩ := h
  simp only [occupied, Bool.or_eq_false_iff, List.any_eq_false, decide_eq_true_eq] at ho
  simp only [tagInUse, List.any_eq_false, decide_eq_true_eq] at hu
  refine ⟨?_, ?_, hc ▸ hcs, fun r hr => ?_⟩
  · rw [hq, List.map_append]
    refine List.nodup_append.mpr ⟨hs, List.nodup_singleton _, ?_⟩
    simpa using ho.1
  · rw [hq, List.map_append]
    refine List.nodup_append.mpr ⟨htag, List.nodup_singleton _, ?_⟩
    simpa using hu
  · obtain ⟨c, hcq, hslot⟩ := hrun r (hc ▸ hr)
    exact ⟨c, hq ▸ List.mem_append_left _ hcq, hslot⟩

/-- R112: a Copy Map starts for a QUEUED command, which has none under way and becomes RUNNING. -/
theorem commandLaw_copyStarted {c : Cmd} {r : CopyRun} (hcq : c ∈ s.cmd.queue) (hst : c.state = .queued)
    (hr : r.slot = c.slot) (hq : t.cmd.queue = setCmdState s.cmd.queue c.slot .running)
    (hc : t.cmd.copies = s.cmd.copies ++ [r]) (h : CommandLaw s) : CommandLaw t := by
  have hno := no_copy_of_queued h hcq hst
  have hrunning : CommandLaw { s with cmd := running s.cmd c } :=
    commandLaw_setCmdState (st := .running) CmdState.noConfusion rfl rfl h
  obtain ⟨hs, htag, hcs, hrun⟩ := hrunning
  refine ⟨hq ▸ hs, hq ▸ htag, ?_, fun x hx => ?_⟩
  · rw [hc, List.map_append]
    refine List.nodup_append.mpr ⟨hcs, List.nodup_singleton _, ?_⟩
    simpa [hr] using hno
  · rw [hc, List.mem_append, List.mem_singleton] at hx
    rcases hx with hx | rfl
    · exact hq ▸ hrun x hx
    · refine ⟨{ c with state := .running }, hq ▸ List.mem_map.mpr ⟨c, hcq, if_pos rfl⟩, hr.symm, CmdState.noConfusion⟩

end

/-! ### The notice ring (R156, R158, R160, R161) -/

section
variable {s t : State}

/-- R157: notices handed to the writer leave the ring. -/
theorem ringLaw_takes (ns : List Notice) (hn : t.notices = ns.foldl NoticeWriter.take s.notices) (h : RingLaw s) :
    RingLaw t := by
  obtain ⟨q, d, a, o, hf⟩ := s.notices.takes_frame ns
  unfold RingLaw
  rw [hn, hf]
  exact h

/-- R158: with room in the ring a written entry moves p on by 1 and is counted. -/
theorem ringLaw_written {r : Ring} {n : Notice} {stamp : Nat} (hr : s.notices.ring = some r)
    (hroom : s.notices.u < r.entries) (hn : t.notices = s.notices.written r n stamp) (h : RingLaw s) : RingLaw t := by
  unfold RingLaw at h ⊢
  simp only [hn, NoticeWriter.written, hr] at h ⊢
  obtain ⟨hu, hpos, hle, hc, hp⟩ := h
  refine ⟨by simp [hu], hpos, hroom, hc, ?_⟩
  have hmod : (s.notices.c + (s.notices.u + 1)) % r.entries = (s.notices.p + 1) % r.entries := by
    rw [hp, ← Nat.add_assoc, Nat.mod_add_mod]
  rw [hmod]
  have hlt : s.notices.p < r.entries := hp ▸ Nat.mod_lt _ hpos
  unfold ringNext
  split
  · next he => rw [he, Nat.mod_self]
  · rw [Nat.mod_eq_of_lt (by omega)]

/-- R160: no more entries are consumed than there are. -/
theorem consumedCount_le (w : NoticeWriter) (entries : Nat) (offsets : List Nat) (accepted : Nat) :
    consumedCount w entries offsets accepted ≤ w.unconsumed.length := by
  unfold consumedCount
  refine List.foldlRecOn (motive := (· ≤ w.unconsumed.length)) _ _ (Nat.zero_le _) fun acc hacc x hx => ?_
  have hx2 : x.2 < w.unconsumed.length := by simpa using List.snd_lt_of_mem_zipIdx hx
  split
  · exact hx2
  · exact hacc

/-- R160: consumption moves c on over the entries it takes out. -/
theorem ringLaw_consume {r : Ring} {n : Nat} (hr : s.notices.ring = some r) (hle : n ≤ s.notices.unconsumed.length)
    (hn : t.notices = s.notices.consume r.entries n) (h : RingLaw s) : RingLaw t := by
  unfold RingLaw at h ⊢
  rw [hn]
  unfold NoticeWriter.consume
  split
  · exact h
  · simp only [hr] at h ⊢
    obtain ⟨hu, hpos, hue, hc, hp⟩ := h
    refine ⟨by rw [List.length_drop, hu], hpos, by omega, Nat.mod_lt _ hpos, ?_⟩
    rw [hp, Nat.mod_add_mod]
    congr 1
    omega

/-- R161: the ring a record gives has at least 16 entries. -/
theorem ringOf_entries {l : List Byte} {r : Ring} (h : ringOf l = some r) : 16 ≤ r.entries := by
  simp only [ringOf] at h
  split at h
  · next hg =>
    obtain ⟨-, -, hlo, -, -⟩ := hg
    cases h
    exact hlo
  · cases h

/-- R161: a new ring is empty. -/
theorem ringLaw_setRing {w : NoticeWriter} {r : Ring} (hr : 0 < r.entries) (hn : t.notices = w.setRing r) : RingLaw t := by
  unfold RingLaw
  rw [hn]
  exact ⟨rfl, hr, Nat.zero_le _, hr, (Nat.zero_mod _).symm⟩

end

end Sys2Proof.Machine
end

section
/-! ## What lanes, stations and holds do to commands and to the notice ring (R146, R158)

`KeepsCommands s t` says of a part of a step from `s` to `t` that `t` meets `CommandLaw` and `RingLaw` when `s` does. It
composes, so each operation is proved once from the operations it is made of. What chapters 1 to 6 do comes to notices
handed on and to the ends of pattern tests. -/

namespace Sys2Proof.Machine

open Sys2Proof.Safety

set_option Elab.async false

/-- `t` meets the laws of commands and of the notice ring when `s` does. -/
structure KeepsCommands (s t : State) : Prop where
  commands : CommandLaw s → CommandLaw t
  ring : RingLaw s → RingLaw t

namespace KeepsCommands

variable {s t u : State}

@[refl] theorem refl (s : State) : KeepsCommands s s := ⟨id, id⟩

theorem trans (h : KeepsCommands s t) (h' : KeepsCommands t u) : KeepsCommands s u :=
  ⟨h'.commands ∘ h.commands, h'.ring ∘ h.ring⟩

/-- A change of the commands that leaves the notice writer. -/
theorem of_commands (h : CommandLaw s → CommandLaw t) (hn : t.notices = s.notices := by simp) : KeepsCommands s t :=
  ⟨h, fun hr => by unfold RingLaw; rw [hn]; exact hr⟩

/-- A change of the notice writer that leaves the command unit. -/
theorem of_ring (h : RingLaw s → RingLaw t) (hc : t.cmd = s.cmd := by simp) : KeepsCommands s t :=
  ⟨fun hl => by unfold CommandLaw; rw [hc]; exact hl, h⟩

/-- A change to neither. -/
theorem of_same (hc : t.cmd = s.cmd := by simp) (hn : t.notices = s.notices := by simp) : KeepsCommands s t :=
  of_commands (fun hl => by unfold CommandLaw; rw [hc]; exact hl) hn

/-- A change to neither, then an operation. -/
theorem after (h : KeepsCommands t u) (hc : t.cmd = s.cmd := by simp) (hn : t.notices = s.notices := by simp) :
    KeepsCommands s u := (of_same hc hn).trans h

/-- An operation, then a change to neither. -/
theorem before (h : KeepsCommands s t) (hc : u.cmd = t.cmd := by simp) (hn : u.notices = t.notices := by simp) :
    KeepsCommands s u := h.trans (of_same hc hn)

end KeepsCommands

/-! ### Notices and ends of commands (R148, R150, R157) -/

theorem keepsCommands_onLane (s : State) (i : Fin 16) (f : Lane → Lane) : KeepsCommands s (s.onLane i f) := .of_same
theorem keepsCommands_setSeg (s : State) (i : Fin 16) (g : Segs) : KeepsCommands s (s.setSeg i g) := .of_same
theorem keepsCommands_commit (s t : State) : KeepsCommands t (commit s t) := .of_same

theorem keepsCommands_handNotices (s : State) (ns : List Notice) : KeepsCommands s (handNotices s ns) :=
  .of_ring (ringLaw_takes ns (by simp))

theorem keepsCommands_handNotice (s : State) (n : Notice) : KeepsCommands s (handNotice s n) :=
  keepsCommands_handNotices s [n]

theorem keepsCommands_decideCmd (s : State) (slot : Fin 32) (r : Result) (d : BitVec 16) (aw : List Nat) :
    KeepsCommands s (decideCmd s slot r d aw) := by
  obtain ⟨q, l, h, hq | hq⟩ := decideCmd_cmd s slot r d aw
  · exact .of_commands (commandLaw_of_queue (by rw [h]; exact hq) (by rw [h]))
  · exact .of_commands (commandLaw_setCmdState CmdState.noConfusion (by rw [h]; exact hq) (by rw [h]))

theorem keepsCommands_complete (s : State) (slot : Fin 32) (n : Nat) : KeepsCommands s (complete s slot n) :=
  keepsCommands_decideCmd s slot _ _ _

theorem keepsCommands_refuse (s : State) (slot : Fin 32) (r : Result) : KeepsCommands s (refuse s slot r) :=
  (keepsCommands_decideCmd _ slot r _ []).after

/-! ### The event former (R68 to R72, R82, R95) -/

theorem keepsCommands_evaluate (s : State) (k : Fin 4) (r : CycleRecord) : KeepsCommands s (evaluate s k r) :=
  (keepsCommands_handNotices _ _).after

theorem creditEvent_notices (s : State) (k : Fin 4) (ids : List Nat) (ms : List Hit) (e : EventTally) :
    (creditEvent s k ids ms e).notices = s.notices := by
  unfold creditEvent
  dsimp only
  split
  · rfl
  · exact eventPins_induct (P := fun t => t.notices = s.notices) (fun t c l p h => by simp [h]) ms _ _ rfl

theorem keepsCommands_formEvent (s : State) (k : Fin 4) (h0 : Hit) (early : Bool) :
    KeepsCommands s (formEvent s k h0 early) := by
  refine .of_same (formEvent_cmd s k h0 early) ?_
  unfold formEvent
  dsimp only
  split
  · exact creditEvent_notices _ k _ _ _
  · rfl

theorem keepsCommands_formingPass (s : State) (k : Fin 4) : KeepsCommands s (formingPass s k) :=
  formingPass_induct (P := KeepsCommands s) (fun t r _ h => h.trans (keepsCommands_evaluate t k r))
    (fun t h0 _ _ h => h.trans (keepsCommands_formEvent t k h0 false)) s (.refl s)

theorem keepsCommands_handHit (s : State) (k : Fin 4) (h : Hit) : KeepsCommands s (handHit s k h) :=
  handHit_induct (P := KeepsCommands s) (fun t r _ h => h.trans (keepsCommands_evaluate t k r))
    (fun t h0 _ e _ h => h.trans (keepsCommands_formEvent t k h0 e)) h (fun _ h => h.before) s (.refl s)

theorem keepsCommands_handHit? (s : State) (k : Fin 4) (h : Option Hit) : KeepsCommands s (handHit? s k h) := by
  cases h with
  | none => exact .refl s
  | some h => exact keepsCommands_handHit s k h

/-! ### The tracker (R50 to R56) -/

theorem keepsCommands_endCycle (s : State) (k : Fin 4) (e : SampleTime) : KeepsCommands s (endCycle s k e) := by
  unfold endCycle
  dsimp only
  split
  · exact (keepsCommands_formingPass _ k).after
  · exact .of_same

theorem keepsCommands_forceHead (s : State) (k : Fin 4) : KeepsCommands s (forceHead s k) := by
  unfold forceHead
  split
  · split
    · exact keepsCommands_evaluate s k _
    · exact .refl s
  · exact .refl s

theorem keepsCommands_startCycle (s : State) (k : Fin 4) (t : SampleTime) (peak : Nat) :
    KeepsCommands s (startCycle s k t peak) := by
  have h1 (f g : Station → Station) : KeepsCommands s ((forceHead (s.onStation k f) k).onStation k g) :=
    (keepsCommands_forceHead (s.onStation k f) k).after.trans .of_same
  have h2 (b : Bool) (u : State) (n : Notice) (hu : KeepsCommands s u) :
      KeepsCommands s (if b then handNotice u n else u) := by
    split
    · exact hu.trans (keepsCommands_handNotice u n)
    · exact hu
  unfold startCycle
  dsimp only
  split
  · exact (h2 _ _ _ (h1 _ _)).trans (keepsCommands_formingPass _ k)
  · exact h2 _ _ _ (h1 _ _)

theorem keepsCommands_applyPeak (s : State) (k : Fin 4) (a b : SampleTime) (peak : Nat) :
    KeepsCommands s (applyPeak s k a b peak) := by
  unfold applyPeak
  dsimp only
  split
  case h_1 | h_2 =>
    split
    · exact keepsCommands_startCycle s k a peak
    · exact .refl s
  case h_3 =>
    split
    · split
      · exact (keepsCommands_endCycle _ k b).after
      · exact .of_same
    · exact .refl s
  case h_4 =>
    split
    · exact .of_same
    · split
      · exact (keepsCommands_endCycle _ k b).after
      · exact .of_same
  case h_5 | h_6 => exact .refl s

theorem keepsCommands_vibrationBlock (s : State) (k : Fin 4) (vs : List Int) (t : SampleTime) (brk : Bool) :
    KeepsCommands s (vibrationBlock s k vs t brk) :=
  (keepsCommands_applyPeak _ k t (t + 59) _).after

theorem keepsCommands_goBlind (s : State) (k : Fin 4) (h : Option SampleTime) (reason : FaultReason) :
    KeepsCommands s (goBlind s k h reason) := by
  unfold goBlind
  dsimp only
  split
  case h_1 | h_2 => exact .refl s
  all_goals
    have h1 (x : Station) (n : Notice) : KeepsCommands s (handNotice (s.setStation k x) n) :=
      (keepsCommands_handNotice _ n).after
    split
    · exact (h1 _ _).trans (keepsCommands_formingPass _ k)
    · exact h1 _ _

theorem keepsCommands_leaveBlind (s : State) (k : Fin 4) : KeepsCommands s (leaveBlind s k) := by
  unfold leaveBlind
  split
  · exact .of_same
  · exact .refl s

/-! ### Lanes (R7 to R23) -/

theorem keepsCommands_faultLane (s : State) (i : Fin 16) (reason : FaultReason) :
    KeepsCommands s (faultLane s i reason) := by
  unfold faultLane
  dsimp only
  split
  · exact .refl s
  · next k _ =>
    have h1 (n : Notice) : KeepsCommands s (handNotice
        ((handHit? (s.setLane i (s.lane i).resetDetector) k ((s.lane i).truncatedHit i)).onLane i fun l => l.faulted reason)
        n) :=
      ((keepsCommands_handHit? _ k _).after.trans (keepsCommands_onLane _ i _)).trans (keepsCommands_handNotice _ n)
    split
    · exact (h1 _).trans (keepsCommands_goBlind _ k _ reason)
    · split
      · exact (h1 _).trans (keepsCommands_formingPass _ k)
      · exact h1 _

theorem keepsCommands_recoverLane (s : State) (i : Fin 16) : KeepsCommands s (recoverLane s i) := by
  unfold recoverLane
  dsimp only
  split
  · exact .refl s
  · split
    · exact (keepsCommands_handNotice _ _).after.trans (keepsCommands_leaveBlind _ _)
    · exact (keepsCommands_handNotice _ _).after

theorem keepsCommands_endTest (s : State) (i : Fin 16) (r : TestResult) : KeepsCommands s (endTest s i r) := by
  unfold endTest
  split
  · exact .refl s
  · exact (keepsCommands_decideCmd _ _ _ _ _).after

theorem keepsCommands_testVerdict (s : State) (i : Fin 16) : KeepsCommands s (testVerdict s i) := by
  unfold testVerdict
  split
  · exact .refl s
  · split
    · exact keepsCommands_endTest s i _
    · exact .refl s

theorem keepsCommands_beginBlock (s : State) (i : Fin 16) : KeepsCommands s (beginBlock s i) := by
  unfold beginBlock
  dsimp only
  split
  · split
    case h_1 => exact .of_same
    case h_2 | h_3 | h_4 => exact (keepsCommands_handHit? _ _ _).after
    case h_5 | h_6 => exact .refl s
  · exact .refl s

theorem keepsCommands_advanceHorizon (s : State) (i : Fin 16) (k : Fin 4) (t : SampleTime) (d : Int) :
    KeepsCommands s (advanceHorizon s i k t d) := by
  unfold advanceHorizon
  dsimp only
  split
  · exact (keepsCommands_formingPass _ k).after
  · exact .of_same

theorem keepsCommands_endAE (s : State) (i : Fin 16) (k : Fin 4) (role : Fin 6) (b : QueuedBlock)
    (rest : List QueuedBlock) : KeepsCommands s (endAE s i k role b rest) :=
  (handHits_induct (P := KeepsCommands s) (fun t h ht => ht.trans (keepsCommands_handHit t k h)) _ _ .of_same).trans
    (keepsCommands_advanceHorizon _ i k _ _)

theorem keepsCommands_endVibration (s : State) (i : Fin 16) (k : Fin 4) (b : QueuedBlock) (rest : List QueuedBlock) :
    KeepsCommands s (endVibration s i k b rest) := by
  unfold endVibration
  dsimp only
  refine KeepsCommands.trans ?_ (keepsCommands_advanceHorizon _ i k _ _)
  split
  · exact (keepsCommands_vibrationBlock _ k _ _ _).after
  · exact .of_same

theorem keepsCommands_endBlock (s : State) (i : Fin 16) : KeepsCommands s (endBlock s i) := by
  unfold endBlock
  dsimp only
  split
  · refine KeepsCommands.trans ?_ (keepsCommands_beginBlock _ i)
    split
    · exact (keepsCommands_testVerdict _ i).after
    · split
      · exact keepsCommands_endAE s i _ _ _ _
      · exact keepsCommands_endVibration s i _ _ _
  · exact .refl s

/-! ### Writes of lane masters (R7 to R11, R22, R117, R118) -/

theorem keepsCommands_enterQueue (s : State) (i : Fin 16) (d : BlockData) (gap : Bool) (p : Nat) (unseed : Bool) :
    KeepsCommands s (enterQueue s i d gap p unseed) := by
  unfold enterQueue
  dsimp only
  split
  · exact (keepsCommands_beginBlock _ i).after
  · exact .of_same

theorem keepsCommands_offerBlock (s : State) (i : Fin 16) (d : BlockData) (gap : Bool) (p : Nat) :
    KeepsCommands s (offerBlock s i d gap p) := by
  unfold offerBlock
  split
  · exact keepsCommands_enterQueue s i d gap p false
  · exact .of_same

theorem keepsCommands_testGood (s : State) (i : Fin 16) (r : TestRun) (d : BlockData) (missing p : Nat) :
    KeepsCommands s (testGood s i r d missing p) := by
  unfold testGood
  dsimp only
  split
  · split
    · split
      · exact (keepsCommands_enterQueue _ i d _ p _).after
      · exact .of_same
    · exact .of_same
  · exact .of_same

theorem keepsCommands_testBad (s : State) (i : Fin 16) (r : TestRun) : KeepsCommands s (testBad s i r) := by
  unfold testBad
  split
  · exact .of_same
  · exact .refl s

theorem keepsCommands_goodBlock (s : State) (i : Fin 16) (d : BlockData) (missing p : Nat) :
    KeepsCommands s (goodBlock s i d missing p) := by
  have h1 : KeepsCommands s (extendRange (s.onLane i fun l => l.checkedGood d missing) i p d.first) := .of_same
  unfold goodBlock
  dsimp only
  split
  · split
    · exact h1.trans (keepsCommands_recoverLane _ i).after
    · exact h1.before
  · exact (h1.trans (keepsCommands_testGood _ i _ d missing p)).trans (keepsCommands_testVerdict _ i)
  · exact h1
  · exact h1
  · exact h1.trans (keepsCommands_offerBlock _ i d _ p)

theorem keepsCommands_badBlock (s : State) (i : Fin 16) (reason : FaultReason) :
    KeepsCommands s (badBlock s i reason) := by
  unfold badBlock
  dsimp only
  split
  · exact .of_same
  · exact ((keepsCommands_testBad _ i _).trans (keepsCommands_testVerdict _ i)).after
  · exact .of_same
  · exact .of_same
  · split
    · exact (keepsCommands_faultLane _ i reason).after
    · exact .of_same

theorem keepsCommands_laneSeesWrite (s : State) (i : Fin 16) (t : Transfer) (p : Nat) :
    KeepsCommands s (laneSeesWrite s i t p) := by
  unfold laneSeesWrite
  dsimp only
  split
  · exact (keepsCommands_goodBlock _ i _ _ p).after
  · exact (keepsCommands_badBlock _ i _).after

theorem keepsCommands_serveHold (s : State) (i : Fin 16) (m : Mapping) (g : Segs) (t : SegTable) (n : Nat) :
    KeepsCommands s (serveHold s i m g t n) := by
  unfold serveHold
  split
  · exact .refl s
  · dsimp only
    split
    · exact (keepsCommands_handNotice _ _).after
    · exact (keepsCommands_handNotice _ _).after

theorem keepsCommands_reportWrite (s : State) (i : Fin 16) (m : Mapping) (n : Nat) :
    KeepsCommands s (reportWrite s i m n) := by
  unfold reportWrite
  split
  · exact .refl s
  · dsimp only
    split
    · exact .refl s
    · exact (keepsCommands_serveHold s i m _ _ n).trans (keepsCommands_setSeg _ i _)

theorem keepsCommands_laneWrite (s : State) (i : Fin 16) (m : Mapping) (t : Transfer) :
    KeepsCommands s (laneWrite s i m t).1 := by
  unfold laneWrite
  dsimp only
  split
  · exact (keepsCommands_reportWrite s i m _).trans (keepsCommands_laneSeesWrite _ i t _)
  · exact .of_same

end Sys2Proof.Machine
end

section
/-! ## Every step keeps commands and the notice ring (R112, R145, R146, R158) -/

namespace Sys2Proof.Machine

open Sys2Proof.Safety

set_option Elab.async false

/-! ### The status writer, Copy Maps and Abort (R113, R114, R152, R165, R166) -/

theorem keepsCommands_runCmd (s : State) (slot : Fin 32) : KeepsCommands s (runCmd s slot) :=
  .of_commands (commandLaw_setCmdState CmdState.noConfusion rfl rfl)

/-- The Copy Map of a slot stays that slot's whatever else changes of it. -/
theorem keepsCommands_onCopy (s : State) (slot : Fin 32) (f : CopyRun → CopyRun) (hf : ∀ r, (f r).slot = r.slot) :
    KeepsCommands s (onCopy s slot f) := by
  refine .of_commands (commandLaw_of_queue rfl ?_)
  simp only [onCopy, List.map_map]
  refine List.map_congr_left fun r _ => ?_
  simp only [Function.comp]
  split
  · exact hf r
  · rfl

theorem keepsCommands_decideAll (s : State) (slots : List (Fin 32)) (r : Result) (d : Nat) :
    KeepsCommands s (decideAll s slots r d) :=
  List.foldlRecOn (motive := KeepsCommands s) slots _ (.refl s) fun t h _ _ =>
    h.trans (keepsCommands_decideCmd t _ r _ _)

theorem keepsCommands_settleStatusWrite (s : State) : KeepsCommands s (settleStatusWrite s) := by
  unfold settleStatusWrite
  split
  · exact .refl s
  · split
    · exact .refl s
    · split
      · exact (keepsCommands_decideAll _ _ _ _).after
      · exact (keepsCommands_decideAll _ _ _ _).after

theorem keepsCommands_statusPartAnswered (s : State) (r : Response) : KeepsCommands s (statusPartAnswered s r) := by
  unfold statusPartAnswered
  split
  · exact .refl s
  · exact (keepsCommands_settleStatusWrite _).after

theorem keepsCommands_abortCopy (s : State) (slot : Fin 32) : KeepsCommands s (abortCopy s slot) :=
  (keepsCommands_onCopy s slot (fun r => { r with stopped := true }) fun _ => rfl).trans
    (keepsCommands_decideCmd _ slot _ _ _)

theorem keepsCommands_abortWriteStatus (s : State) (slot : Fin 32) : KeepsCommands s (abortWriteStatus s slot) := by
  unfold abortWriteStatus
  dsimp only
  split
  · exact (keepsCommands_decideCmd _ slot _ _ _).after
  · split
    · exact keepsCommands_decideCmd s slot _ _ _
    · have h1 := keepsCommands_decideCmd s slot .aborted 0 (ownIds s (.statusWriter true) ++ carriedIds s slot)
      split
      · exact (h1.trans .of_same).trans (keepsCommands_settleStatusWrite _)
      · exact h1.trans .of_same

theorem keepsCommands_abortTarget (s : State) (c : Cmd) : KeepsCommands s (abortTarget s c) := by
  unfold abortTarget
  split
  · exact keepsCommands_decideCmd s _ _ _ _
  · split
    · split
      · exact keepsCommands_endTest s _ _
      · exact .refl s
    · exact keepsCommands_abortCopy s _
    · exact keepsCommands_abortWriteStatus s _
    · exact .refl s
  · exact .refl s

theorem keepsCommands_abortTargets (s : State) (ts : List Cmd) : KeepsCommands s (ts.foldl abortTarget s) :=
  abortTargets_induct (P := KeepsCommands s) (fun t c h => h.trans (keepsCommands_abortTarget t c)) ts s (.refl s)

/-! ### Completion and the start of a command (R147, R149, R150) -/

theorem keepsCommands_completeHead (s : State) (e : Completed) (rest : List Completed) :
    KeepsCommands s (completeHead s e rest) := by
  have h1 : KeepsCommands s { handOn s .commandUnit (trailerAddr s e.slot)
      (beatsOf 1 (trailerBytes e.result e.detail (s.cmd.completionCount + 1))) with cmd := s.cmd.completed e rest } :=
    .of_commands (commandLaw_completed rfl)
  unfold completeHead
  dsimp only
  split
  · exact h1.trans (keepsCommands_handNotice _ _)
  · exact h1

theorem keepsCommands_completeStarted (c : Cmd) (s : State) : KeepsCommands s (completeStarted c s) :=
  completeStarted_induct (P := KeepsCommands s) c (fun t e rest _ _ h => h.trans (keepsCommands_completeHead t e rest)) s
    (.refl s)

/-- The start of a command keeps the laws when its own effect does on the command that starts next. -/
theorem keepsCommands_startStep {kind : Nat → Bool} {f : Cmd → State → State} {s t : State}
    (hf : ∀ c, nextStart s = some c → KeepsCommands s (f c s)) (h : startStep kind f s = .next t) :
    KeepsCommands s t := by
  rcases startStep_cases kind f s with hs | ⟨c, hc, -, hs⟩
  · rw [hs] at h; cases h; exact .refl s
  · rw [hs] at h; cases h
    exact ((hf c hc).trans (keepsCommands_completeStarted c _)).trans (keepsCommands_commit s _)

/-- An event whose effect, when its condition holds, keeps the laws. -/
theorem keepsCommands_guarded {g : Bool} {s v u : State} (hv : KeepsCommands s v)
    (h : (if g then Host.Outcome.next (commit s v) else .next s : Reply) = .next u) : KeepsCommands s u := by
  split at h <;> cases h
  · exact hv.trans (keepsCommands_commit s v)
  · exact .refl s

/-! ### The kinds of command -/

section
variable (c : Cmd) (s : State)

/-- A command that its tests refuse, or that has an effect on neither law and completes at once. -/
theorem keepsCommands_effect {u : State} (n : Nat) (hc : u.cmd = s.cmd := by simp)
    (hn : u.notices = s.notices := by simp) : KeepsCommands s (complete u c.slot n) :=
  (keepsCommands_complete u c.slot n).after hc hn

theorem keepsCommands_startMapLane : KeepsCommands s (startMapLane c s) := by
  unfold startMapLane
  split
  · exact keepsCommands_refuse s _ _
  · split
    · exact keepsCommands_refuse s _ _
    · exact keepsCommands_effect c s _ rfl rfl

theorem keepsCommands_startUnmapLane : KeepsCommands s (startUnmapLane c s) := by
  unfold startUnmapLane
  dsimp only
  split
  · exact keepsCommands_refuse s _ _
  · split
    · exact keepsCommands_refuse s _ _
    · split
      · exact keepsCommands_refuse s _ _
      · split
        · exact keepsCommands_complete s _ _
        · exact keepsCommands_effect c s _

theorem keepsCommands_silenceCheck (i : Fin 16) : KeepsCommands s (silenceCheck s i) := by
  unfold silenceCheck
  split
  · exact keepsCommands_faultLane s i _
  · exact .refl s

theorem keepsCommands_startSetLaneConditioning : KeepsCommands s (startSetLaneConditioning c s) := by
  unfold startSetLaneConditioning
  dsimp only
  split
  · split
    · exact keepsCommands_refuse s _ _
    · exact (keepsCommands_effect c s _).trans (keepsCommands_silenceCheck _ _)
  · exact keepsCommands_refuse s _ _

theorem keepsCommands_startTestLane : KeepsCommands s (startTestLane c s) := by
  unfold startTestLane
  dsimp only
  split
  · exact keepsCommands_refuse s _ _
  · split
    · exact keepsCommands_refuse s _ _
    · split
      · exact keepsCommands_refuse s _ _
      · exact (keepsCommands_runCmd s c.slot).trans (keepsCommands_onLane _ _ _)

theorem keepsCommands_startSetDetection : KeepsCommands s (startSetDetection c s) := by
  unfold startSetDetection
  dsimp only
  split
  · split
    · exact keepsCommands_refuse s _ _
    · split
      · exact keepsCommands_refuse s _ _
      · exact keepsCommands_effect c s _
  · exact keepsCommands_refuse s _ _

theorem keepsCommands_startSetStation : KeepsCommands s (startSetStation c s) := by
  unfold startSetStation
  dsimp only
  split
  · split
    · exact keepsCommands_refuse s _ _
    · split
      · exact keepsCommands_refuse s _ _
      · exact keepsCommands_effect c s _
  · exact keepsCommands_refuse s _ _

theorem keepsCommands_startStartStation : KeepsCommands s (startStartStation c s) := by
  unfold startStartStation
  dsimp only
  split
  · exact keepsCommands_refuse s _ _
  · split
    · exact keepsCommands_refuse s _ _
    · split
      · exact keepsCommands_refuse s _ _
      · exact keepsCommands_effect c s _

theorem keepsCommands_startStopStation : KeepsCommands s (startStopStation c s) := by
  unfold startStopStation
  split
  · exact keepsCommands_refuse s _ _
  · split
    · exact keepsCommands_complete s _ _
    · exact keepsCommands_effect c s _

theorem keepsCommands_startSetLocationLine : KeepsCommands s (startSetLocationLine c s) := by
  unfold startSetLocationLine
  dsimp only
  split
  · split
    · exact keepsCommands_refuse s _ _
    · split
      · exact keepsCommands_refuse s _ _
      · exact keepsCommands_effect c s _
  · exact keepsCommands_refuse s _ _

theorem keepsCommands_startSetMapCriteria : KeepsCommands s (startSetMapCriteria c s) := by
  unfold startSetMapCriteria
  dsimp only
  split
  · exact keepsCommands_refuse s _ _
  · exact keepsCommands_effect c s _

theorem keepsCommands_startClearCells : KeepsCommands s (startClearCells c s) := by
  unfold startClearCells
  dsimp only
  split
  · exact keepsCommands_refuse s _ _
  · split
    · exact keepsCommands_refuse s _ _
    · exact keepsCommands_effect c s _

/-- R112: the Copy Map that starts is the only one of its slot, since its command was QUEUED. -/
theorem keepsCommands_startCopyMap {c : Cmd} {s : State} (hc : nextStart s = some c) :
    KeepsCommands s (startCopyMap c s) := by
  obtain ⟨-, hcq, hst⟩ := nextStart_some hc
  unfold startCopyMap
  dsimp only
  split
  · exact keepsCommands_refuse s _ _
  · split
    · exact keepsCommands_refuse s _ _
    · split
      · exact keepsCommands_refuse s _ _
      · exact .of_commands (commandLaw_copyStarted hcq hst rfl rfl rfl)

theorem keepsCommands_startHoldSegment : KeepsCommands s (startHoldSegment c s) := by
  unfold startHoldSegment
  dsimp only
  split
  · exact keepsCommands_refuse s _ _
  · split
    · exact keepsCommands_refuse s _ _
    · split
      · exact keepsCommands_refuse s _ _
      · split
        case h_1 => exact keepsCommands_effect c s _
        case h_2 | h_3 => exact keepsCommands_complete s _ _
        case h_4 | h_5 => exact keepsCommands_decideCmd s _ _ _ _

theorem keepsCommands_startReleaseHold : KeepsCommands s (startReleaseHold c s) := by
  unfold startReleaseHold
  dsimp only
  split
  · exact keepsCommands_refuse s _ _
  · split
    · exact keepsCommands_refuse s _ _
    · split
      · exact keepsCommands_refuse s _ _
      · split
        · exact keepsCommands_refuse s _ _
        · split
          · exact keepsCommands_refuse s _ _
          · exact keepsCommands_effect c s _

theorem keepsCommands_startAbort : KeepsCommands s (startAbort c s) := by
  unfold startAbort
  dsimp only
  split
  · exact keepsCommands_refuse s _ _
  · split
    · exact keepsCommands_decideCmd s _ _ _ _
    · exact (keepsCommands_abortTargets s _).trans (keepsCommands_complete _ _ _)

theorem keepsCommands_startRestart : KeepsCommands s (startRestart c s) :=
  ((keepsCommands_runCmd s c.slot).trans (keepsCommands_abortTargets _ (abortTargets s c.slot 0xFFFF))).trans
    (.of_commands (commandLaw_of_queue rfl rfl))

/-- R161: the new ring is empty and has entries. -/
theorem keepsCommands_startSetNoticeRing : KeepsCommands s (startSetNoticeRing c s) := by
  unfold startSetNoticeRing
  dsimp only
  split
  · exact keepsCommands_refuse s _ _
  · next r hr =>
    split
    · exact keepsCommands_refuse s _ _
    · have hpos : 0 < r.entries := by have := ringOf_entries hr; omega
      refine KeepsCommands.trans (.of_ring (t := { staleWrites s .noticeWriter with
        notices := s.notices.setRing r }) fun _ => ringLaw_setRing hpos rfl) ?_
      exact keepsCommands_complete _ _ _

theorem keepsCommands_startSetStatusBlock : KeepsCommands s (startSetStatusBlock c s) := by
  unfold startSetStatusBlock
  dsimp only
  split
  · exact keepsCommands_refuse s _ _
  · split
    · exact keepsCommands_refuse s _ _
    · split
      · exact keepsCommands_effect c s _
      · exact KeepsCommands.trans (keepsCommands_effect c s _) (.of_same rfl rfl)

theorem keepsCommands_startWriteStatus : KeepsCommands s (startWriteStatus c s) := by
  unfold startWriteStatus
  split
  case h_1 | h_2 => exact keepsCommands_refuse s _ _
  case h_3 | h_4 => exact (keepsCommands_runCmd s c.slot).trans .of_same

end

/-! ### Submissions and the memory path (R131 to R145, R160) -/

theorem keepsCommands_submit (s : State) (slot : Fin 32) : KeepsCommands s (submit s slot) := by
  unfold submit
  split
  · exact .refl s
  · split
    · exact .of_commands (commandLaw_of_queue rfl rfl)
    · next ho =>
      dsimp only
      split
      · exact .of_commands (commandLaw_of_queue rfl rfl)
      · next hu => exact .of_commands (commandLaw_submit (by simpa using ho) (by simpa using hu) rfl rfl)

theorem keepsCommands_captureWrite (s : State) (beats : List (Nat × Beat)) : KeepsCommands s (captureWrite s beats) :=
  submits_induct (P := KeepsCommands s) (fun t slot h => h.trans (keepsCommands_submit t slot)) _ _
    (.of_commands (commandLaw_of_queue rfl rfl))

theorem keepsCommands_reportRead (s : State) (offsets : List Nat) (accepted : Nat) :
    KeepsCommands s (reportRead s offsets accepted) := by
  unfold reportRead
  split
  · exact .refl s
  · next r hr => exact .of_ring (ringLaw_consume hr (consumedCount_le s.notices r.entries offsets accepted) rfl)

theorem keepsCommands_returnResponse (s : State) (a : Accepted) (ans : Answer) (ring : List Nat) :
    KeepsCommands s (returnResponse s a ans ring) := by
  unfold returnResponse
  dsimp only
  split
  · exact (keepsCommands_reportRead _ _ _).after
  · exact .of_same

theorem keepsCommands_deliverAll (s : State) (m : Fin 16) : KeepsCommands s (deliverAll s m) :=
  deliver_induct (P := KeepsCommands s) m (fun t a x l _ _ h => h.trans (keepsCommands_returnResponse t a x l)) _ s
    (.refl s)

theorem keepsCommands_writeEffects (s : State) (t : Transfer) : KeepsCommands s (writeEffects s t).1 := by
  unfold writeEffects
  split
  · exact keepsCommands_laneWrite s _ _ t
  · split
    · exact keepsCommands_captureWrite s _
    · exact .refl s

theorem keepsCommands_issueForwarded (s : State) (a : Accepted) : KeepsCommands s (issueForwarded s a) := by
  unfold issueForwarded
  dsimp only
  split
  · have h := (keepsCommands_writeEffects { s with path := { s.path with
        starvation := if (waitingOwn s).isSome then s.path.starvation + 1 else 0 } } a.t).after (s := s)
    exact h.trans .of_same
  · exact .of_same

theorem keepsCommands_copyAnswered (s : State) (slot : Fin 32) (r : Response) :
    KeepsCommands s (copyAnswered s slot r) := by
  have hdone := keepsCommands_onCopy s slot (fun x => { x with done := x.done + 1 }) fun _ => rfl
  have hstop := keepsCommands_onCopy s slot (fun x => { x with stopped := true }) fun _ => rfl
  unfold copyAnswered
  dsimp only
  split
  · split
    · split
      · exact hdone.trans (keepsCommands_decideCmd _ _ _ _ _)
      · exact hdone
    · exact hdone
  · split
    · split
      · exact hstop.trans (keepsCommands_decideCmd _ _ _ _ _)
      · exact hstop
    · exact hstop

theorem keepsCommands_reportOwn (s : State) (w : OwnWrite) (r : Response) : KeepsCommands s (reportOwn s w r) := by
  unfold reportOwn
  split
  · split
    · exact .of_commands (commandLaw_of_queue rfl rfl)
    · exact .refl s
  · split
    · exact .of_ring id
    · exact .refl s
  · split
    · exact keepsCommands_statusPartAnswered s r
    · exact .of_same
  · exact keepsCommands_copyAnswered s _ r

theorem keepsCommands_settleAwaiting (s : State) (id : Nat) : KeepsCommands s (settleAwaiting s id) :=
  .of_commands (commandLaw_of_map (strikeCmd id) rfl (strikeCmd_slot id) (strikeCmd_bytes id) (strikeCmd_started id) rfl)

theorem keepsCommands_answerOwn (s : State) (w : OwnWrite) (r : Response) : KeepsCommands s (answerOwn s w r) :=
  (keepsCommands_reportOwn _ w r).after.trans (keepsCommands_settleAwaiting _ w.id)

/-! ### Every command, and the step -/

/-- A state whose commands and notice writer are those of the reset state meets the laws. -/
theorem keepsCommands_of_reset {s t : State} (hq : t.cmd.queue = []) (hc : t.cmd.copies = [])
    (hn : t.notices = NoticeWriter.reset) : KeepsCommands s t where
  commands _ := by simp [CommandLaw, hq, hc]
  ring _ := by unfold RingLaw; rw [hn]; exact ⟨rfl, rfl, rfl, rfl⟩

section
variable {s u : State}

theorem keepsCommands_execTransferArrival {t : Transfer} (h : execTransferArrival t s = .next u) : KeepsCommands s u := by
  unfold execTransferArrival at h
  split at h <;> cases h
  exact .of_same

theorem keepsCommands_execTransferAcceptance {m : Fin 16} (h : execTransferAcceptance m s = .next u) :
    KeepsCommands s u := by
  unfold execTransferAcceptance at h
  split at h
  · exact keepsCommands_guarded (keepsCommands_deliverAll _ _).after h
  · cases h; exact .refl s

theorem keepsCommands_execForwardedIssue (h : execForwardedIssue s = .next u) : KeepsCommands s u := by
  unfold execForwardedIssue at h
  split at h
  · exact keepsCommands_guarded (keepsCommands_issueForwarded s _) h
  · cases h; exact .refl s

theorem keepsCommands_execForwardedResponse {id : Nat} {a : Answer} (h : execForwardedResponse id a s = .next u) :
    KeepsCommands s u := by
  unfold execForwardedResponse at h
  split at h
  · split at h
    · split at h <;> cases h
      · exact .refl s
      · exact (keepsCommands_deliverAll _ _).after.trans (keepsCommands_commit s _)
    · cases h; exact .refl s
  · cases h

theorem keepsCommands_execOwnWriteIssue (h : execOwnWriteIssue s = .next u) : KeepsCommands s u := by
  unfold execOwnWriteIssue at h
  split at h
  · exact keepsCommands_guarded .of_same h
  · cases h; exact .refl s

theorem keepsCommands_execOwnWriteResponse {id : Nat} {r : Response} (h : execOwnWriteResponse id r s = .next u) :
    KeepsCommands s u := by
  unfold execOwnWriteResponse at h
  split at h
  · split at h <;> cases h
    · exact .refl s
    · exact (keepsCommands_answerOwn s _ r).trans (keepsCommands_commit s _)
  · cases h; exact .refl s

theorem keepsCommands_execStrayResponse {a : Answer} (h : execStrayResponse a s = .next u) : KeepsCommands s u := by
  unfold execStrayResponse at h
  split at h <;> cases h
  exact .refl s

theorem keepsCommands_execResetNAssertion (h : execResetNAssertion s = .next u) : KeepsCommands s u := by
  unfold execResetNAssertion at h
  cases h
  split
  · exact .refl s
  · exact keepsCommands_of_reset rfl rfl rfl

theorem keepsCommands_execResetNRelease {straps : BitVec 8} (h : execResetNRelease straps s = .next u) :
    KeepsCommands s u := by
  unfold execResetNRelease at h
  cases h
  split
  · exact .of_same
  · exact .refl s

theorem keepsCommands_execQuietTimeout {k : Fin 4} (h : execQuietTimeout k s = .next u) : KeepsCommands s u :=
  keepsCommands_guarded (keepsCommands_handNotice _ _).after h

/-- R158: a notice is handed on only with room for it in the ring. -/
theorem keepsCommands_execNoticeWriteHandOn (h : execNoticeWriteHandOn s = .next u) : KeepsCommands s u := by
  unfold execNoticeWriteHandOn at h
  split at h
  · next hm =>
    split at h <;> cases h
    · next r n hr _ =>
      have hroom : s.notices.u < r.entries := by
        simp only [mayHandOn, clientReady, noticeReady, hr, Bool.and_eq_true, decide_eq_true_eq] at hm
        obtain ⟨⟨-, ⟨⟨-, hroom⟩, -⟩, -⟩, -⟩ := hm
        exact hroom
      refine KeepsCommands.trans ?_ (keepsCommands_commit s _)
      exact .of_ring (ringLaw_written hr hroom rfl)
    · exact .refl s
  · cases h; exact .refl s

theorem keepsCommands_execStatusPartHandOn (h : execStatusPartHandOn s = .next u) : KeepsCommands s u := by
  unfold execStatusPartHandOn at h
  split at h
  · split at h <;> cases h
    · exact .of_same
    · exact .refl s
  · cases h; exact .refl s

theorem keepsCommands_execSnapshotWriteHandOn {slot : Fin 32} (h : execSnapshotWriteHandOn slot s = .next u) :
    KeepsCommands s u := by
  unfold execSnapshotWriteHandOn at h
  split at h
  · split at h <;> cases h
    · refine KeepsCommands.trans ?_ (keepsCommands_commit s _)
      exact (keepsCommands_onCopy _ slot (fun r => { r with handed := r.handed + 1 }) fun _ => rfl).after
    · exact .refl s
  · cases h; exact .refl s

theorem keepsCommands_execCompletion (h : execCompletion s = .next u) : KeepsCommands s u := by
  unfold execCompletion at h
  split at h
  · split at h <;> cases h
    · exact (keepsCommands_completeHead s _ _).trans (keepsCommands_commit s _)
    · exact .refl s
  · cases h; exact .refl s

theorem keepsCommands_execQueueDrained (h : execQueueDrained s = .next u) : KeepsCommands s u := by
  unfold execQueueDrained at h
  split at h <;> cases h
  · exact keepsCommands_of_reset rfl rfl rfl
  · exact .refl s

theorem keepsCommands_exec {c : Instr} (h : exec c s = .next u) : KeepsCommands s u := by
  cases c with
  | transferArrival t => exact keepsCommands_execTransferArrival h
  | transferAcceptance m => exact keepsCommands_execTransferAcceptance h
  | forwardedIssue => exact keepsCommands_execForwardedIssue h
  | forwardedResponse id a => exact keepsCommands_execForwardedResponse h
  | ownWriteIssue => exact keepsCommands_execOwnWriteIssue h
  | ownWriteResponse id r => exact keepsCommands_execOwnWriteResponse h
  | strayResponse a => exact keepsCommands_execStrayResponse h
  | resetNAssertion => exact keepsCommands_execResetNAssertion h
  | resetNRelease straps => exact keepsCommands_execResetNRelease h
  | silenceTimeout i => exact keepsCommands_guarded (keepsCommands_faultLane s i .silent) h
  | blockAnalysisEnd i => exact keepsCommands_guarded (keepsCommands_endBlock s i) h
  | testTimeout i => exact keepsCommands_guarded (keepsCommands_endTest s i .timeout) h
  | quietTimeout k => exact keepsCommands_execQuietTimeout h
  | noticeWriteHandOn => exact keepsCommands_execNoticeWriteHandOn h
  | statusWriteStart => exact keepsCommands_guarded (.of_same (s := s)) h
  | statusPartHandOn => exact keepsCommands_execStatusPartHandOn h
  | snapshotWriteHandOn slot => exact keepsCommands_execSnapshotWriteHandOn h
  | completion => exact keepsCommands_execCompletion h
  | queueDrained => exact keepsCommands_execQueueDrained h
  | badKind => exact keepsCommands_startStep (fun c _ => keepsCommands_decideCmd s c.slot _ _ _) h
  | mapLane =>
    exact keepsCommands_startStep (fun c _ => keepsCommands_startMapLane c s)
      (show execMapLane s = .next u from h)
  | unmapLane =>
    exact keepsCommands_startStep (fun c _ => keepsCommands_startUnmapLane c s)
      (show execUnmapLane s = .next u from h)
  | setLaneConditioning =>
    exact keepsCommands_startStep (fun c _ => keepsCommands_startSetLaneConditioning c s)
      (show execSetLaneConditioning s = .next u from h)
  | testLane =>
    exact keepsCommands_startStep (fun c _ => keepsCommands_startTestLane c s)
      (show execTestLane s = .next u from h)
  | setDetection =>
    exact keepsCommands_startStep (fun c _ => keepsCommands_startSetDetection c s)
      (show execSetDetection s = .next u from h)
  | setStation =>
    exact keepsCommands_startStep (fun c _ => keepsCommands_startSetStation c s)
      (show execSetStation s = .next u from h)
  | startStation =>
    exact keepsCommands_startStep (fun c _ => keepsCommands_startStartStation c s)
      (show execStartStation s = .next u from h)
  | stopStation =>
    exact keepsCommands_startStep (fun c _ => keepsCommands_startStopStation c s)
      (show execStopStation s = .next u from h)
  | setLocationLine =>
    exact keepsCommands_startStep (fun c _ => keepsCommands_startSetLocationLine c s)
      (show execSetLocationLine s = .next u from h)
  | setMapCriteria =>
    exact keepsCommands_startStep (fun c _ => keepsCommands_startSetMapCriteria c s)
      (show execSetMapCriteria s = .next u from h)
  | clearCells =>
    exact keepsCommands_startStep (fun c _ => keepsCommands_startClearCells c s)
      (show execClearCells s = .next u from h)
  | copyMap =>
    exact keepsCommands_startStep (fun _ hc => keepsCommands_startCopyMap hc)
      (show execCopyMap s = .next u from h)
  | holdSegment =>
    exact keepsCommands_startStep (fun c _ => keepsCommands_startHoldSegment c s)
      (show execHoldSegment s = .next u from h)
  | releaseHold =>
    exact keepsCommands_startStep (fun c _ => keepsCommands_startReleaseHold c s)
      (show execReleaseHold s = .next u from h)
  | abort =>
    exact keepsCommands_startStep (fun c _ => keepsCommands_startAbort c s)
      (show execAbort s = .next u from h)
  | restart =>
    exact keepsCommands_startStep (fun c _ => keepsCommands_startRestart c s)
      (show execRestart s = .next u from h)
  | setNoticeRing =>
    exact keepsCommands_startStep (fun c _ => keepsCommands_startSetNoticeRing c s)
      (show execSetNoticeRing s = .next u from h)
  | setStatusBlock =>
    exact keepsCommands_startStep (fun c _ => keepsCommands_startSetStatusBlock c s)
      (show execSetStatusBlock s = .next u from h)
  | writeStatus =>
    exact keepsCommands_startStep (fun c _ => keepsCommands_startWriteStatus c s)
      (show execWriteStatus s = .next u from h)

theorem keepsCommands_tick (s : State) : KeepsCommands s (tick s) := by
  unfold tick
  split
  · exact .refl s
  · exact .of_same

theorem keepsCommands_step (h : step s = .next u) : KeepsCommands s u := by
  unfold step at h
  split at h
  · cases h; exact keepsCommands_tick s
  · exact (keepsCommands_exec h).after

end

/-- Settles O58: every operation keeps both laws (`KeepsCommands`), so every step does. -/
theorem commandsKept : Obligations.CommandsKept := fun _ _ h =>
  have hk := keepsCommands_step h
  ⟨hk.commands, hk.ring⟩

end Sys2Proof.Machine
end

section
/-! ## The end of a step (R137, R138, R139, R164) -/

namespace Sys2Proof.Machine

open Sys2Proof.Safety

set_option Elab.async false

/-! ### What `commit` adds -/

section
variable (s u : State)

theorem watchShown_eq :
    watchShown s u = { u with status := { u.status with change := if shown s = shown u then u.status.change else true } } := by
  unfold watchShown
  split <;> rfl

/-- R165: the change flag is nothing that a client's write depends on. -/
theorem clientReady_watchShown : clientReady (watchShown s u) = clientReady u := by
  funext c
  rw [watchShown_eq]
  cases c <;> rfl

theorem clients_eq :
    clients u = [.commandUnit, .noticeWriter, .statusWriter] ++ u.cmd.copies.map fun r => .crackMap r.slot := rfl

/-- The clients that wait and still have a write (R137). -/
def stillWaiting : List (Client × Nat) := u.path.waits.filter fun w => clientReady u w.1

/-- The clients that have a write and do not yet wait (R137). -/
def newlyWaiting : List Client := (clients u).filter fun c => clientReady u c && !(stillWaiting u).any fun w => decide (w.1 = c)

theorem settleWaits_eq :
    settleWaits u = { u with path := { u.path with
      waits := if u.path.own.length < 8 then stillWaiting u
        else stillWaiting u ++ (newlyWaiting u).map fun c => (c, u.path.now)
      now := if u.path.own.length < 8 then u.path.now else u.path.now + 1 } } := by
  unfold settleWaits
  dsimp only
  split
  · rfl
  · rfl

theorem settleStarvation_eq :
    settleStarvation u
      = { u with path := { u.path with starvation := if waitingOwn u = none then 0 else u.path.starvation } } := by
  unfold settleStarvation
  split
  · next w h => simp [h]
  · next h => simp [h]

/-- The end of a step in one record update: the waiting producers, the starvation count, the moment, the change flag. -/
theorem commit_eq :
    commit s u = { u with
      path := { u.path with
        waits := if u.path.own.length < 8 then stillWaiting u
          else stillWaiting u ++ (newlyWaiting u).map fun c => (c, u.path.now)
        starvation := if waitingOwn u = none then 0 else u.path.starvation
        now := if u.path.own.length < 8 then u.path.now else u.path.now + 1 }
      status := { u.status with change := if shown s = shown u then u.status.change else true } } := by
  have hwait : stillWaiting (watchShown s u) = stillWaiting u := by
    unfold stillWaiting
    rw [clientReady_watchShown, watchShown_path]
  have hnew : newlyWaiting (watchShown s u) = newlyWaiting u := by
    unfold newlyWaiting
    rw [clientReady_watchShown, hwait, clients_eq, clients_eq, watchShown_cmd]
  unfold commit
  rw [settleStarvation_eq, settleWaits_eq, hwait, hnew, watchShown_eq]
  rfl

end

/-! ### Own writes that wait (R138, R139) -/

section
variable {u : State}

/-- R139: the transfers that hold an own write back. -/
theorem ownBlocked_iff (w : OwnWrite) :
    ownBlocked u w = true ↔ ∃ a ∈ u.path.accepted, a.unanswered = true ∧ a.stamp < w.id
      ∧ w.addr.toNat < a.t.addr.toNat + 8 * a.t.payload.beats ∧ a.t.addr.toNat < w.addr.toNat + 8 * w.beats.length := by
  simp only [ownBlocked, List.any_eq_true, Bool.and_eq_true, decide_eq_true_eq, spansMeet_iff, and_assoc]
  rfl

/-- R138: the oldest QUEUED own write is the one behind issued ones alone. -/
theorem oldestQueued_iff (w : OwnWrite) :
    u.path.own.find? (fun w => !w.issued) = some w ↔ ∃ front back, u.path.own = front ++ w :: back
      ∧ (∀ x ∈ front, x.issued = true) ∧ w.issued = false := by
  rw [List.find?_eq_some_iff_append]
  simp only [Bool.not_eq_true', Bool.not_not]
  constructor
  · rintro ⟨hw, front, back, he, hf⟩
    exact ⟨front, back, he, hf, hw⟩
  · rintro ⟨front, back, he, hf, hw⟩
    exact ⟨hw, front, back, he, hf⟩

theorem waitingOwn_eq_none :
    waitingOwn u = none ↔ ∀ w, u.path.own.find? (fun w => !w.issued) = some w → ownBlocked u w = true := by
  unfold waitingOwn
  cases u.path.own.find? (fun w => !w.issued) with
  | none => simp
  | some w => simp

/-! ### Clients that have a write, and the places there are (R113, R137, R150, R154, R158, R159, R165, R166) -/

theorem draining_eq_false : draining u = false ↔ ∀ r, u.cmd.restart = some r → r.cleared = true := by
  unfold draining
  cases u.cmd.restart <;> simp

theorem noticeReady_iff :
    noticeReady u = true ↔ u.notices.state = .writing ∧ (∃ r, u.notices.ring = some r ∧ u.notices.u < r.entries)
      ∧ (u.notices.queue ≠ [] ∨ 0 < u.notices.discarded) ∧ ∀ r, u.cmd.restart = some r → r.cleared = true := by
  rw [← draining_eq_false]
  unfold noticeReady
  cases u.notices.ring <;> simp [and_assoc]

theorem statusReady_iff :
    statusReady u = true ↔ u.status.state = .writing
      ∧ (∃ w, u.status.write = some w ∧ w.handed < 8 ∧ w.faulted = false ∧ w.cut = false)
      ∧ ∀ r, u.cmd.restart = some r → r.cleared = true := by
  rw [← draining_eq_false]
  unfold statusReady
  cases u.status.write <;> simp [and_assoc, Config.statusParts]

theorem copyReady_iff (slot : Fin 32) :
    copyReady u slot = true ↔ ∃ r ∈ u.cmd.copies, r.slot = slot ∧ r.stopped = false ∧ r.handed < 24 := by
  simp [copyReady, Config.snapshotWrites, and_assoc]

/-- R137: the entry of a client among those that wait. -/
theorem waits_find_iff (c : Client) (x : Client × Nat) :
    u.path.waits.find? (fun w => decide (w.1 = c)) = some x ↔ ∃ front back n, x = (c, n)
      ∧ u.path.waits = front ++ (c, n) :: back ∧ ∀ w ∈ front, w.1 ≠ c := by
  rw [List.find?_eq_some_iff_append]
  simp only [decide_eq_true_eq, Bool.not_eq_true', decide_eq_false_iff_not]
  constructor
  · rintro ⟨hx, front, back, he, hf⟩
    exact ⟨front, back, x.2, Prod.ext hx rfl, by rw [he, ← hx], hf⟩
  · rintro ⟨front, back, n, rfl, he, hf⟩
    exact ⟨rfl, front, back, he, hf⟩

/-- R137: a place is free for the client that began to wait first, or for any when none waits. -/
theorem placeFor_iff (c : Client) :
    placeFor u c = true ↔ u.path.own.length < 8 ∧ (u.path.waits = [] ∨ ∃ front back n,
      u.path.waits = front ++ (c, n) :: back ∧ (∀ w ∈ front, w.1 ≠ c) ∧ ∀ w ∈ u.path.waits, n ≤ w.2) := by
  have hfind := waits_find_iff (u := u) c
  unfold placeFor
  rw [Bool.and_eq_true, decide_eq_true_eq]
  refine and_congr_right fun _ => ?_
  cases hw : u.path.waits.find? (fun w => decide (w.1 = c)) with
  | none =>
    rw [List.isEmpty_iff]
    refine ⟨.inl, fun h => h.resolve_right ?_⟩
    rintro ⟨front, back, n, he, hf, -⟩
    have := (hfind (c, n)).mpr ⟨front, back, n, rfl, he, hf⟩
    rw [hw] at this
    cases this
  | some x =>
    obtain ⟨front, back, n, rfl, he, hf⟩ := (hfind x).mp hw
    simp only [List.all_eq_true, decide_eq_true_eq]
    refine ⟨fun h => .inr ⟨front, back, n, he, hf, h⟩, ?_⟩
    rintro (hnil | ⟨front', back', n', he', hf', hle⟩)
    · rw [hnil] at he; simp at he
    · have hx := (hfind (c, n')).mpr ⟨front', back', n', rfl, he', hf'⟩
      rw [hw] at hx
      cases hx
      exact hle

/-- R137: a client without a place hands nothing on. -/
theorem mayHandOn_of_no_place {c : Client} (h : placeFor u c = false) : mayHandOn u c = false := by
  simp [mayHandOn, h]

end

/-- Settles O5: `commit` as one record update, and each of the conditions it names. -/
theorem endOfStepFrame : Obligations.EndOfStepFrame := by
  intro s u kept all new
  refine ⟨commit_eq s u, ?_, fun c => ?_, placeFor_iff, fun h => ?_, fun h => ?_, fun h => ?_, fun slot h => ?_⟩
  · rw [waitingOwn_eq_none]
    refine ⟨fun h front w back he hf hw => ?_, fun h w hw => ?_⟩
    · exact (ownBlocked_iff w).mp (h w ((oldestQueued_iff w).mpr ⟨front, back, he, hf, hw⟩))
    · obtain ⟨front, back, he, hf, hi⟩ := (oldestQueued_iff w).mp hw
      exact (ownBlocked_iff w).mpr (h front w back he hf hi)
  · cases c with
    | commandUnit => simp [clientReady]
    | noticeWriter => exact noticeReady_iff
    | statusWriter => exact statusReady_iff
    | crackMap slot => exact copyReady_iff slot
  · exact if_neg (by simp [mayHandOn_of_no_place h])
  · exact if_neg (by simp [mayHandOn_of_no_place h])
  · exact if_neg (by simp [mayHandOn_of_no_place h])
  · exact if_neg (by simp [mayHandOn_of_no_place h])

end Sys2Proof.Machine
end

section
/-! ## The judgment of a cell and the evaluation of a cycle (R94 to R109) -/

namespace Sys2Proof.Machine

open Sys2Proof.Safety

set_option Elab.async false

/-! ### The active test, and the record of its result (R97, R98) -/

section
variable (k : Criteria) (cycle : BitVec 32) (c : Cell)

theorem Cell.active_eq :
    c.active k
      = decide (k.minEvents ≤ c.events ∧ c.events * k.fraction ≤ c.coherent * 16 ∧ k.minEnergy ≤ c.energy) := by
  simp [Cell.active, Bool.and_assoc]

theorem Cell.record_eq (active : Bool) :
    c.record active = { c with
      history := (if 16 ≤ c.history.length then c.history.drop 1 else c.history) ++ [active]
      totalEvents := min 4294967295 (c.totalEvents + c.events)
      totalActive := min 4294967295 (c.totalActive + if active = true then 1 else 0) } := by
  cases active <;> rfl

/-! ### The step of a cell by its state (R99 to R105) -/

variable {k cycle c}

theorem judge_clear (h : c.state = .clear) :
    c.judge k cycle = stepClear k cycle (c.active k) (c.record (c.active k)) := by
  unfold Cell.judge
  dsimp only
  rw [show (c.record (c.active k)).state = .clear from h]

theorem judge_suspect (h : c.state = .suspect) :
    c.judge k cycle = stepSuspect k cycle (c.active k) (c.record (c.active k)) := by
  unfold Cell.judge
  dsimp only
  rw [show (c.record (c.active k)).state = .suspect from h]

theorem judge_confirmed (h : c.state = .confirmed) :
    c.judge k cycle = stepConfirmed k cycle (c.active k) (c.record (c.active k)) := by
  unfold Cell.judge
  dsimp only
  rw [show (c.record (c.active k)).state = .confirmed from h]

theorem judge_fading (h : c.state = .fading) :
    c.judge k cycle = stepFading k cycle (c.active k) (c.record (c.active k)) := by
  unfold Cell.judge
  dsimp only
  rw [show (c.record (c.active k)).state = .fading from h]

theorem stepClear_suspect (h : 1 < k.lock) :
    stepClear k cycle true c = ({ c with state := .suspect, lock := 1, unlock := 0, lastChange := cycle },
      [cycleNotice .suspect c]) := by
  simp only [stepClear, if_neg (Nat.not_le.mpr h), if_true]
  rfl

theorem stepClear_confirmed (h : k.lock ≤ 1) :
    stepClear k cycle true c = ({ c with state := .confirmed, lock := 1, unlock := 0, reference := some c.energy,
                                         lastChange := cycle }, [cycleNotice .confirmed c]) := by
  simp only [stepClear, if_pos h, if_true]
  rfl

theorem stepSuspect_locking (h : min 15 (c.lock + 1) < k.lock) :
    stepSuspect k cycle true c = ({ c with lock := min 15 (c.lock + 1), unlock := 0 }, []) := by
  simp only [stepSuspect, if_neg (Nat.not_le.mpr h), if_true]

theorem stepSuspect_confirmed (h : k.lock ≤ min 15 (c.lock + 1)) :
    stepSuspect k cycle true c = ({ c with state := .confirmed, lock := min 15 (c.lock + 1), unlock := 0,
                                           reference := some c.energy, lastChange := cycle },
      [cycleNotice .confirmed c]) := by
  simp only [stepSuspect, if_pos h, if_true]
  rfl

theorem stepSuspect_waning (h : min 15 (c.unlock + 1) < k.drop) :
    stepSuspect k cycle false c = ({ c with unlock := min 15 (c.unlock + 1) }, []) := by
  simp only [stepSuspect, if_neg (Nat.not_le.mpr h), Bool.false_eq_true, if_false]

theorem stepSuspect_dropped (h : k.drop ≤ min 15 (c.unlock + 1)) :
    stepSuspect k cycle false c = ({ c with state := .clear, lock := 0, unlock := 0, lastChange := cycle },
      [{ kind := .dropped, v1 := c.totalEvents, v2 := c.totalActive, v3 := c.lock }]) := by
  simp only [stepSuspect, if_pos h, Bool.false_eq_true, if_false]

/-- R104, R105: the surge notice of a cycle, by the reference as it stood. -/
def surgeNotices (k : Criteria) (c : Cell) : List CellNotice :=
  if 0 < c.reference.getD 0 ∧ k.surge * c.reference.getD 0 ≤ c.energy then
    [{ kind := .surge, v1 := c.energy, v2 := c.reference.getD 0, v3 := k.surge }] else []

theorem surgeAndUpdate_eq :
    c.surgeAndUpdate k
      = ({ c with reference := some (updateReference (c.reference.getD 0) c.energy) }, surgeNotices k c) := by
  simp [Cell.surgeAndUpdate, surgeNotices, surges]

theorem stepConfirmed_active :
    stepConfirmed k cycle true c
      = ({ c with unlock := 0, reference := some (updateReference (c.reference.getD 0) c.energy) }, surgeNotices k c) := by
  simp only [stepConfirmed, if_true, surgeAndUpdate_eq]
  rfl

theorem stepConfirmed_waning (h : min 15 (c.unlock + 1) < k.fade) :
    stepConfirmed k cycle false c = ({ c with unlock := min 15 (c.unlock + 1) }, []) := by
  simp only [stepConfirmed, if_neg (Nat.not_le.mpr h), Bool.false_eq_true, if_false]

theorem stepConfirmed_fading (h : k.fade ≤ min 15 (c.unlock + 1)) :
    stepConfirmed k cycle false c
      = ({ c with state := .fading, unlock := min 15 (c.unlock + 1), lastChange := cycle },
        [{ kind := .fading, v1 := c.reference.getD 0, v2 := min 15 (c.unlock + 1), v3 := c.totalActive }]) := by
  simp only [stepConfirmed, if_pos h, Bool.false_eq_true, if_false]

theorem stepFading_active :
    stepFading k cycle true c
      = ({ c with state := .confirmed, unlock := 0, lastChange := cycle,
                  reference := some (updateReference (c.reference.getD 0) c.energy) },
        cycleNotice .reactivated c :: surgeNotices k c) := by
  simp only [stepFading, if_true, surgeAndUpdate_eq]
  rfl

end

/-! ### The cells of a station by their ids -/

section
variable {α : Type} {n : Nat} (v : Vector α n)

theorem toList_eq_map_get : v.toList = (List.finRange n).map v.get :=
  List.ext_getElem (by simp) fun i h _ => by simp [Vector.get_eq_getElem]

theorem zipIdx_eq_map_get : v.toList.zipIdx = (List.finRange n).map fun i => (v.get i, i.val) :=
  List.ext_getElem (by simp) fun i h _ => by simp [Vector.get_eq_getElem]

end

section
variable (k : Fin 4) (r : CycleRecord) (cells : Vector Cell 96)

/-- R108: the cells compete in order of their ids. -/
theorem competeEnergy_eq (start : Nat × Option Nat) :
    competeEnergy cells.toList start = (List.finRange 96).foldl
      (fun a i => if a.1 < (cells.get i).energy then ((cells.get i).energy, some i.val) else a) start := by
  rw [competeEnergy, zipIdx_eq_map_get, List.foldl_map]

theorem countCells_eq (st : CellState) :
    countCells cells.toList st = (List.finRange 96).countP fun i => decide ((cells.get i).state = st) := by
  rw [countCells, toList_eq_map_get, List.countP_map]
  rfl

/-- R95, R106: the notices of the cells judged, in order of their ids. -/
theorem cellNotices_eq (criteria : Criteria) :
    cellNotices k r criteria cells = (List.finRange 96).flatMap fun i =>
      ((cells.get i).judge criteria r.number).2.map fun n => mapNotice k r n.kind i.val n.v1 n.v2 n.v3 := by
  rw [cellNotices, zipIdx_eq_map_get, List.flatMap_map]

end

/-! ### The evaluation of a record (R95, R96, R107 to R109) -/

section
variable (k : Fin 4) (r : CycleRecord) (x : Station)

/-- R95, R96: the cells after their judgment, none judged for an INCOMPLETE record. -/
def judgedCells : Vector Cell 96 :=
  if r.incomplete then x.cells else x.cells.map fun c => (c.judge x.criteria r.number).1

/-- R108, R109: the CYCLE_SUMMARY notice at the end of an interval. -/
def summaryNotices : List Notice :=
  if x.settings.summaryInterval ≠ 0 ∧ x.sumCounter - 1 = 0 then
    [summaryNotice k r (x.totals.add x r) (judgedCells r x).toList x.settings.summaryInterval] else []

theorem summarize_eq :
    summarize k r x (judgedCells r x)
      = ({ x with
          totals := if x.settings.summaryInterval = 0 then x.totals
            else if x.sumCounter - 1 = 0 then .zero else x.totals.add x r
          sumCounter := if x.settings.summaryInterval = 0 then x.sumCounter
            else if x.sumCounter - 1 = 0 then x.settings.summaryInterval else x.sumCounter - 1 },
        summaryNotices k r x) := by
  unfold summarize summaryNotices
  dsimp only
  by_cases hk : x.settings.summaryInterval = 0
  · simp [hk]
  · by_cases hn : x.sumCounter - 1 = 0 <;> simp [hk, hn]

/-- R95: cells, station check, summary, tallies zeroed and head removed, and the notices in that order. -/
theorem evaluateStation_eq :
    evaluateStation k r x
      = ({ x with
          cells := (judgedCells r x).map Cell.zeroTally, located := 0, unlocated := 0, boundary := x.boundary.drop 1
          totals := if x.settings.summaryInterval = 0 then x.totals
            else if x.sumCounter - 1 = 0 then .zero else x.totals.add x r
          sumCounter := if x.settings.summaryInterval = 0 then x.sumCounter
            else if x.sumCounter - 1 = 0 then x.settings.summaryInterval else x.sumCounter - 1 },
        (if r.incomplete then [] else cellNotices k r x.criteria x.cells) ++ unlocatedNotices k r x
          ++ summaryNotices k r x) := by
  have hs := summarize_eq k r x
  unfold evaluateStation
  dsimp only
  rw [show (if r.incomplete = true then x.cells else x.cells.map fun c => (c.judge x.criteria r.number).1)
    = judgedCells r x from rfl, hs]
  rfl

theorem evaluate_eq (s : State) :
    evaluate s k r = { s with
      stations := s.stations.set k (evaluateStation k r (s.station k)).1
      notices := (evaluateStation k r (s.station k)).2.foldl NoticeWriter.take s.notices } := by
  unfold evaluate
  rw [handNotices_eq]
  rfl

end

/-- Settles O30: a cell by its state and the active test; a record by the parts of its evaluation, in the order of R95. -/
theorem cellSteps : Obligations.CellSteps := by
  constructor
  · intro k cycle c active c1 moved surge notice
    have hact : c.active k = decide active := c.active_eq k
    have hc1 : c.record (decide active) = c1 := by rw [c.record_eq]; simp [c1]
    have hon (ha : active) : c.active k = true := by rw [hact]; exact decide_eq_true ha
    have hoff (ha : ¬active) : c.active k = false := by rw [hact]; exact decide_eq_false ha
    rw [← hact] at hc1
    refine ⟨?_, ?_, ?_, ?_, ?_, ?_, ?_, ?_, ?_, ?_, ?_, ?_⟩
    · intro hs ha
      rw [judge_clear hs, hc1, hoff ha]; rfl
    · intro hs ha h
      rw [judge_clear hs, hc1, hon ha]; exact stepClear_suspect h
    · intro hs ha h
      rw [judge_clear hs, hc1, hon ha]; exact stepClear_confirmed h
    · intro hs ha h
      rw [judge_suspect hs, hc1, hon ha]; exact stepSuspect_locking h
    · intro hs ha h
      rw [judge_suspect hs, hc1, hon ha]; exact stepSuspect_confirmed h
    · intro hs ha h
      rw [judge_suspect hs, hc1, hoff ha]; exact stepSuspect_waning h
    · intro hs ha h
      rw [judge_suspect hs, hc1, hoff ha]; exact stepSuspect_dropped h
    · intro hs ha
      rw [judge_confirmed hs, hc1, hon ha]; exact stepConfirmed_active
    · intro hs ha h
      rw [judge_confirmed hs, hc1, hoff ha]; exact stepConfirmed_waning h
    · intro hs ha h
      rw [judge_confirmed hs, hc1, hoff ha]; exact stepConfirmed_fading h
    · intro hs ha
      rw [judge_fading hs, hc1, hon ha]; exact stepFading_active
    · intro hs ha
      rw [judge_fading hs, hc1, hoff ha]; rfl
  · intro s k r x K note judged best t count cellNotes unlocated summary
    have ht : x.totals.add x r = t := by rw [Totals.add, competeEnergy_eq]; rfl
    have hcells : (if r.incomplete = true then [] else Machine.cellNotices k r x.criteria x.cells) = cellNotes := by
      rw [cellNotices_eq]; rfl
    have hunlocated : unlocatedNotices k r x = unlocated := by
      simp only [unlocatedNotices, Bool.and_eq_true, Bool.not_eq_true', decide_eq_true_eq, and_assoc, Nat.pos_iff_ne_zero,
        unlocated]
      rfl
    have hsummary : summaryNotices k r x = summary := by
      rw [summaryNotices, ht, summaryNotice, countCells_eq, countCells_eq, countCells_eq]; rfl
    rw [evaluate_eq, evaluateStation_eq]
    dsimp only
    rw [show s.station k = x from rfl, hcells, hunlocated, hsummary, ht]
    rfl

end Sys2Proof.Machine
end

section
/-! ## Set Map Criteria and Clear Cells (R90 to R92, R110, R111) -/

namespace Sys2Proof.Machine

open Sys2Proof.Safety

set_option Elab.async false

/-! ### Set Map Criteria (R91, R92) -/

/-- R92: a record that names a station replaces its criteria, clamped, and completes with the count of clamped fields. -/
theorem startSetMapCriteria_takes {s : State} {c : Cmd} {k : Fin 4} (h4 : u8 c.bytes.toList 4 = k.val) :
    let l := c.bytes.toList
    let cr : Criteria :=
      { minEvents := max 1 (min 255 (u8 l 5)), fraction := min 16 (u8 l 6), minEnergy := u32 l 12,
        lock := max 1 (min 15 (u8 l 7)), drop := max 1 (min 15 (u8 l 8)), fade := max 1 (min 15 (u8 l 9)),
        surge := max 2 (min 15 (u8 l 10)) }
    startSetMapCriteria c s = complete (s.onStation k fun x => { x with criteria := cr }) c.slot
      (countClamped (u8 l 5) cr.minEvents + countClamped (u8 l 6) cr.fraction + countClamped (u8 l 7) cr.lock
        + countClamped (u8 l 8) cr.drop + countClamped (u8 l 9) cr.fade + countClamped (u8 l 10) cr.surge) := by
  simp only [startSetMapCriteria, h4, stationOf_val, clampNat_zero]
  rfl

/-- Settles O45: a record that names a station is taken, each field clamped by itself. -/
theorem mapCriteriaSet : Obligations.MapCriteriaSet := by
  intro s c k hl hs l h4 ev f lock drop fade surge
  have h := startStep_completes (f := startSetMapCriteria) hl hs (startSetMapCriteria_takes h4) rfl
  simp only [countClamped, State.onStation, State.setStation] at h
  exact h

/-! ### Clear Cells (R90, R110, R111) -/

/-- R111: the cells that a line and a cell code name. -/
theorem clearNames_iff {line cell j : Nat} :
    clearNames line cell j = true ↔ (line = 255 ∨ j / 32 = line) ∧ (cell = 255 ∨ j % 32 = cell) := by
  simp [clearNames]

theorem clearCells_get (cells : Vector Cell 96) (line cell : Nat) (j : Fin 96) :
    (clearCells cells line cell).get j = if clearNames line cell j.val then .cleared else cells.get j := by
  simp [clearCells, Vector.get_eq_getElem]

/-- R111: the named cells that were not CLEAR, counted by their ids. -/
theorem countNamed_eq (cells : Vector Cell 96) (line cell : Nat) :
    countNamed cells line cell
      = (List.finRange 96).countP fun j => clearNames line cell j.val && decide ((cells.get j).state ≠ .clear) := by
  rw [countNamed, zipIdx_eq_map_get, List.countP_map]
  rfl

/-- R110, R111: a record whose codes are in range clears what they name and completes with the count. -/
theorem startClearCells_takes {s : State} {c : Cmd} {k : Fin 4} (h4 : u8 c.bytes.toList 4 = k.val)
    (h5 : u8 c.bytes.toList 5 ≤ 2 ∨ u8 c.bytes.toList 5 = 255)
    (h6 : u8 c.bytes.toList 6 ≤ 31 ∨ u8 c.bytes.toList 6 = 255) :
    startClearCells c s = complete (s.onStation k fun x =>
        { x with cells := clearCells x.cells (u8 c.bytes.toList 5) (u8 c.bytes.toList 6) }) c.slot
      (countNamed (s.station k).cells (u8 c.bytes.toList 5) (u8 c.bytes.toList 6)) := by
  have hrange : ¬((u8 c.bytes.toList 5 ≠ 0xFF ∧ 2 < u8 c.bytes.toList 5)
      ∨ (u8 c.bytes.toList 6 ≠ 0xFF ∧ 31 < u8 c.bytes.toList 6)) := by omega
  simp only [startClearCells, h4, stationOf_val, if_neg hrange]

/-- Settles O46: the cells cleared are those that the codes name, and each is counted by its state before. -/
theorem cellsCleared : Obligations.CellsCleared := by
  intro s c k hl hs l h4 h5 h6 named
  refine ⟨clearCells (s.station k).cells (u8 l 5) (u8 l 6), fun j => ⟨fun hj => ?_, fun hj => ?_⟩, ?_⟩
  · rw [clearCells_get, if_pos (clearNames_iff.mpr hj)]
  · rw [clearCells_get, if_neg fun h => hj (clearNames_iff.mp h)]
  · have h := startStep_completes (f := startClearCells) hl hs (startClearCells_takes h4 h5 h6) rfl
    rw [countNamed_eq] at h
    exact h

end Sys2Proof.Machine
end

section
/-! ## Fields read out of a record that is written field by field (10 10.3 to 10.6) -/

namespace Sys2Proof.Machine

set_option Elab.async false

section
variable {a b : List Byte} {i n : Nat}

theorem le_bytes_length (n v : Nat) : (le n v).length = n := by
  induction n generalizing v with
  | zero => rfl
  | succ n ih => exact congrArg Nat.succ (ih (v / 256))

theorem byteAt_append_left (h : i < a.length) : byteAt (a ++ b) i = byteAt a i := by
  simp [byteAt, List.getElem?_append_left h]

theorem byteAt_append_right (h : a.length ≤ i) : byteAt (a ++ b) i = byteAt b (i - a.length) := by
  simp [byteAt, List.getElem?_append_right h]

theorem u8_append_left (h : i < a.length) : u8 (a ++ b) i = u8 a i := by rw [u8, byteAt_append_left h, u8]

theorem u8_append_right (h : a.length ≤ i) : u8 (a ++ b) i = u8 b (i - a.length) := by rw [u8, byteAt_append_right h, u8]

theorem u16_append_left (h : i + 1 < a.length) : u16 (a ++ b) i = u16 a i := by
  rw [u16, u8_append_left (by omega), u8_append_left h, u16]

theorem u16_append_right (h : a.length ≤ i) : u16 (a ++ b) i = u16 b (i - a.length) := by
  rw [u16, u8_append_right h, u8_append_right (by omega), u16, Nat.sub_add_comm h]

theorem u32_append_left (h : i + 3 < a.length) : u32 (a ++ b) i = u32 a i := by
  rw [u32, u16_append_left (by omega), u16_append_left h, u32]

theorem u32_append_right (h : a.length ≤ i) : u32 (a ++ b) i = u32 b (i - a.length) := by
  rw [u32, u16_append_right h, u16_append_right (by omega), u32, Nat.sub_add_comm h]

theorem u8_le (n v : Nat) : u8 (le (n + 1) v) 0 = v % 256 := BitVec.toNat_ofNat v 8

theorem u16_le (n v : Nat) : u16 (le (n + 2) v) 0 = v % 65536 := by
  show (BitVec.ofNat 8 v).toNat + 256 * (BitVec.ofNat 8 (v / 256)).toNat = v % 65536
  simp only [BitVec.toNat_ofNat]
  omega

theorem u32_le (n v : Nat) : u32 (le (n + 4) v) 0 = v % 4294967296 := by
  show (BitVec.ofNat 8 v).toNat + 256 * (BitVec.ofNat 8 (v / 256)).toNat
      + 65536 * ((BitVec.ofNat 8 (v / 256 / 256)).toNat + 256 * (BitVec.ofNat 8 (v / 256 / 256 / 256)).toNat)
      = v % 4294967296
  simp only [BitVec.toNat_ofNat]
  omega

end

end Sys2Proof.Machine
end

section
/-! ## The end of one command, and the own writes and Copy Maps that are one's own (R112, R137, R146, R150) -/

namespace Sys2Proof.Machine

open Sys2Proof.Safety

set_option Elab.async false

theorem find?_eq_some_of_unique {α : Type} {l : List α} {p : α → Bool} {a : α} (ha : a ∈ l) (hp : p a = true)
    (hu : ∀ x ∈ l, p x = true → x = a) : l.find? p = some a := by
  cases h : l.find? p with
  | none => exact absurd hp (by simpa using List.find?_eq_none.mp h a ha)
  | some b => rw [hu b (List.mem_of_find?_eq_some h) (List.find?_some h)]

section
variable {s : State} {c : Cmd} {r : CopyRun} {w : OwnWrite}

/-- R150: the command of a slot is decided; it awaits the own writes given, or joins the completion list. -/
theorem decideCmd_eq (res : Result) (d : BitVec 16) (awaiting : List Nat) (h : s.cmdAt c.slot = some c) :
    decideCmd s c.slot res d awaiting = { s with cmd := { s.cmd with
      queue := setCmdState s.cmd.queue c.slot (.finishing res d awaiting)
      completions := if awaiting = [] then s.cmd.completions ++
          [{ slot := c.slot, bytes := c.bytes, result := res, detail := detailOf s c.slot d }]
        else s.cmd.completions } } := by
  cases awaiting <;> simp [decideCmd, h]

/-- R112: the Copy Map under way is the one found in its slot. -/
theorem find_copy (hl : CommandLaw s) (hr : r ∈ s.cmd.copies) :
    s.cmd.copies.find? (fun x => decide (x.slot = r.slot)) = some r := by
  obtain ⟨-, -, hn, -⟩ := hl
  exact find?_eq_some_of_unique hr (by simp) fun x hx he =>
    List.inj_on_of_nodup_map hn hx hr (of_decide_eq_true he)

/-- R114: a command with a Copy Map carries the count of the writes answered DONE. -/
theorem detailOf_copy (hl : CommandLaw s) (hr : r ∈ s.cmd.copies) (d : BitVec 16) :
    detailOf s r.slot d = BitVec.ofNat 16 r.done := by
  unfold detailOf
  rw [find_copy hl hr]

/-- R114, R150: the end of a command with a Copy Map. -/
theorem decideCmd_copy (hl : CommandLaw s) (hr : r ∈ s.cmd.copies) (hc : s.cmdAt r.slot = some c)
    (hslot : c.slot = r.slot) (res : Result) (d : BitVec 16) (awaiting : List Nat) :
    decideCmd s r.slot res d awaiting = { s with cmd := { s.cmd with
      queue := setCmdState s.cmd.queue c.slot (.finishing res d awaiting)
      completions := if awaiting = [] then s.cmd.completions ++
          [{ slot := c.slot, bytes := c.bytes, result := res, detail := BitVec.ofNat 16 r.done }]
        else s.cmd.completions } } := by
  rw [← hslot] at hc ⊢
  rw [decideCmd_eq res d awaiting hc, hslot, detailOf_copy hl hr]

/-- R112: what changes the Copy Map of a slot changes one Copy Map. -/
theorem onCopy_eq (hl : CommandLaw s) (hr : r ∈ s.cmd.copies) (f : CopyRun → CopyRun) :
    onCopy s r.slot f
      = { s with cmd := { s.cmd with copies := s.cmd.copies.map fun x => if x.slot = r.slot then f r else x } } := by
  obtain ⟨-, -, hn, -⟩ := hl
  have hcopies : (s.cmd.copies.map fun x => if x.slot = r.slot then f x else x)
      = s.cmd.copies.map fun x => if x.slot = r.slot then f r else x := by
    refine List.map_congr_left fun x hx => ?_
    split
    · next he => rw [List.inj_on_of_nodup_map hn hx hr he]
    · rfl
  unfold onCopy
  rw [hcopies]

theorem mem_onCopy (hr : r ∈ s.cmd.copies) (f : CopyRun → CopyRun) : f r ∈ (onCopy s r.slot f).cmd.copies :=
  List.mem_map.mpr ⟨r, hr, if_pos rfl⟩

/-- R137: own writes carry numbers of their own. -/
theorem find_own (hp : PathLaw s) (hw : w ∈ s.path.own) (hi : w.issued = true) :
    s.path.own.find? (fun x => decide (x.id = w.id) && x.issued) = some w := by
  obtain ⟨-, hn, -⟩ := hp
  refine find?_eq_some_of_unique hw (by simp [hi]) fun x hx he => ?_
  rw [Bool.and_eq_true, decide_eq_true_eq] at he
  exact List.inj_on_of_nodup_map hn hx hw he.1

end

end Sys2Proof.Machine
end

section
/-! ## Copy Map (R112 to R114) -/

namespace Sys2Proof.Machine

open Sys2Proof.Safety

set_option Elab.async false

/-! ### The start and the hand-on of snapshot writes (R112, R113) -/

theorem startCopyMap_takes {s : State} {c : Cmd} {k : Fin 4} (h4 : u8 c.bytes.toList 4 = k.val)
    (h8 : u32 c.bytes.toList 8 % 4096 = 0)
    (hw : windowClash s (u32 c.bytes.toList 8) 3072 (fun _ => false) (fun _ => false) = false) :
    startCopyMap c s = { s with cmd := { running s.cmd c with
      copies := s.cmd.copies ++ [{ slot := c.slot, dest := BitVec.ofNat 32 (u32 c.bytes.toList 8),
                                   snapshot := (s.station k).cells, handed := 0, done := 0, stopped := false }] } } := by
  simp only [startCopyMap, h4, stationOf_val, h8, hw, ne_eq, not_true_eq_false, Bool.false_eq_true, if_false]
  rfl

/-- R112: the started command runs on, so nothing completes within its start. -/
theorem execCopyMap_starts {s : State} {c : Cmd} {k : Fin 4} (hl : CommandLaw s) (hs : Starts s c 0x0C)
    (h4 : u8 c.bytes.toList 4 = k.val) (h8 : u32 c.bytes.toList 8 % 4096 = 0)
    (hw : windowClash s (u32 c.bytes.toList 8) 3072 (fun _ => false) (fun _ => false) = false) :
    exec .copyMap s = .next (commit s (startCopyMap c s)) := by
  have hrun : (startCopyMap c s).cmdAt c.slot = some { c with state := .running } := by
    rw [startCopyMap_takes h4 h8 hw]
    exact cmdAt_running hl hs.1 (u := { s with cmd := running s.cmd c }) rfl
  rw [show exec .copyMap s = _ from startStep_of_starts (f := startCopyMap) hs, completeStarted_running hrun rfl]

theorem execSnapshotWriteHandOn_hands {s : State} {r : CopyRun} (ho : OutOfReset s)
    (hp : placeFor s (.crackMap r.slot) = true)
    (hr : s.cmd.copies.find? (fun x => decide (x.slot = r.slot)) = some r) (hst : r.stopped = false)
    (hh : r.handed < 24) :
    exec (.snapshotWriteHandOn r.slot) s = .next (commit s (onCopy
      (handOn s (.crackMap r.slot) (r.dest + BitVec.ofNat 32 (128 * r.handed)) (beatsOf 16 (snapshotBytes r r.handed)))
      r.slot fun x => { x with handed := x.handed + 1 })) := by
  have hready : copyReady s r.slot = true :=
    (copyReady_iff r.slot).mpr ⟨r, List.mem_of_find?_eq_some hr, rfl, hst, hh⟩
  have hmay : mayHandOn s (.crackMap r.slot) = true := by
    simp [mayHandOn, clientReady, show s.path.resetLow = false from ho, hp, hready]
  show execSnapshotWriteHandOn r.slot s = _
  simp only [execSnapshotWriteHandOn, hmay, hr, if_true]

/-! ### The answers to snapshot writes (R114) -/

section
variable {s : State} {c : Cmd} {r : CopyRun} (hl : CommandLaw s) (hr : r ∈ s.cmd.copies) (hc : s.cmdAt r.slot = some c)
include hl hr hc

/-- R114: a DONE that is not the twenty-fourth of a RUNNING command adds to the count. -/
theorem copyAnswered_counts (h : r.done ≠ 23 ∨ c.state ≠ .running) :
    copyAnswered s r.slot .done = onCopy s r.slot fun x => { x with done := x.done + 1 } := by
  have hfind := find_copy ((keepsCommands_onCopy s r.slot (fun x => { x with done := x.done + 1 }) fun _ => rfl).commands hl)
    (mem_onCopy hr _)
  have hc1 : (onCopy s r.slot fun x => { x with done := x.done + 1 }).cmdAt r.slot = some c := hc
  unfold copyAnswered
  dsimp only at hfind ⊢
  rw [hfind, hc1]
  exact if_neg fun ⟨hd, hst⟩ => h.elim (fun hn => hn (Nat.succ.inj hd)) fun hn => hn hst

/-- R114: the twenty-fourth DONE of a RUNNING command completes it. -/
theorem copyAnswered_last (hd : r.done = 23) (hst : c.state = .running) :
    copyAnswered s r.slot .done
      = decideCmd (onCopy s r.slot fun x => { x with done := x.done + 1 }) r.slot .done 24 [] := by
  have hfind := find_copy ((keepsCommands_onCopy s r.slot (fun x => { x with done := x.done + 1 }) fun _ => rfl).commands hl)
    (mem_onCopy hr _)
  have hc1 : (onCopy s r.slot fun x => { x with done := x.done + 1 }).cmdAt r.slot = some c := hc
  unfold copyAnswered
  dsimp only at hfind ⊢
  rw [hfind, hc1]
  exact if_pos ⟨congrArg Nat.succ hd, hst⟩

omit hl hr in
/-- R114: a FAULT stops the Copy Map, and decides a command that is RUNNING. -/
theorem copyAnswered_fault :
    copyAnswered s r.slot .fault =
      if c.state = .running then
        decideCmd (onCopy s r.slot fun x => { x with stopped := true }) r.slot .fault 0 (ownIds s (.crackMap r.slot))
      else onCopy s r.slot fun x => { x with stopped := true } := by
  have hc1 : (onCopy s r.slot fun x => { x with stopped := true }).cmdAt r.slot = some c := hc
  unfold copyAnswered
  dsimp only
  rw [hc1]
  rfl

end

/-- R139, R140: what memory's answer does to the path unit. -/
theorem answered_eq (p : Path) (w : OwnWrite) :
    { p with own := p.own.filter fun x => decide (x.id ≠ w.id), accepted := p.accepted.map (Accepted.release w.id) }
      = answered p w := by
  unfold answered
  congr 1
  refine List.map_congr_left fun a _ => ?_
  unfold Accepted.release
  cases a.phase <;> simp

/-- R140: memory answers an own write, and its producer hears of it. -/
theorem execOwnWriteResponse_answers {s : State} {w : OwnWrite} (hp : PathLaw s) (ho : OutOfReset s)
    (hw : w ∈ s.path.own) (hi : w.issued = true) (res : Response) :
    exec (.ownWriteResponse w.id res) s
      = .next (commit s (settleAwaiting (reportOwn { s with path := answered s.path w } w res) w.id)) := by
  show execOwnWriteResponse w.id res s = _
  unfold execOwnWriteResponse
  rw [find_own hp hw hi]
  dsimp only
  rw [if_neg (by simp [show s.path.resetLow = false from ho]), answerOwn, answered_eq]

/-! ### The record of a cell (10.5) -/

/-- The oldest flag of a history stands in bit 0. -/
theorem historyBits_testBit (h : List Bool) (k : Nat) : historyBits h / 2 ^ k % 2 = 1 ↔ h[k]? = some true := by
  induction h generalizing k with
  | nil => simp [historyBits]
  | cons b rest ih =>
    cases k with
    | zero => cases b <;> simp [historyBits]
    | succ k =>
      have hdiv : historyBits (b :: rest) / 2 = historyBits rest := by
        show (b.toNat + 2 * historyBits rest) / 2 = historyBits rest
        have hb := b.toNat_lt
        omega
      rw [pow_succ', ← Nat.div_div_eq_div_mul, hdiv, ih]
      simp

theorem mod_65536_bit (v : Nat) {k : Nat} (hk : k < 16) : v % 65536 / 2 ^ k % 2 = 1 ↔ v / 2 ^ k % 2 = 1 := by
  have h := Nat.testBit_mod_two_pow v 16 k
  simpa [Nat.testBit_eq_decide_div_mod_eq, hk] using h

theorem cellBytes_state (c : Cell) : u8 (cellBytes c) 0 = c.state.code % 256 := by
  simp [cellBytes, u8_append_left, le_bytes_length, u8_le]

theorem cellBytes_history (c : Cell) : u16 (cellBytes c) 4 = historyBits c.history % 65536 := by
  simp [cellBytes, u16_append_left, u16_append_right, le_bytes_length, u16_le]

/-- Settles O47: the start, the hand-on, the four answers, and the fields of a cell record read out of its bytes. -/
theorem copyMapRuns : Obligations.CopyMapRuns := by
  refine ⟨fun s c k hl hs h4 h8 hw => ?_, fun s r ho hp hr hst hh => ?_, ?_, ?_⟩
  · rw [execCopyMap_starts hl hs h4 h8 hw, startCopyMap_takes h4 h8 hw]
  · exact execSnapshotWriteHandOn_hands ho hp hr hst hh
  · intro s w r c hl hp ho hw hi hprod hr hcq hslot copies after left
    have hl1 : CommandLaw { s with path := answered s.path w } := hl
    have hc1 : State.cmdAt { s with path := answered s.path w } r.slot = some c := hslot ▸ cmdAt_of_mem hl hcq
    have hreport (res : Response) : exec (.ownWriteResponse w.id res) s
        = .next (commit s (settleAwaiting (copyAnswered { s with path := answered s.path w } r.slot res) w.id)) := by
      rw [execOwnWriteResponse_answers hp ho hw hi, reportOwn, hprod]
    have hends (f : CopyRun → CopyRun) (hf : ∀ x, (f x).slot = x.slot) (res : Result) (d : BitVec 16) (aw : List Nat) :=
      decideCmd_copy ((keepsCommands_onCopy _ r.slot f hf).commands hl1) (mem_onCopy hr f) (c := c) (by rw [hf]; exact hc1)
        (hslot.trans (hf r).symm) res d aw
    refine ⟨fun h => ?_, fun hd hst => ?_, fun hst => ?_, fun hst => ?_⟩
    · rw [hreport, copyAnswered_counts hl1 hr hc1 h, onCopy_eq hl1 hr]
    · have h := hends (fun x => { x with done := x.done + 1 }) (fun _ => rfl) .done 24 []
      rw [hreport, copyAnswered_last hl1 hr hc1 hd hst, h, onCopy_eq hl1 hr]
      simp only [hd]
      rfl
    · rw [hreport, copyAnswered_fault hc1, if_neg hst, onCopy_eq hl1 hr]
    · have hleft : ownIds { s with path := answered s.path w } (.crackMap r.slot) = left := by
        simp only [ownIds, answered, List.filter_filter, ← Bool.decide_and, and_comm, left]
      have h := hends (fun x => { x with stopped := true }) (fun _ => rfl) .fault 0 left
      rw [hreport, copyAnswered_fault hc1, if_pos hst, hleft, h, onCopy_eq hl1 hr]
  · intro c b
    refine ⟨?_, ?_, ?_, ?_, ?_, fun k hk => ?_, ?_, ?_, ?_, ?_, ?_, ?_, ?_, ?_⟩
    case refine_2 => rw [show u8 b 0 = _ from cellBytes_state c]; cases c.state <;> rfl
    case refine_6 =>
      rw [show u16 b 4 = _ from cellBytes_history c, mod_65536_bit _ hk, historyBits_testBit]
    all_goals
      simp [b, cellBytes, u8_append_left, u8_append_right, u16_append_left, u16_append_right, u32_append_left,
        u32_append_right, le_bytes_length, u8_le, u16_le, u32_le, Nat.mod_eq_of_lt c.lastChange.isLt]

end Sys2Proof.Machine
end

section
/-! ## Abort (R152): what it does to a target -/

namespace Sys2Proof.Machine

open Sys2Proof.Safety

set_option Elab.async false

/-- The command unit once command `d` is decided ABORTED: it awaits the own writes `left`, or with none joins the
completion list with `detail` (R150, R152). -/
def abortedUnit (u : CommandUnit) (d : Cmd) (left : List Nat) (detail : BitVec 16) : CommandUnit := { u with
  queue := setCmdState u.queue d.slot (.finishing .aborted 0 left)
  completions := if left = [] then u.completions ++
      [{ slot := d.slot, bytes := d.bytes, result := .aborted, detail := detail }] else u.completions }

section
variable {u : State} {d : Cmd} (hl : CommandLaw u) (hd : d ∈ u.cmd.queue)
include hl hd

/-- R150: a command without a Copy Map is decided ABORTED with detail 0, whatever else has changed. -/
theorem decideCmd_aborted {v : State} (hv : v.cmd = u.cmd) (hn : ∀ x ∈ u.cmd.copies, x.slot ≠ d.slot) (left : List Nat) :
    decideCmd v d.slot .aborted 0 left = { v with cmd := abortedUnit u.cmd d left 0 } := by
  have hc : v.cmdAt d.slot = some d := by unfold State.cmdAt; rw [hv]; exact cmdAt_of_mem hl hd
  rw [decideCmd_eq .aborted 0 left hc, detailOf_eq v d.slot 0 (by rw [hv]; exact hn), hv]
  rfl

/-- R152: a QUEUED target. -/
theorem abortTarget_queued (hst : d.state = .queued) : abortTarget u d = { u with cmd := abortedUnit u.cmd d [] 0 } := by
  unfold abortTarget
  rw [hst]
  exact decideCmd_aborted hl hd rfl (no_copy_of_queued hl hd hst) []

omit hl hd in
/-- The test found for a slot is that slot's. -/
theorem testLaneOf_slot {slot : Fin 32} {i : Fin 16} {r : TestRun} (h : testLaneOf u slot = some i)
    (ht : (u.lane i).test = some r) : r.slot = slot := by
  have hp := List.find?_some h
  rw [ht] at hp
  exact of_decide_eq_true hp

omit hl hd in
theorem abortTarget_test_eq {i : Fin 16} (hst : d.state = .running) (hk : kindCode d.bytes = 0x04)
    (hi : testLaneOf u d.slot = some i) : abortTarget u d = endTest u i .aborted := by
  simp only [abortTarget, hst, hk, hi]

/-- R152: a RUNNING Test Lane, whose test ends ABORTED. -/
theorem abortTarget_testLane {i : Fin 16} {r : TestRun} (hst : d.state = .running) (hk : kindCode d.bytes = 0x04)
    (hn : ∀ x ∈ u.cmd.copies, x.slot ≠ d.slot) (hi : testLaneOf u d.slot = some i) (ht : (u.lane i).test = some r) :
    abortTarget u d = { u.setLane i ((u.lane i).afterTest r .aborted) with cmd := abortedUnit u.cmd d [] 0 } := by
  have hslot := testLaneOf_slot hi ht
  rw [abortTarget_test_eq hst hk hi, endTest_ended hl rfl ht hd hslot.symm (hslot ▸ hn)]
  rfl

/-- R114, R152: a RUNNING Copy Map is stopped, and its detail is the count of its writes answered DONE. -/
theorem abortTarget_copy {r : CopyRun} (hst : d.state = .running) (hk : kindCode d.bytes = 0x0C)
    (hr : u.cmd.copies.find? (fun x => decide (x.slot = d.slot)) = some r) :
    abortTarget u d = { u with cmd := { abortedUnit u.cmd d (ownIds u (.crackMap d.slot)) (BitVec.ofNat 16 r.done) with
      copies := u.cmd.copies.map fun x => if x.slot = d.slot then { x with stopped := true } else x } } := by
  have hslot : r.slot = d.slot := by simpa using List.find?_some hr
  have hmem := List.mem_of_find?_eq_some hr
  have hc : u.cmd.queue.find? (fun x => decide (x.slot = r.slot)) = some d := by rw [hslot]; exact cmdAt_of_mem hl hd
  have h := decideCmd_copy ((keepsCommands_onCopy u r.slot (fun x => { x with stopped := true }) fun _ => rfl).commands hl)
    (mem_onCopy hmem fun x => { x with stopped := true }) (c := d) hc
    hslot.symm .aborted 0 (ownIds u (.crackMap d.slot))
  rw [hslot] at h
  simp only [abortTarget, hst, hk, abortCopy]
  exact h

omit hl hd in
theorem abortTarget_status_eq (hst : d.state = .running) (hk : kindCode d.bytes = 0x13) :
    abortTarget u d = abortWriteStatus u d.slot := by
  simp only [abortTarget, hst, hk]

/-- R152: a RUNNING Write Status that waits for the writer leaves the waiting commands. -/
theorem abortWriteStatus_waiting (hn : ∀ x ∈ u.cmd.copies, x.slot ≠ d.slot) (hw : d.slot ∈ u.status.waiting) :
    abortWriteStatus u d.slot = { u with
      cmd := abortedUnit u.cmd d (carriedIds u d.slot) 0
      status := { u.status with waiting := u.status.waiting.erase d.slot } } := by
  unfold abortWriteStatus
  rw [if_pos (List.contains_iff_mem.2 hw)]
  exact decideCmd_aborted hl hd (by rfl) hn _

/-- R166: a RUNNING Write Status that neither waits nor is served awaits only parts of a cut write. -/
theorem abortWriteStatus_carried (hn : ∀ x ∈ u.cmd.copies, x.slot ≠ d.slot) (hw : d.slot ∉ u.status.waiting)
    (hs : u.status.write = none) :
    abortWriteStatus u d.slot = { u with cmd := abortedUnit u.cmd d (carriedIds u d.slot) 0 } := by
  unfold abortWriteStatus
  rw [if_neg (mt List.contains_iff_mem.1 hw), hs]
  exact decideCmd_aborted hl hd rfl hn _

/-- The write of the status block after an Abort of one of its commands: whether it is then cut short (R152). -/
def StatusWrite.without (w : StatusWrite) (slot : Fin 32) (cutNow : Bool) : StatusWrite :=
  { w with served := w.served.erase slot, cut := w.cut || cutNow }

/-- R152: a RUNNING Write Status with a write in progress leaves the served commands, and a write of reason COMMAND that
then serves none is cut short and settled. -/
theorem abortWriteStatus_served (hn : ∀ x ∈ u.cmd.copies, x.slot ≠ d.slot) (hw : d.slot ∉ u.status.waiting)
    {w : StatusWrite} (hs : u.status.write = some w) {cutNow : Bool}
    (hcut : (!w.scheduled && (w.served.erase d.slot).isEmpty) = cutNow) :
    abortWriteStatus u d.slot =
      let v : State := { u with
        cmd := abortedUnit u.cmd d (ownIds u (.statusWriter true) ++ carriedIds u d.slot) 0
        status := { u.status with write := some (w.without d.slot cutNow), change := u.status.change || cutNow } }
      if cutNow then settleStatusWrite v else v := by
  unfold abortWriteStatus
  rw [if_neg (mt List.contains_iff_mem.1 hw), hs]
  dsimp only
  rw [decideCmd_aborted hl hd rfl hn, hcut]
  rfl

omit hl hd in
/-- R152, R166: an aborted write with a part unanswered does not end yet. -/
theorem settleStatusWrite_unanswered {w : StatusWrite} (hs : u.status.write = some w) (ha : w.answered < w.handed) :
    settleStatusWrite u = u := by
  have hne : w.ended = false := by simp [StatusWrite.ended, ha]
  simp [settleStatusWrite, hs, hne]

omit hl hd in
/-- R152, R166: a cut write that serves no command and whose parts are all answered, none with a FAULT, leaves the writer
IDLE. -/
theorem settleStatusWrite_answered {w : StatusWrite} (hs : u.status.write = some w) (hcut : w.cut = true)
    (hserved : w.served = []) (ha : w.handed ≤ w.answered) (hf : w.faulted = false) :
    settleStatusWrite u = { u with status := { u.status with state := .idle, write := none } } := by
  have he : w.ended = true := by simp [StatusWrite.ended, hcut, ha]
  simp [settleStatusWrite, hs, he, hf, hserved, decideAll]

/-- R152: what an Abort does to a RUNNING Write Status of a write in progress, by what the write is then left with. -/
theorem abortTarget_served (hst : d.state = .running) (hk : kindCode d.bytes = 0x13)
    (hn : ∀ x ∈ u.cmd.copies, x.slot ≠ d.slot) (hw : d.slot ∉ u.status.waiting) {w : StatusWrite}
    (hs : u.status.write = some w) :
    let parts := ownIds u (.statusWriter true) ++ carriedIds u d.slot
    let served := w.served.erase d.slot
    (w.scheduled = true ∨ served ≠ [] → abortTarget u d = { u with
      cmd := abortedUnit u.cmd d parts 0, status := { u.status with write := some { w with served := served } } })
    ∧ (w.scheduled = false → served = [] → w.answered < w.handed → abortTarget u d = { u with
      cmd := abortedUnit u.cmd d parts 0
      status := { u.status with change := true, write := some { w with served := [], cut := true } } })
    ∧ (w.scheduled = false → served = [] → w.handed ≤ w.answered → w.faulted = false → abortTarget u d = { u with
      cmd := abortedUnit u.cmd d parts 0, status := { u.status with change := true, write := none, state := .idle } }) := by
  intro parts served
  rw [abortTarget_status_eq hst hk]
  refine ⟨fun h => ?_, fun hsch he ha => ?_, fun hsch he ha hf => ?_⟩
  · have hkeep : (!w.scheduled && served.isEmpty) = false := by
      rcases h with h | h
      · simp [h]
      · simp [h]
    rw [abortWriteStatus_served hl hd hn hw hs hkeep]
    simp [StatusWrite.without, served, parts]
  · have hcut : (!w.scheduled && served.isEmpty) = true := by simp [hsch, he]
    rw [abortWriteStatus_served hl hd hn hw hs hcut, if_pos rfl]
    refine (settleStatusWrite_unanswered (w := w.without d.slot true) (by rfl) ha).trans ?_
    simp [StatusWrite.without, show w.served.erase d.slot = [] from he, parts]
  · have hcut : (!w.scheduled && served.isEmpty) = true := by simp [hsch, he]
    rw [abortWriteStatus_served hl hd hn hw hs hcut, if_pos rfl]
    have hw1 : (w.without d.slot true).cut = true := Bool.or_true _
    refine (settleStatusWrite_answered (by rfl) hw1 he ha hf).trans ?_
    simp [parts]

end

end Sys2Proof.Machine
end
section
/-! ## Abort (R152): its targets, and the proof of O50 -/

namespace Sys2Proof.Machine

open Sys2Proof.Safety

set_option Elab.async false

/-! ### A command that is no target stays as it is -/

section
variable {s : State} {c : Cmd}

theorem mem_decideCmd_of_ne {slot : Fin 32} (hc : c ∈ s.cmd.queue) (hne : slot ≠ c.slot) (r : Result) (d : BitVec 16)
    (aw : List Nat) : c ∈ (decideCmd s slot r d aw).cmd.queue := by
  obtain ⟨q, l, hcmd, hq⟩ := decideCmd_cmd s slot r d aw
  rw [hcmd]
  rcases hq with hq | hq
  · exact hq ▸ hc
  · exact hq ▸ List.mem_map.2 ⟨c, hc, if_neg fun h => hne h.symm⟩

theorem mem_endTest_of_ne {slot : Fin 32} {i : Fin 16} (hc : c ∈ s.cmd.queue) (hne : slot ≠ c.slot)
    (hi : testLaneOf s slot = some i) (res : TestResult) : c ∈ (endTest s i res).cmd.queue := by
  unfold endTest
  cases ht : (s.lane i).test with
  | none => exact hc
  | some r => exact mem_decideCmd_of_ne (s := s.onLane i _) hc (by rw [testLaneOf_slot hi ht]; exact hne) _ _ _

/-- R152: a cut write that is settled by an Abort serves no command any more. -/
theorem settleStatusWrite_queue {w : StatusWrite} (hw : s.status.write = some w) (hserved : w.served = []) :
    (settleStatusWrite s).cmd.queue = s.cmd.queue := by
  unfold settleStatusWrite
  simp only [hw, hserved, decideAll, List.foldl_nil]
  split
  · rfl
  · split <;> rfl

theorem mem_abortWriteStatus_of_ne {slot : Fin 32} (hc : c ∈ s.cmd.queue) (hne : slot ≠ c.slot) :
    c ∈ (abortWriteStatus s slot).cmd.queue := by
  unfold abortWriteStatus
  dsimp only
  split
  · exact mem_decideCmd_of_ne (by exact hc) hne _ _ _
  · split
    · exact mem_decideCmd_of_ne hc hne _ _ _
    · have hkeep := mem_decideCmd_of_ne hc hne .aborted 0 (ownIds s (.statusWriter true) ++ carriedIds s slot)
      split
      · next hcut =>
          have hserved : _ = [] := List.isEmpty_iff.1 (Bool.and_eq_true_iff.1 hcut).2
          rw [settleStatusWrite_queue (by rfl) hserved]
          exact hkeep
      · exact hkeep

theorem mem_abortTarget_of_ne {d : Cmd} (hc : c ∈ s.cmd.queue) (hne : d.slot ≠ c.slot) :
    c ∈ (abortTarget s d).cmd.queue := by
  unfold abortTarget
  split
  · exact mem_decideCmd_of_ne hc hne _ _ _
  · split
    · split
      · next hi => exact mem_endTest_of_ne hc hne hi _
      · exact hc
    · exact mem_decideCmd_of_ne (s := onCopy s d.slot _) hc hne _ _ _
    · exact mem_abortWriteStatus_of_ne hc hne
    · exact hc
  · exact hc

theorem mem_abortTargets_of_ne (ts : List Cmd) (hne : ∀ d ∈ ts, d.slot ≠ c.slot) (hc : c ∈ s.cmd.queue) :
    c ∈ (ts.foldl abortTarget s).cmd.queue := by
  induction ts generalizing s with
  | nil => exact hc
  | cons d rest ih =>
    exact ih (fun x hx => hne x (List.mem_cons_of_mem d hx)) (mem_abortTarget_of_ne hc (hne d List.mem_cons_self))

end

/-! ### The targets and the outcome -/

theorem live_iff (d : Cmd) : d.live = true ↔ d.state = .queued ∨ d.state = .running := by
  cases h : d.state <;> simp [Cmd.live, h]

/-- R152: the targets of an Abort, in the obligation's words. -/
theorem abortTargets_eq (s : State) (slot : Fin 32) (target : Nat) : abortTargets s slot target =
    s.cmd.queue.filter fun d => decide (d.slot ≠ slot ∧ (d.state = .queued ∨ d.state = .running)
      ∧ (target = 65535 ∨ tagOf d.bytes = target)) := by
  unfold abortTargets
  congr 1
  funext d
  rw [Bool.eq_iff_iff]
  simp [live_iff, and_assoc]

theorem mem_abortTargets {s : State} {slot : Fin 32} {target : Nat} {d : Cmd} (h : d ∈ abortTargets s slot target) :
    d ∈ s.cmd.queue ∧ d.slot ≠ slot := by
  rw [abortTargets_eq] at h
  obtain ⟨hd, hp⟩ := List.mem_filter.1 h
  exact ⟨hd, (of_decide_eq_true hp).1⟩

section
variable {s : State} {c : Cmd} (hl : CommandLaw s) (h : Starts s c 0x0F)
include hl h

/-- R152: an Abort that has acted on its targets completes DONE with their number. -/
theorem complete_abortTargets {target : Nat} :
    let ts := abortTargets s c.slot target
    let u := ts.foldl abortTarget s
    complete u c.slot ts.length = { u with cmd := ended u.cmd c .done (BitVec.ofNat 16 ts.length) } := by
  intro ts u
  obtain ⟨-, hc, hq⟩ := nextStart_some h.1
  have hlu : CommandLaw u := (keepsCommands_abortTargets s ts).commands hl
  have hcu : c ∈ u.cmd.queue := mem_abortTargets_of_ne ts (fun d hd => (mem_abortTargets hd).2) hc
  exact decideCmd_ended .done _ hlu rfl hcu (no_copy_of_queued hlu hcu hq)

/-- R152: an Abort of ALL, or of a tag that names a command, ends its targets. -/
theorem exec_abort_targets (hok : u16 c.bytes.toList 4 ≤ 255 ∨ u16 c.bytes.toList 4 = 65535)
    (hsome : abortTargets s c.slot (u16 c.bytes.toList 4) ≠ [] ∨ u16 c.bytes.toList 4 = 65535) :
    let ts := abortTargets s c.slot (u16 c.bytes.toList 4)
    let u := ts.foldl abortTarget s
    exec .abort s = .next (commit s (completeStarted c { u with
      cmd := ended u.cmd c .done (BitVec.ofNat 16 ts.length) })) := by
  intro ts u
  have hbad : ¬ (255 < u16 c.bytes.toList 4 ∧ u16 c.bytes.toList 4 ≠ 0xFFFF) := by omega
  have hnone : ¬ (ts = [] ∧ u16 c.bytes.toList 4 ≠ 0xFFFF) := fun ⟨h1, h2⟩ => hsome.elim (· h1) h2
  have hf : startAbort c s = complete u c.slot ts.length := by
    unfold startAbort
    rw [if_neg hbad]
    exact if_neg hnone
  rw [show exec .abort s = _ from startStep_of_starts (f := startAbort) h, hf, complete_abortTargets hl h]

/-- R152: an Abort with one target, which is a command of the queue. -/
theorem exec_abort_one {d : Cmd} (hok : u16 c.bytes.toList 4 ≤ 255 ∨ u16 c.bytes.toList 4 = 65535)
    (hone : abortTargets s c.slot (u16 c.bytes.toList 4) = [d]) :
    d ∈ s.cmd.queue ∧ exec .abort s = .next (commit s (completeStarted c { abortTarget s d with
      cmd := ended (abortTarget s d).cmd c .done 1 })) := by
  have hmem : d ∈ abortTargets s c.slot (u16 c.bytes.toList 4) := hone ▸ List.mem_singleton_self d
  have hexec := exec_abort_targets hl h hok (.inl (List.ne_nil_of_mem hmem))
  rw [hone] at hexec
  exact ⟨(mem_abortTargets hmem).1, hexec⟩

/-- R152: an Abort whose tag names no command completes NOT_FOUND. -/
theorem exec_abort_notFound (htag : u16 c.bytes.toList 4 ≤ 255)
    (hnone : abortTargets s c.slot (u16 c.bytes.toList 4) = []) :
    exec .abort s = .next (commit s (completeStarted c { s with cmd := ended s.cmd c .notFound 0 })) := by
  have hbad : ¬ (255 < u16 c.bytes.toList 4 ∧ u16 c.bytes.toList 4 ≠ 0xFFFF) := by omega
  have hf : startAbort c s = decideCmd s c.slot .notFound 0 [] := by
    unfold startAbort
    rw [if_neg hbad]
    exact if_pos ⟨hnone, by omega⟩
  rw [show exec .abort s = _ from startStep_of_starts (f := startAbort) h, hf, decide_started .notFound 0 hl h.1 rfl]

end

/-- Settles O50: the Abort itself stays QUEUED while it acts on its targets, so it completes with their number; what it
does to a target goes by the target's state and kind. -/
theorem abortEnds : Obligations.AbortEnds := by
  refine ⟨fun s c hl h => ?_, fun u d hl hd => ?_⟩
  · intro target named hok
    have hts : abortTargets s c.slot target = named := abortTargets_eq s c.slot target
    have htargets := exec_abort_targets hl h hok
    rw [show abortTargets s c.slot (u16 c.bytes.toList 4) = named from hts] at htargets
    refine ⟨fun d hd hst => ?_, fun d i r hd hst hk hi ht hn => ?_, htargets, fun hnone htag => ?_, fun hnone hall => ?_⟩
    · obtain ⟨hmem, hexec⟩ := exec_abort_one hl h hok (hts.trans hd)
      rw [abortTarget_queued hl hmem hst] at hexec
      exact hexec
    · obtain ⟨hmem, hexec⟩ := exec_abort_one hl h hok (hts.trans hd)
      rw [abortTarget_testLane hl hmem hst hk hn hi ht] at hexec
      exact hexec
    · exact exec_abort_notFound hl h htag (hts.trans hnone)
    · have hnobody := htargets (.inr hall)
      rw [hnone] at hnobody
      exact hnobody
  · intro noCopy aborted carried ids
    refine ⟨abortTarget_queued hl hd, fun i r hst hk hn hi ht => abortTarget_testLane hl hd hst hk hn hi ht,
      fun r hst hk hr => abortTarget_copy hl hd hst hk hr, fun hst hk hn => ⟨fun hw => ?_, fun hw hs => ?_, fun w hw hs => ?_⟩⟩
    · exact (abortTarget_status_eq hst hk).trans (abortWriteStatus_waiting hl hd hn hw)
    · exact (abortTarget_status_eq hst hk).trans (abortWriteStatus_carried hl hd hn hw hs)
    · exact abortTarget_served hl hd hst hk hn hw hs

end Sys2Proof.Machine
end

section
/-! ## The segments of one lane (R115, R116, R119, R120, R124, R125, R127)

What SegmentLaw says of one lane, in terms of its segment record and its entries of the hold list alone, and what a
hold made, served, lost or released does to it. -/

namespace Sys2Proof.Machine

open Sys2Proof.Safety

set_option Elab.async false

/-! ### The law of one lane -/

/-- The segments of the HELD entries of a list of holds. -/
def heldSegments (hs : List HoldEntry) : List Nat := (hs.filter fun h => decide (h.state = .held)).map (·.segment)

theorem heldSegments_cons_held {h : HoldEntry} (hh : h.state = .held) (hs : List HoldEntry) :
    heldSegments (h :: hs) = h.segment :: heldSegments hs := by
  simp [heldSegments, hh]

theorem heldSegments_cons_pending {h : HoldEntry} (hp : h.state = .pending) (hs : List HoldEntry) :
    heldSegments (h :: hs) = heldSegments hs := by
  simp [heldSegments, hp]

/-- The entries of the hold list that belong to a lane. -/
def holdsOf (s : State) (i : Fin 16) : List HoldEntry := s.holds.filter fun h => decide (h.lane = i)

theorem mem_holdsOf {s : State} {i : Fin 16} {h : HoldEntry} : h ∈ holdsOf s i ↔ h ∈ s.holds ∧ h.lane = i := by
  simp [holdsOf]

theorem heldOf_eq (s : State) (i : Fin 16) : heldOf s i = heldSegments (holdsOf s i) := by
  unfold heldOf heldSegments holdsOf
  rw [List.filter_filter]
  congr 2
  funext h
  rw [Bool.decide_and, Bool.and_comm]

/-- R116, R120: the segments of a lane mapped by `m`, its table `t`, its held count and its holds. -/
structure Parted (m : Mapping) (t : SegTable) (held : Nat) (hs : List HoldEntry) : Prop where
  mapped : t.map.length = m.logical
  ranges : t.ranges.length = m.logical + m.spares
  parts : (t.map ++ t.free ++ heldSegments hs).Perm (List.range (m.logical + m.spares))
  count : held = (heldSegments hs).length
  ascending : t.free.Pairwise (· < ·)
  waiting : ∀ h ∈ hs, h.state = .pending → t.map[h.logical]? = some h.segment
  distinct : (hs.map (·.segment)).Nodup

/-- The law of one lane: with a mapping its segments are parted, and without one it has no table and no hold. -/
def LaneLaw (mapping : Option Mapping) (g : Segs) (hs : List HoldEntry) : Prop := match mapping with
  | some m => ∃ t, g.table = some t ∧ Parted m t g.held hs
  | none => g.table = none ∧ g.held = 0 ∧ hs = []

/-- SegmentLaw at lane `i`. -/
def LaneLawAt (s : State) (i : Fin 16) : Prop := LaneLaw (s.lane i).mapping (s.seg i) (holdsOf s i)

/-- No two holds name the same segment of the same lane: the holds of each lane name distinct segments. -/
theorem nodup_lane_segment_iff (hs : List HoldEntry) : (hs.map fun h => (h.lane, h.segment)).Nodup ↔
    ∀ i, ((hs.filter fun h => decide (h.lane = i)).map (·.segment)).Nodup := by
  induction hs with
  | nil => simp
  | cons x rest ih =>
    have hx : ∀ i, (((x :: rest).filter fun h => decide (h.lane = i)).map (·.segment)).Nodup ↔
        (x.lane = i → ∀ h ∈ rest, h.lane = i → h.segment ≠ x.segment)
          ∧ ((rest.filter fun h => decide (h.lane = i)).map (·.segment)).Nodup := fun i => by
      by_cases h : x.lane = i <;> simp [h]
    simp only [hx, List.map_cons, List.nodup_cons, ih, forall_and, List.mem_map, Prod.mk.injEq, not_exists, not_and]
    exact and_congr_left' ⟨fun h i hi y hy hl he => h y hy (hl.trans hi.symm) he,
      fun h y hy hl he => h _ rfl y hy hl he⟩

theorem laneLawAt_mapped {s : State} {i : Fin 16} {m : Mapping} (h : (s.lane i).mapping = some m) :
    LaneLawAt s i ↔ MappedSegments s i m ∧ ((holdsOf s i).map (·.segment)).Nodup := by
  unfold LaneLawAt LaneLaw MappedSegments
  rw [h, heldOf_eq]
  constructor
  · rintro ⟨t, ht, hp⟩
    exact ⟨⟨t, ht, hp.mapped, hp.ranges, hp.parts, hp.count, hp.ascending,
      fun h hh hl hs => hp.waiting h (mem_holdsOf.mpr ⟨hh, hl⟩) hs⟩, hp.distinct⟩
  · rintro ⟨⟨t, ht, hm, hr, hp, hc, ha, hw⟩, hd⟩
    exact ⟨t, ht, hm, hr, hp, hc, ha, fun h hh hs => hw h (mem_holdsOf.mp hh).1 (mem_holdsOf.mp hh).2 hs, hd⟩

theorem laneLawAt_unmapped {s : State} {i : Fin 16} (h : (s.lane i).mapping = none) :
    LaneLawAt s i ↔ UnmappedSegments s i := by
  unfold LaneLawAt LaneLaw UnmappedSegments
  rw [h]
  refine and_congr_right' (and_congr_right' ?_)
  simp [holdsOf, List.filter_eq_nil_iff]

/-- SegmentLaw is the law of each lane. -/
theorem segmentLaw_iff (s : State) : SegmentLaw s ↔ ∀ i, LaneLawAt s i := by
  unfold SegmentLaw
  rw [nodup_lane_segment_iff, ← forall_and]
  refine forall_congr' fun i => ?_
  cases h : (s.lane i).mapping with
  | some m => rw [laneLawAt_mapped h]; exact and_comm
  | none =>
    rw [laneLawAt_unmapped h]
    refine ⟨fun h' => h'.2, fun hu => ⟨?_, hu⟩⟩
    obtain ⟨-, -, hs⟩ := hu
    rw [List.filter_eq_nil_iff.mpr fun x hx => by simpa using hs x hx]
    exact List.nodup_nil

/-! ### What the law is about -/

namespace Parted

variable {m : Mapping} {t t' : SegTable} {n : Nat} {hs hs' : List HoldEntry} {h : HoldEntry}

/-- The ranges' contents and the write position are no part of it. -/
theorem of_table (hp : Parted m t n hs) (hm : t'.map = t.map) (hf : t'.free = t.free)
    (hr : t'.ranges.length = t.ranges.length) : Parted m t' n hs :=
  ⟨by rw [hm]; exact hp.mapped, hr.trans hp.ranges, by rw [hm, hf]; exact hp.parts, hp.count, by rw [hf]; exact hp.ascending,
    by rw [hm]; exact hp.waiting, hp.distinct⟩

/-- The order of the hold list is no part of it. -/
theorem of_perm (hp : Parted m t n hs) (h : hs.Perm hs') : Parted m t n hs' := by
  have hh : (heldSegments hs).Perm (heldSegments hs') := (h.filter _).map _
  exact ⟨hp.mapped, hp.ranges, (hh.append_left _).symm.trans hp.parts, hp.count.trans hh.length_eq, hp.ascending,
    fun x hx => hp.waiting x (h.mem_iff.mpr hx), (h.map _).nodup_iff.mp hp.distinct⟩

/-- R121: a hold made for a mapped segment that no hold of the lane names. -/
theorem pend (hp : Parted m t n hs) {p : Nat} (hm : p ∈ t.map) (hn : p ∉ hs.map (·.segment)) (hs' : h.state = .pending)
    (hg : h.segment = p) (hl : h.logical = t.map.idxOf p) : Parted m t n (h :: hs) where
  mapped := hp.mapped
  ranges := hp.ranges
  parts := by rw [heldSegments_cons_pending hs']; exact hp.parts
  count := by rw [heldSegments_cons_pending hs']; exact hp.count
  ascending := hp.ascending
  waiting x hx hxs := by
    rcases List.mem_cons.mp hx with rfl | hx
    · rw [hl, hg]; exact List.getElem?_idxOf hm
    · exact hp.waiting x hx hxs
  distinct := by rw [List.map_cons, List.nodup_cons, hg]; exact ⟨hn, hp.distinct⟩

/-- A PENDING hold leaves the list (R125, R127). -/
theorem drop_pending (hp : Parted m t n (h :: hs)) (hh : h.state = .pending) : Parted m t n hs where
  mapped := hp.mapped
  ranges := hp.ranges
  parts := by rw [← heldSegments_cons_pending hh]; exact hp.parts
  count := by rw [← heldSegments_cons_pending hh]; exact hp.count
  ascending := hp.ascending
  waiting x hx := hp.waiting x (List.mem_cons_of_mem h hx)
  distinct := (List.nodup_cons.mp hp.distinct).2

end Parted

/-- Putting `q` in the place of `p` trades the two. -/
theorem cons_set_perm {l : List Nat} {k p : Nat} (h : l[k]? = some p) (q : Nat) : (p :: l.set k q).Perm (q :: l) := by
  obtain ⟨hk, rfl⟩ := List.getElem?_eq_some_iff.mp h
  calc (l[k] :: l.set k q).Perm (l[k] :: q :: l.eraseIdx k) := (List.set_perm_cons_eraseIdx hk q).cons _
    _ |>.Perm (q :: l[k] :: l.eraseIdx k) := .swap _ _ _
    _ |>.Perm (q :: l) := (List.getElem_cons_eraseIdx_perm hk).cons _

theorem insertAscending_eq (x : Nat) (l : List Nat) : insertAscending x l = l.orderedInsert (· ≤ ·) x := by
  induction l with
  | nil => rfl
  | cons y rest ih => rw [insertAscending, List.orderedInsert_cons, ih]

namespace Parted

variable {m : Mapping} {t : SegTable} {n : Nat} {hs : List HoldEntry} {h h' : HoldEntry}

/-- R124: the lowest free segment takes the place of the held one in the map. -/
theorem swap (hp : Parted m t n (h :: hs)) (hh : h.state = .pending) {q : Nat} {free : List Nat} (hf : t.free = q :: free)
    (hh' : h'.state = .held) (hseg : h'.segment = h.segment) :
    Parted m { t with map := t.map.set h.logical q, free := free } (n + 1) (h' :: hs) where
  mapped := (List.length_set).trans hp.mapped
  ranges := hp.ranges
  parts := by
    have hk : t.map[h.logical]? = some h.segment := hp.waiting h List.mem_cons_self hh
    have hall := hp.parts
    rw [heldSegments_cons_pending hh, hf] at hall
    rw [heldSegments_cons_held hh', hseg]
    refine List.Perm.trans ?_ hall
    calc (t.map.set h.logical q ++ free ++ h.segment :: heldSegments hs).Perm
          ((h.segment :: t.map.set h.logical q) ++ (free ++ heldSegments hs)) := by
            rw [List.append_assoc]; exact (List.perm_middle.append_left _).trans List.perm_middle
      _ |>.Perm ((q :: t.map) ++ (free ++ heldSegments hs)) := (cons_set_perm hk q).append_right _
      _ |>.Perm (t.map ++ q :: free ++ heldSegments hs) := by
            rw [List.append_assoc, List.cons_append, List.cons_append]; exact List.perm_middle.symm
  count := by
    have hc := hp.count
    rw [heldSegments_cons_pending hh] at hc
    rw [heldSegments_cons_held hh', List.length_cons, hc]
  ascending := by have ha := hp.ascending; rw [hf] at ha; exact ha.of_cons
  waiting x hx hxs := by
    rcases List.mem_cons.mp hx with rfl | hx
    · rw [hh'] at hxs; cases hxs
    · have hxw := hp.waiting x (List.mem_cons_of_mem h hx) hxs
      have hne : h.logical ≠ x.logical := fun e => by
        have hk := hp.waiting h List.mem_cons_self hh
        rw [e, hxw, Option.some.injEq] at hk
        exact (List.nodup_cons.mp hp.distinct).1 (List.mem_map.mpr ⟨x, hx, hk⟩)
      rw [List.getElem?_set_ne hne]
      exact hxw
  distinct := by rw [List.map_cons, hseg]; exact hp.distinct

/-- R127: the parts stay the same when a HELD segment joins the free ones. -/
theorem parts_freed (hp : Parted m t n (h :: hs)) (hh : h.state = .held) :
    (t.map ++ insertAscending h.segment t.free ++ heldSegments hs).Perm (List.range (m.logical + m.spares)) := by
  have hall := hp.parts
  rw [heldSegments_cons_held hh] at hall
  refine List.Perm.trans ?_ hall
  rw [List.append_assoc, List.append_assoc, insertAscending_eq]
  exact (((List.perm_orderedInsert _ _ _).append_right _).trans List.perm_middle.symm).append_left _

/-- R119, R127: a HELD segment goes back to the free list, in its place. -/
theorem free_held (hp : Parted m t n (h :: hs)) (hh : h.state = .held) :
    Parted m { t with free := insertAscending h.segment t.free, ranges := t.ranges.set h.segment none } (n - 1) hs where
  mapped := hp.mapped
  ranges := (List.length_set).trans hp.ranges
  parts := hp.parts_freed hh
  count := by rw [hp.count, heldSegments_cons_held hh]; rfl
  ascending := by
    have hle : (insertAscending h.segment t.free).Pairwise (· ≤ ·) := by
      rw [insertAscending_eq]
      exact (hp.ascending.imp le_of_lt).orderedInsert _ _
    have hnd := (hp.parts_freed hh).nodup_iff.mpr List.nodup_range
    have hfree := (List.nodup_append.mp (List.nodup_append.mp hnd).1).2.1
    exact hle.imp₂ (fun _ _ => lt_of_le_of_ne) hfree
  waiting x hx := hp.waiting x (List.mem_cons_of_mem h hx)
  distinct := (List.nodup_cons.mp hp.distinct).2

end Parted

/-! ### Segment records and releases -/

/-- What the law reads of a segment record: the map, the free list, how many ranges there are, and the held count. -/
def Segs.stock (g : Segs) : Option (List Nat × List Nat × Nat) × Nat :=
  (g.table.map fun t => (t.map, t.free, t.ranges.length), g.held)

section
variable {mapping : Option Mapping} {g g' : Segs} {hs : List HoldEntry}

theorem laneLaw_of_stock (h : g'.stock = g.stock) (hl : LaneLaw mapping g hs) : LaneLaw mapping g' hs := by
  obtain ⟨htable, hheld⟩ := Prod.mk.inj h
  cases mapping with
  | none =>
    obtain ⟨ht, hh, hn⟩ := hl
    rw [ht] at htable
    exact ⟨Option.map_eq_none_iff.mp htable, hheld.trans hh, hn⟩
  | some m =>
    obtain ⟨t, ht, hp⟩ := hl
    rw [ht, Option.map_some] at htable
    obtain ⟨t', ht', he⟩ := Option.map_eq_some_iff.mp htable
    simp only [Prod.mk.injEq] at he
    obtain ⟨hm, hf, hr⟩ := he
    exact ⟨t', ht', hheld ▸ hp.of_table hm hf hr⟩

theorem laneLaw_of_perm {hs' : List HoldEntry} (h : hs.Perm hs') (hl : LaneLaw mapping g hs) :
    LaneLaw mapping g hs' := by
  cases mapping with
  | none =>
    obtain ⟨ht, hh, rfl⟩ := hl
    exact ⟨ht, hh, List.nil_perm.mp h⟩
  | some m =>
    obtain ⟨t, ht, hp⟩ := hl
    exact ⟨t, ht, hp.of_perm h⟩

theorem laneLaw_releaseEntry {h : HoldEntry} (hl : LaneLaw mapping g (h :: hs)) :
    LaneLaw mapping (releaseEntry g h) hs := by
  cases mapping with
  | none => exact absurd hl.2.2 (List.cons_ne_nil h hs)
  | some m =>
    obtain ⟨t, ht, hp⟩ := hl
    unfold releaseEntry
    split
    · next hh => exact ⟨t, ht, hp.drop_pending hh⟩
    · next hh => exact ⟨_, by rw [ht]; rfl, hp.free_held hh⟩

/-- R127: the entries released leave the others parted. -/
theorem laneLaw_release {named : List HoldEntry} (hl : LaneLaw mapping g (named ++ hs)) :
    LaneLaw mapping (named.foldl releaseEntry g) hs := by
  induction named generalizing g with
  | nil => exact hl
  | cons h rest ih => exact ih (laneLaw_releaseEntry hl)

end

/-- R115: the segment record and the holds of a lane just mapped. -/
theorem laneLaw_mapped (m : Mapping) :
    LaneLaw (some m) { table := some (SegTable.mapped m.logical m.spares), held := 0, dropped := 0 } [] :=
  ⟨_, rfl,
    { mapped := List.length_range
      ranges := List.length_replicate
      parts := by simp [SegTable.mapped, heldSegments, List.range_add, Nat.add_comm]
      count := rfl
      ascending := List.pairwise_lt_range.map _ fun _ _ h => Nat.add_lt_add_right h _
      waiting := fun h hh => absurd hh List.not_mem_nil
      distinct := List.nodup_nil }⟩

theorem laneLaw_unmapped : LaneLaw none Segs.reset [] := ⟨rfl, rfl, rfl⟩

end Sys2Proof.Machine
end

section
/-! ## What the operations of the segment hold unit do to the segments (R117 to R129)

`KeepsSegments s t` says of a part of a step from `s` to `t` that each lane that meets its law in `s` meets it in `t`. It
composes, so each operation is proved once from the operations it is made of. -/

namespace Sys2Proof.Machine

open Sys2Proof.Safety

set_option Elab.async false

/-- Each lane that meets its law in `s` meets it in `t`. -/
def KeepsSegments (s t : State) : Prop := ∀ i, LaneLawAt s i → LaneLawAt t i

theorem holdsOf_congr {s t : State} (h : t.holds = s.holds) (i : Fin 16) : holdsOf t i = holdsOf s i := by
  unfold holdsOf; rw [h]

theorem holdsOf_filter {s t : State} {p : HoldEntry → Bool} (h : t.holds = s.holds.filter p) (i : Fin 16) :
    holdsOf t i = (holdsOf s i).filter p := by
  unfold holdsOf; rw [h, List.filter_comm]

theorem holdsOf_map {s t : State} {f : HoldEntry → HoldEntry} (h : t.holds = s.holds.map f)
    (hf : ∀ x, (f x).lane = x.lane) (i : Fin 16) : holdsOf t i = (holdsOf s i).map f := by
  unfold holdsOf
  rw [h, List.filter_map]
  congr 2
  funext x
  simp only [Function.comp, hf]

/-- Holds of another lane than the one filtered stay. -/
theorem holdsOf_filter_ne {s t : State} {p : HoldEntry → Bool} {i j : Fin 16} (h : t.holds = s.holds.filter p)
    (hp : ∀ x, x.lane ≠ i → p x = true) (hj : j ≠ i) : holdsOf t j = holdsOf s j := by
  rw [holdsOf_filter h, List.filter_eq_self]
  exact fun x hx => hp x ((mem_holdsOf.mp hx).2 ▸ hj)

namespace KeepsSegments

variable {s t u : State}

@[refl] theorem refl (s : State) : KeepsSegments s s := fun _ h => h

theorem trans (h : KeepsSegments s t) (h' : KeepsSegments t u) : KeepsSegments s u := fun i hi => h' i (h i hi)

/-- A change to no mapping, no hold, and nothing of a segment record that the law reads. -/
theorem of_stock (hm : ∀ j, (t.lane j).mapping = (s.lane j).mapping) (hg : ∀ j, (t.seg j).stock = (s.seg j).stock)
    (hh : t.holds = s.holds := by simp) : KeepsSegments s t := fun j hj => by
  unfold LaneLawAt
  rw [hm, holdsOf_congr hh]
  exact laneLaw_of_stock (hg j) hj

/-- A change of lanes that keep their mappings. -/
theorem of_mappings (hm : ∀ j, (t.lane j).mapping = (s.lane j).mapping) (hg : t.segs = s.segs := by simp)
    (hh : t.holds = s.holds := by simp) : KeepsSegments s t :=
  of_stock hm (fun j => by rw [State.seg_congr hg]) hh

/-- A change to no lane, no segment record and no hold. -/
theorem of_same (hl : t.lanes = s.lanes := by simp) (hg : t.segs = s.segs := by simp)
    (hh : t.holds = s.holds := by simp) : KeepsSegments s t :=
  of_mappings (fun j => by rw [State.lane_congr hl]) hg hh

/-- A change to nothing that the law reads, then an operation. -/
theorem after (h : KeepsSegments t u) (hl : t.lanes = s.lanes := by simp) (hg : t.segs = s.segs := by simp)
    (hh : t.holds = s.holds := by simp) : KeepsSegments s u := (of_same hl hg hh).trans h

/-- An operation, then a change to nothing that the law reads. -/
theorem before (h : KeepsSegments s t) (hl : u.lanes = t.lanes := by simp) (hg : u.segs = t.segs := by simp)
    (hh : u.holds = t.holds := by simp) : KeepsSegments s u := h.trans (of_same hl hg hh)

/-- A change to the segments of lane `i` alone. -/
theorem of_lane {i : Fin 16} (hi : LaneLawAt s i → LaneLawAt t i) (hm : ∀ j, j ≠ i → t.lane j = s.lane j)
    (hg : ∀ j, j ≠ i → t.seg j = s.seg j) (hh : ∀ j, j ≠ i → holdsOf t j = holdsOf s j) : KeepsSegments s t := fun j hj => by
  rcases eq_or_ne j i with rfl | hne
  · exact hi hj
  · unfold LaneLawAt
    rw [hm j hne, hg j hne, hh j hne]
    exact hj

/-- SegmentLaw is kept when each lane's law is. -/
theorem segmentLaw (h : KeepsSegments s t) (hs : SegmentLaw s) : SegmentLaw t :=
  (segmentLaw_iff t).mpr fun i => h i ((segmentLaw_iff s).mp hs i)

end KeepsSegments

theorem keepsSegments_setLane (s : State) (i : Fin 16) (x : Lane) (h : x.mapping = (s.lane i).mapping := by rfl) :
    KeepsSegments s (s.setLane i x) := .of_mappings (State.mapping_setLane h)

theorem keepsSegments_onLane (s : State) (i : Fin 16) (f : Lane → Lane)
    (h : (f (s.lane i)).mapping = (s.lane i).mapping := by rfl) : KeepsSegments s (s.onLane i f) :=
  keepsSegments_setLane s i _ h

theorem keepsSegments_setSeg (s : State) (i : Fin 16) (g : Segs) (h : g.stock = (s.seg i).stock := by rfl) :
    KeepsSegments s (s.setSeg i g) := by
  refine .of_stock (fun _ => rfl) fun j => ?_
  rcases eq_or_ne j i with rfl | hne
  · rw [State.seg_setSeg]; exact h
  · rw [State.seg_setSeg_ne s g hne]

/-! ### Pin requests (R121, R122) -/

section
variable {s : State} {i : Fin 16} {p : Nat} {t : SegTable}

/-- R121: a request for a segment that a hold of the lane names. -/
theorem pinCase_pinned {h : HoldEntry} (hh : h ∈ s.holds) (hl : h.lane = i) (hp : h.segment = p)
    (hu : ∀ x ∈ s.holds, x.lane = i → x.segment = p → x = h) : pinCase s i p = .merged h.state := by
  have hf : s.holds.find? (fun x => decide (x.lane = i ∧ x.segment = p)) = some h := by
    cases hx : s.holds.find? fun x => decide (x.lane = i ∧ x.segment = p) with
    | none => exact absurd (List.find?_eq_none.mp hx h hh) (by simp [hl, hp])
    | some x =>
      have hfound := List.find?_some hx
      obtain ⟨h1, h2⟩ := of_decide_eq_true hfound
      rw [hu x (List.mem_of_find?_eq_some hx) h1 h2]
  unfold pinCase
  rw [hf]

theorem find_hold_none (hn : ∀ h ∈ s.holds, h.lane = i → h.segment ≠ p) :
    s.holds.find? (fun h => decide (h.lane = i ∧ h.segment = p)) = none :=
  List.find?_eq_none.mpr fun h hh => by simpa using hn h hh

/-- R121: a request for a segment that no hold of the lane names. -/
theorem pinCase_unpinned (hn : ∀ h ∈ s.holds, h.lane = i → h.segment ≠ p) (ht : (s.seg i).table = some t) :
    pinCase s i p = if p ∈ t.map then (if s.holds.length < 64 then .made else .full) else .notFound := by
  unfold pinCase
  rw [find_hold_none hn, ht]
  simp [Config.holdMax]

/-- R121: what a request that makes an entry has found. -/
theorem pinCase_made (h : pinCase s i p = .made) :
    (∀ x ∈ s.holds, x.lane = i → x.segment ≠ p) ∧ ∃ t, (s.seg i).table = some t ∧ p ∈ t.map := by
  have hn : ∀ x ∈ s.holds, x.lane = i → x.segment ≠ p := by
    cases hx : s.holds.find? fun x => decide (x.lane = i ∧ x.segment = p) with
    | some x => rw [pinCase, hx] at h; cases h
    | none => simpa using List.find?_eq_none.mp hx
  refine ⟨hn, ?_⟩
  cases ht : (s.seg i).table with
  | none =>
    rw [pinCase, find_hold_none hn, ht] at h
    cases h
  | some t =>
    refine ⟨t, rfl, by_contra fun hm => ?_⟩
    rw [pinCase_unpinned hn ht, if_neg hm] at h
    cases h

/-- R121: the entry a request makes. -/
theorem makePending_eq (ht : (s.seg i).table = some t) (r : HoldReason) :
    makePending s i p r = { s with holds := s.holds ++ [{ lane := i, segment := p, logical := t.map.idxOf p,
                                                          state := .pending, reason := r, range := none }] } := by
  unfold makePending; rw [ht]

theorem keepsSegments_makePending (h : pinCase s i p = .made) (r : HoldReason) :
    KeepsSegments s (makePending s i p r) := by
  obtain ⟨hn, t, ht, hp⟩ := pinCase_made h
  rw [makePending_eq ht]
  refine .of_lane (i := i) (fun hi => ?_) (fun _ _ => rfl) (fun _ _ => rfl) fun j hj => ?_
  · unfold LaneLawAt holdsOf at hi ⊢
    rw [List.filter_append, List.filter_cons_of_pos (by simp), List.filter_nil]
    refine laneLaw_of_perm (List.perm_append_singleton _ _).symm ?_
    revert hi
    show LaneLaw (s.lane i).mapping (s.seg i) (holdsOf s i) → LaneLaw (s.lane i).mapping (s.seg i) (_ :: holdsOf s i)
    cases (s.lane i).mapping with
    | none => exact fun hi => by rw [hi.1] at ht; cases ht
    | some m =>
      rintro ⟨t', ht', hpart⟩
      obtain rfl : t' = t := Option.some.inj (ht'.symm.trans ht)
      refine ⟨t', ht, hpart.pend hp ?_ rfl rfl rfl⟩
      simpa [mem_holdsOf] using fun x hx hl => hn x hx hl
  · simp [holdsOf, hj.symm]

theorem keepsSegments_eventPin (s : State) (cell : Nat) (i : Fin 16) (p : Nat) : KeepsSegments s (eventPin s cell i p) := by
  unfold eventPin
  split
  · next h => exact keepsSegments_makePending h _
  · exact .refl s
  · exact keepsSegments_setSeg s i _
  · exact keepsSegments_setSeg s i _

end

/-! ### Reports of writes (R117, R118, R124, R125) -/

section
variable {s : State} {i : Fin 16} {m : Mapping} {g : Segs} {t : SegTable} {k : Nat} {h : HoldEntry}

theorem pendingHold_some (hh : pendingHold s.holds i k = some h) :
    h ∈ holdsOf s i ∧ h.logical = k ∧ h.state = .pending := by
  unfold pendingHold at hh
  have hfound := List.find?_some hh
  obtain ⟨hl, hk, hs⟩ := of_decide_eq_true hfound
  exact ⟨mem_holdsOf.mpr ⟨List.mem_of_find?_eq_some hh, hl⟩, hk, hs⟩

theorem serveHold_none (hh : pendingHold s.holds i k = none) : serveHold s i m g t k = s := by
  unfold serveHold; rw [hh]

/-- A hold once it is HELD with its range frozen (R124). -/
def HoldEntry.taken (h : HoldEntry) (range : Option (SampleTime × SampleTime)) : HoldEntry :=
  { h with state := .held, range := range }

/-- R124: putting the HELD entry in the place of the PENDING one. -/
theorem replace_taken_eq (h : HoldEntry) (range : Option (SampleTime × SampleTime)) :
    (fun x : HoldEntry => if x = h then { x with state := .held, range := range } else x)
      = fun x => if x = h then h.taken range else x := by
  funext x
  split
  · next e => rw [e]; rfl
  · rfl

/-- R124: the swap. -/
theorem serveHold_swap (hh : pendingHold s.holds i k = some h) {q : Nat} {free : List Nat} (hf : t.free = q :: free) :
    serveHold s i m g t k = { s with
      segs := s.segs.set i { g with table := some { t with map := t.map.set k q, free := free }, held := g.held + 1 }
      holds := s.holds.map fun x => if x = h then h.taken (t.ranges.getD (t.map.getD k 0) none) else x
      notices := s.notices.take
        (holdNotice s .holdTaken i m h (t.map.getD k 0) (t.ranges.getD (t.map.getD k 0) none)) } := by
  unfold serveHold
  rw [hh]
  dsimp only
  rw [hf]
  simp only [replace_taken_eq]
  rfl

/-- R125: the loss. -/
theorem serveHold_loss (hh : pendingHold s.holds i k = some h) (hf : t.free = []) :
    serveHold s i m g t k = { s with
      holds := s.holds.filter fun x => decide (x ≠ h)
      notices := s.notices.take
        (holdNotice s .holdLost i m h (t.map.getD k 0) (t.ranges.getD (t.map.getD k 0) none)) } := by
  unfold serveHold
  rw [hh]
  dsimp only
  rw [hf]
  rfl

theorem map_replace_perm {l : List HoldEntry} (hn : l.Nodup) (hh : h ∈ l) (y : HoldEntry) :
    (l.map fun x => if x = h then y else x).Perm (y :: l.erase h) := by
  refine ((List.perm_cons_erase hh).map _).trans ?_
  rw [List.map_cons, if_pos rfl, List.map_congr_left (g := id), List.map_id]
  exact fun x hx => if_neg fun e => hn.not_mem_erase (e ▸ hx)

/-- A lane with a table is mapped, and its segments are parted. -/
theorem parted_of_table (ht : (s.seg i).table = some t) (hi : LaneLawAt s i) :
    ∃ x, (s.lane i).mapping = some x ∧ Parted x t (s.seg i).held (holdsOf s i) := by
  unfold LaneLawAt LaneLaw at hi
  split at hi
  · next x hx =>
    obtain ⟨t', ht', hp⟩ := hi
    obtain rfl : t' = t := Option.some.inj (ht'.symm.trans ht)
    exact ⟨x, hx, hp⟩
  · rw [hi.1] at ht; cases ht

/-- R124: a swap keeps the segments. -/
theorem keepsSegments_swap {u : State} (ht : (s.seg i).table = some t) (hmem : h ∈ holdsOf s i)
    (hpend : h.state = .pending) {q : Nat} {free : List Nat} (hf : t.free = q :: free)
    {range : Option (SampleTime × SampleTime)} (hl : u.lanes = s.lanes)
    (hg : u.segs = s.segs.set i { s.seg i with
      table := some { t with map := t.map.set h.logical q, free := free }, held := (s.seg i).held + 1 })
    (hh : u.holds = s.holds.map fun x => if x = h then h.taken range else x) : KeepsSegments s u := by
  have hholds : ∀ j, holdsOf u j = (holdsOf s j).map fun x => if x = h then h.taken range else x :=
    holdsOf_map hh fun x => by split <;> simp [HoldEntry.taken, *]
  have hseg : ∀ j, u.seg j = (s.setSeg i _).seg j := State.seg_congr (s := s.setSeg i _) hg
  refine .of_lane (i := i) (fun hi => ?_) (fun j _ => State.lane_congr hl j)
    (fun j hj => (hseg j).trans (State.seg_setSeg_ne s _ hj)) fun j hj => ?_
  · obtain ⟨x, hx, hp⟩ := parted_of_table ht hi
    have hnd : (holdsOf s i).Nodup := hp.distinct.of_map _
    unfold LaneLawAt
    rw [hholds, hseg, State.seg_setSeg, State.lane_congr hl, hx]
    exact laneLaw_of_perm (map_replace_perm hnd hmem _).symm
      ⟨_, rfl, (hp.of_perm (List.perm_cons_erase hmem)).swap hpend hf rfl rfl⟩
  · rw [hholds, List.map_congr_left (g := id), List.map_id]
    refine fun x hx => if_neg fun (e : x = h) => hj ?_
    rw [← (mem_holdsOf.mp hx).2, e, (mem_holdsOf.mp hmem).2]

/-- R125: a loss keeps the segments. -/
theorem keepsSegments_loss {u : State} (ht : (s.seg i).table = some t) (hmem : h ∈ holdsOf s i)
    (hpend : h.state = .pending) (hl : u.lanes = s.lanes) (hg : u.segs = s.segs)
    (hh : u.holds = s.holds.filter fun x => decide (x ≠ h)) : KeepsSegments s u := by
  refine .of_lane (i := i) (fun hi => ?_) (fun j _ => State.lane_congr hl j) (fun j _ => State.seg_congr hg j) fun j hj => ?_
  · obtain ⟨x, hx, hp⟩ := parted_of_table ht hi
    have he : ((holdsOf s i).filter fun x => decide (x ≠ h)) = (holdsOf s i).erase h := by
      rw [(hp.distinct.of_map _).erase_eq_filter]
      exact List.filter_congr fun x _ => (Bool.eq_iff_iff.mpr (by simp))
    unfold LaneLawAt
    rw [holdsOf_filter hh, he, State.seg_congr hg, State.lane_congr hl, hx]
    exact ⟨t, ht, (hp.of_perm (List.perm_cons_erase hmem)).drop_pending hpend⟩
  · exact holdsOf_filter_ne hh (fun x hx => decide_eq_true fun e => hx (e ▸ (mem_holdsOf.mp hmem).2)) hj

/-- R124, R125: the service of a hold. -/
theorem keepsSegments_serveHold (ht : (s.seg i).table = some t) (m : Mapping) (k : Nat) :
    KeepsSegments s (serveHold s i m (s.seg i) t k) := by
  cases hh : pendingHold s.holds i k with
  | none => rw [serveHold_none hh]
  | some h =>
    obtain ⟨hmem, rfl, hpend⟩ := pendingHold_some hh
    cases hf : t.free with
    | cons q free => rw [serveHold_swap hh hf]; exact keepsSegments_swap ht hmem hpend hf rfl rfl rfl
    | nil => rw [serveHold_loss hh hf]; exact keepsSegments_loss ht hmem hpend rfl rfl rfl

theorem keepsSegments_reportWrite (s : State) (i : Fin 16) (m : Mapping) (k : Nat) :
    KeepsSegments s (reportWrite s i m k) := by
  unfold reportWrite
  split
  · exact .refl s
  · next t ht =>
    dsimp only
    split
    · exact .refl s
    · refine (keepsSegments_serveHold ht m k).trans (keepsSegments_setSeg _ i _ ?_)
      unfold Segs.stock
      cases ((serveHold s i m (s.seg i) t k).seg i).table <;> simp [restartRange]

theorem keepsSegments_extendRange (s : State) (i : Fin 16) (p : Nat) (first : SampleTime) :
    KeepsSegments s (extendRange s i p first) := by
  refine keepsSegments_setSeg s i _ ?_
  unfold Segs.stock
  cases (s.seg i).table <;> simp

end

/-! ### Releases, and lanes mapped anew (R115, R127, R129) -/

theorem keepsSegments_releaseAll (s : State) (i : Fin 16) (code : Nat) : KeepsSegments s (releaseAll s i code) := by
  have hnamed : s.holds.filter (releaseNames i code) = (holdsOf s i).filter (releaseNames i code) := by
    unfold holdsOf
    rw [List.filter_filter]
    refine List.filter_congr fun x _ => ?_
    cases hx : releaseNames i code x with
    | false => rfl
    | true => simp only [releaseNames, Bool.and_eq_true] at hx; rw [Bool.true_and]; exact hx.1.symm
  refine .of_lane (i := i) (fun hi => ?_) (fun _ _ => rfl) (fun j hj => State.seg_setSeg_ne s _ hj) fun j hj => ?_
  · unfold LaneLawAt
    rw [holdsOf_filter (s := s) rfl, show (releaseAll s i code).seg i = _ from State.seg_setSeg s i _, hnamed]
    exact laneLaw_release (laneLaw_of_perm (List.filter_append_perm _ _).symm hi)
  · exact holdsOf_filter_ne (s := s) rfl (fun x hx => by simp [releaseNames, hx]) hj

/-- R129: a lane whose holds are discarded takes the law of its new record. -/
theorem keepsSegments_discardHolds {s : State} {i : Fin 16} {x : Lane} {g : Segs} (h : LaneLaw x.mapping g []) :
    KeepsSegments s (discardHolds (s.setLane i x) i g) := by
  refine .of_lane (i := i) (fun _ => ?_) (fun j hj => State.lane_setLane_ne s x hj)
    (fun j hj => State.seg_setSeg_ne (s.setLane i x) g hj) fun j hj => ?_
  · have hholds : holdsOf (discardHolds (s.setLane i x) i g) i = [] := by
      rw [holdsOf_filter (s := s) rfl]
      exact List.filter_eq_nil_iff.mpr fun y hy => by simp [(mem_holdsOf.mp hy).2]
    unfold LaneLawAt
    rw [hholds, show (discardHolds (s.setLane i x) i g).lane i = x from State.lane_setLane s i x,
      show (discardHolds (s.setLane i x) i g).seg i = g from State.seg_setSeg (s.setLane i x) i g]
    exact h
  · exact holdsOf_filter_ne (s := s) rfl (fun y hy => decide_eq_true hy) hj

end Sys2Proof.Machine
end

section
/-! ## What events, stations and lanes do to the segments (R116, R120) -/

namespace Sys2Proof.Machine

open Sys2Proof.Safety

set_option Elab.async false

theorem keepsSegments_handNotice (s : State) (n : Notice) : KeepsSegments s (handNotice s n) := .of_same

/-! ### The event former (R68 to R72, R85, R86) -/

theorem keepsSegments_creditEvent (s : State) (k : Fin 4) (ids : List Nat) (ms : List Hit) (e : EventTally) :
    KeepsSegments s (creditEvent s k ids ms e) := by
  unfold creditEvent
  dsimp only
  split
  · exact .of_same
  · exact eventPins_induct (P := KeepsSegments s) (fun t c l p h => h.trans (keepsSegments_eventPin t c l p)) ms _ _ .of_same

theorem keepsSegments_formEvent (s : State) (k : Fin 4) (h0 : Hit) (early : Bool) :
    KeepsSegments s (formEvent s k h0 early) := by
  unfold formEvent
  dsimp only
  split
  · exact (keepsSegments_creditEvent _ k _ _ _).after
  · exact .of_same

theorem keepsSegments_formingPass (s : State) (k : Fin 4) : KeepsSegments s (formingPass s k) :=
  formingPass_induct (P := KeepsSegments s) (fun _ _ _ h => h.before)
    (fun t h0 _ _ h => h.trans (keepsSegments_formEvent t k h0 false)) s (.refl s)

theorem keepsSegments_handHit (s : State) (k : Fin 4) (h : Hit) : KeepsSegments s (handHit s k h) :=
  handHit_induct (P := KeepsSegments s) (fun _ _ _ h => h.before)
    (fun t h0 _ e _ h => h.trans (keepsSegments_formEvent t k h0 e)) h (fun _ h => h.before) s (.refl s)

theorem keepsSegments_handHit? (s : State) (k : Fin 4) (h : Option Hit) : KeepsSegments s (handHit? s k h) := by
  cases h with
  | none => exact .refl s
  | some h => exact keepsSegments_handHit s k h

/-! ### The tracker (R50 to R56) -/

theorem keepsSegments_endCycle (s : State) (k : Fin 4) (e : SampleTime) : KeepsSegments s (endCycle s k e) := by
  unfold endCycle
  dsimp only
  split
  · exact (keepsSegments_formingPass _ k).after
  · exact .of_same

theorem keepsSegments_forceHead (s : State) (k : Fin 4) : KeepsSegments s (forceHead s k) := by
  unfold forceHead
  split
  · split
    · exact .of_same
    · exact .refl s
  · exact .refl s

theorem keepsSegments_startCycle (s : State) (k : Fin 4) (t : SampleTime) (peak : Nat) :
    KeepsSegments s (startCycle s k t peak) := by
  have h1 (f g : Station → Station) : KeepsSegments s ((forceHead (s.onStation k f) k).onStation k g) :=
    (keepsSegments_forceHead (s.onStation k f) k).after.before
  have h2 (b : Bool) (u : State) (n : Notice) (hu : KeepsSegments s u) :
      KeepsSegments s (if b then handNotice u n else u) := by
    split
    · exact hu.before
    · exact hu
  unfold startCycle
  dsimp only
  split
  · exact (h2 _ _ _ (h1 _ _)).trans (keepsSegments_formingPass _ k)
  · exact h2 _ _ _ (h1 _ _)

theorem keepsSegments_applyPeak (s : State) (k : Fin 4) (a b : SampleTime) (peak : Nat) :
    KeepsSegments s (applyPeak s k a b peak) := by
  unfold applyPeak
  dsimp only
  split
  case h_1 | h_2 =>
    split
    · exact keepsSegments_startCycle s k a peak
    · exact .refl s
  case h_3 =>
    split
    · split
      · exact (keepsSegments_endCycle _ k b).after
      · exact .of_same
    · exact .refl s
  case h_4 =>
    split
    · exact .of_same
    · split
      · exact (keepsSegments_endCycle _ k b).after
      · exact .of_same
  case h_5 | h_6 => exact .refl s

theorem keepsSegments_vibrationBlock (s : State) (k : Fin 4) (vs : List Int) (t : SampleTime) (brk : Bool) :
    KeepsSegments s (vibrationBlock s k vs t brk) :=
  (keepsSegments_applyPeak _ k t (t + 59) _).after

theorem keepsSegments_goBlind (s : State) (k : Fin 4) (h : Option SampleTime) (reason : FaultReason) :
    KeepsSegments s (goBlind s k h reason) := by
  unfold goBlind
  dsimp only
  split
  case h_1 | h_2 => exact .refl s
  all_goals
    split
    · exact (keepsSegments_formingPass _ k).after
    · exact .of_same

theorem keepsSegments_leaveBlind (s : State) (k : Fin 4) : KeepsSegments s (leaveBlind s k) := by
  unfold leaveBlind
  split
  · exact .of_same
  · exact .refl s

/-! ### Lanes (R7 to R23) -/

theorem keepsSegments_faultLane (s : State) (i : Fin 16) (reason : FaultReason) :
    KeepsSegments s (faultLane s i reason) := by
  unfold faultLane
  dsimp only
  split
  · exact .refl s
  · next k _ =>
    have h1 : KeepsSegments s (handHit? (s.setLane i (s.lane i).resetDetector) k ((s.lane i).truncatedHit i)) :=
      (keepsSegments_setLane s i _).trans (keepsSegments_handHit? _ k _)
    have h2 := h1.trans (keepsSegments_onLane _ i fun l => l.faulted reason)
    have h3 (n : Notice) := h2.trans (keepsSegments_handNotice _ n)
    split
    · exact (h3 _).trans (keepsSegments_goBlind _ k _ reason)
    · split
      · exact (h3 _).trans (keepsSegments_formingPass _ k)
      · exact h3 _

theorem keepsSegments_recoverLane (s : State) (i : Fin 16) : KeepsSegments s (recoverLane s i) := by
  unfold recoverLane
  dsimp only
  split
  · exact .refl s
  · have h1 (x : Lane) (hx : x.mapping = (s.lane i).mapping) (n : Notice) :
        KeepsSegments s (handNotice (s.setLane i x) n) := (keepsSegments_setLane s i x hx).before
    split
    · exact (h1 _ (by rfl) _).trans (keepsSegments_leaveBlind _ _)
    · exact h1 _ (by rfl) _

theorem keepsSegments_endTest (s : State) (i : Fin 16) (r : TestResult) : KeepsSegments s (endTest s i r) :=
  .of_mappings (only_endTest s r).mappings

theorem keepsSegments_testVerdict (s : State) (i : Fin 16) : KeepsSegments s (testVerdict s i) :=
  .of_mappings (only_testVerdict s).mappings

theorem keepsSegments_beginBlock (s : State) (i : Fin 16) : KeepsSegments s (beginBlock s i) := by
  unfold beginBlock
  dsimp only
  split
  · split
    case h_1 => exact keepsSegments_setLane s i _
    case h_2 | h_3 | h_4 =>
      exact (keepsSegments_setLane s i _ (Lane.beginBlock_mapping _ _)).trans (keepsSegments_handHit? _ _ _)
    case h_5 | h_6 => exact .refl s
  · exact .refl s

theorem keepsSegments_advanceHorizon (s : State) (i : Fin 16) (k : Fin 4) (t : SampleTime) (d : Int) :
    KeepsSegments s (advanceHorizon s i k t d) := by
  unfold advanceHorizon
  dsimp only
  split
  · exact (keepsSegments_setLane s i _).trans (keepsSegments_formingPass _ k)
  · exact keepsSegments_setLane s i _

theorem Lane.addToWindow_mapping (l : Lane) (quiet : Bool) (level : Nat) : (l.addToWindow quiet level).mapping = l.mapping := by
  unfold Lane.addToWindow
  dsimp only
  split
  · split <;> rfl
  · rfl

theorem Lane.endAE_mapping (l : Lane) (b : QueuedBlock) (run : DetectRun) (quiet : Bool) (level : Nat) :
    (l.endAE b run quiet level).mapping = l.mapping := Lane.addToWindow_mapping _ quiet level

theorem keepsSegments_endAE (s : State) (i : Fin 16) (k : Fin 4) (role : Fin 6) (b : QueuedBlock)
    (rest : List QueuedBlock) : KeepsSegments s (endAE s i k role b rest) := by
  have h1 (run : DetectRun) (quiet : Bool) (level : Nat) :
      KeepsSegments s (s.setLane i { (s.lane i).endAE b run quiet level with queue := rest }) :=
    keepsSegments_setLane s i _ (Lane.endAE_mapping (s.lane i) b run quiet level)
  exact (handHits_induct (P := KeepsSegments s) (fun t h ht => ht.trans (keepsSegments_handHit t k h)) _ _
    (h1 _ _ _)).trans (keepsSegments_advanceHorizon _ i k _ _)

theorem keepsSegments_endVibration (s : State) (i : Fin 16) (k : Fin 4) (b : QueuedBlock) (rest : List QueuedBlock) :
    KeepsSegments s (endVibration s i k b rest) := by
  have h1 (o : Int) : KeepsSegments s (s.setLane i { s.lane i with offset := o, queue := rest }) :=
    keepsSegments_setLane s i _
  unfold endVibration
  dsimp only
  refine KeepsSegments.trans ?_ (keepsSegments_advanceHorizon _ i k _ _)
  split
  · exact (h1 _).trans (keepsSegments_vibrationBlock _ k _ _ _)
  · exact h1 _

theorem keepsSegments_endBlock (s : State) (i : Fin 16) : KeepsSegments s (endBlock s i) := by
  unfold endBlock
  dsimp only
  split
  · refine KeepsSegments.trans ?_ (keepsSegments_beginBlock _ i)
    split
    · exact (keepsSegments_onLane s i _).trans (keepsSegments_testVerdict _ i)
    · split
      · exact keepsSegments_endAE s i _ _ _ _
      · exact keepsSegments_endVibration s i _ _ _
  · exact .refl s

/-! ### Writes of lane masters (R6 to R11, R22, R117, R118) -/

theorem keepsSegments_enterQueue (s : State) (i : Fin 16) (d : BlockData) (gap : Bool) (p : Nat) (unseed : Bool) :
    KeepsSegments s (enterQueue s i d gap p unseed) := by
  unfold enterQueue
  dsimp only
  split
  · exact (keepsSegments_setLane s i _).trans (keepsSegments_beginBlock _ i)
  · exact keepsSegments_setLane s i _

theorem keepsSegments_offerBlock (s : State) (i : Fin 16) (d : BlockData) (gap : Bool) (p : Nat) :
    KeepsSegments s (offerBlock s i d gap p) := by
  unfold offerBlock
  split
  · exact keepsSegments_enterQueue s i d gap p false
  · exact keepsSegments_onLane s i _

theorem keepsSegments_testGood (s : State) (i : Fin 16) (r : TestRun) (d : BlockData) (missing p : Nat) :
    KeepsSegments s (testGood s i r d missing p) := by
  have h1 (x : TestRun) : KeepsSegments s (s.onLane i fun l => { l with test := some x }) := keepsSegments_onLane s i _
  unfold testGood
  dsimp only
  split
  · split
    · split
      · exact (h1 _).trans (keepsSegments_enterQueue _ i d _ p _)
      · exact (h1 _).trans (keepsSegments_onLane _ i _)
    · exact h1 _
  · exact h1 _

theorem keepsSegments_testBad (s : State) (i : Fin 16) (r : TestRun) : KeepsSegments s (testBad s i r) := by
  unfold testBad
  split
  · exact keepsSegments_onLane s i _
  · exact .refl s

theorem keepsSegments_goodBlock (s : State) (i : Fin 16) (d : BlockData) (missing p : Nat) :
    KeepsSegments s (goodBlock s i d missing p) := by
  have h1 : KeepsSegments s (extendRange (s.onLane i fun l => l.checkedGood d missing) i p d.first) :=
    (keepsSegments_onLane s i _).trans (keepsSegments_extendRange _ i p _)
  unfold goodBlock
  dsimp only
  split
  · have h2 := h1.trans (keepsSegments_onLane _ i fun l => { l with goodRun := l.goodRun + 1 })
    split
    · exact h2.trans (keepsSegments_recoverLane _ i)
    · exact h2
  · exact (h1.trans (keepsSegments_testGood _ i _ d missing p)).trans (keepsSegments_testVerdict _ i)
  · exact h1
  · exact h1
  · exact h1.trans (keepsSegments_offerBlock _ i d _ p)

theorem keepsSegments_badBlock (s : State) (i : Fin 16) (reason : FaultReason) :
    KeepsSegments s (badBlock s i reason) := by
  have h1 : KeepsSegments s (s.onLane i fun l => { l with badBlocks := sat16 l.badBlocks 1 }) := keepsSegments_onLane s i _
  unfold badBlock
  dsimp only
  split
  · exact h1.trans (keepsSegments_onLane _ i _)
  · exact (h1.trans (keepsSegments_testBad _ i _)).trans (keepsSegments_testVerdict _ i)
  · exact h1
  · exact h1
  · have h2 := h1.trans (keepsSegments_onLane _ i fun l => { l with badRun := l.badRun + 1 })
    split
    · exact h2.trans (keepsSegments_faultLane _ i reason)
    · exact h2

theorem keepsSegments_laneSeesWrite (s : State) (i : Fin 16) (t : Transfer) (p : Nat) :
    KeepsSegments s (laneSeesWrite s i t p) := by
  have h1 : KeepsSegments s (s.onLane i fun l => { l with silenceTimer := l.silenceTimer.map fun _ => 0 }) :=
    keepsSegments_onLane s i _
  unfold laneSeesWrite
  dsimp only
  split
  · exact h1.trans (keepsSegments_goodBlock _ i _ _ p)
  · exact h1.trans (keepsSegments_badBlock _ i _)

theorem keepsSegments_laneWrite (s : State) (i : Fin 16) (m : Mapping) (t : Transfer) :
    KeepsSegments s (laneWrite s i m t).1 := by
  unfold laneWrite
  dsimp only
  split
  · exact (keepsSegments_reportWrite s i m _).trans (keepsSegments_laneSeesWrite _ i t _)
  · exact keepsSegments_onLane s i _

theorem keepsSegments_writeEffects (s : State) (t : Transfer) : KeepsSegments s (writeEffects s t).1 := by
  unfold writeEffects
  split
  · exact keepsSegments_laneWrite s _ _ t
  · split
    · exact .of_same
    · exact .refl s

theorem keepsSegments_issueForwarded (s : State) (a : Accepted) : KeepsSegments s (issueForwarded s a) := by
  unfold issueForwarded
  dsimp only
  split
  · have h := keepsSegments_writeEffects { s with path := { s.path with
        starvation := if (waitingOwn s).isSome then s.path.starvation + 1 else 0 } } a.t
    exact (h.after (s := s)).before rfl rfl rfl
  · exact .of_same

end Sys2Proof.Machine
end

section
/-! ## Every step keeps the segments (R116, R120) -/

namespace Sys2Proof.Machine

open Sys2Proof.Safety

set_option Elab.async false

/-! ### Commands that start, and events with a condition -/

/-- The start of a command keeps the segments when its own effect does. -/
theorem keepsSegments_startStep {kind : Nat → Bool} {f : Cmd → State → State} {s t : State}
    (hf : ∀ c, KeepsSegments s (f c s)) (h : startStep kind f s = .next t) : KeepsSegments s t := by
  rcases startStep_cases kind f s with hs | ⟨c, -, -, hs⟩
  · rw [hs] at h; cases h; exact .refl s
  · rw [hs] at h; cases h; exact (hf c).before

/-- The start of a command that touches no lane, segment record or hold. -/
theorem keepsSegments_startStep_of_same {kind : Nat → Bool} {f : Cmd → State → State} {s t : State}
    (h : startStep kind f s = .next t) (hl : ∀ c, (f c s).lanes = s.lanes := by intro; simp)
    (hg : ∀ c, (f c s).segs = s.segs := by intro; simp) (hh : ∀ c, (f c s).holds = s.holds := by intro; simp) :
    KeepsSegments s t :=
  keepsSegments_startStep (fun c => .of_same (hl c) (hg c) (hh c)) h

/-- An event whose effect, when its condition holds, keeps the segments. -/
theorem keepsSegments_guarded {g : Bool} {s v u : State} (hv : KeepsSegments s v)
    (h : (if g then Host.Outcome.next (commit s v) else .next s : Reply) = .next u) : KeepsSegments s u := by
  split at h <;> cases h
  · exact hv.before
  · exact .refl s

/-- A state whose lanes, segment records and holds are those of the reset state. -/
theorem keepsSegments_of_reset {s t : State} (hl : t.lanes = State.reset.lanes := by rfl)
    (hg : t.segs = State.reset.segs := by rfl) (hh : t.holds = State.reset.holds := by rfl) : KeepsSegments s t :=
  fun i _ => KeepsSegments.of_same hl hg hh i ((segmentLaw_iff State.reset).mp segmentLaw_reset i)

/-! ### The lane commands (R2 to R5, R20, R44) -/

theorem keepsSegments_complete (s : State) (slot : Fin 32) (n : Nat) : KeepsSegments s (complete s slot n) := .of_same
theorem keepsSegments_refuse (s : State) (slot : Fin 32) (r : Result) : KeepsSegments s (refuse s slot r) := .of_same

theorem keepsSegments_startMapLane (c : Cmd) (s : State) : KeepsSegments s (startMapLane c s) := by
  unfold startMapLane
  split
  · exact keepsSegments_refuse s _ _
  · next i m _ =>
    split
    · exact keepsSegments_refuse s _ _
    · exact (keepsSegments_discardHolds (x := Lane.mappedTo m) (laneLaw_mapped m)).trans (keepsSegments_complete _ _ _)

theorem keepsSegments_startUnmapLane (c : Cmd) (s : State) : KeepsSegments s (startUnmapLane c s) := by
  unfold startUnmapLane
  dsimp only
  split
  · exact keepsSegments_refuse s _ _
  · next i _ =>
    split
    · exact keepsSegments_refuse s _ _
    · split
      · exact keepsSegments_refuse s _ _
      · split
        · exact keepsSegments_complete s _ _
        · exact (keepsSegments_discardHolds (x := (s.lane i).unmapped) laneLaw_unmapped).trans (keepsSegments_complete _ _ _)

theorem keepsSegments_silenceCheck (s : State) (i : Fin 16) : KeepsSegments s (silenceCheck s i) := by
  unfold silenceCheck
  split
  · exact keepsSegments_faultLane s i _
  · exact .refl s

theorem keepsSegments_startSetLaneConditioning (c : Cmd) (s : State) :
    KeepsSegments s (startSetLaneConditioning c s) := by
  unfold startSetLaneConditioning
  dsimp only
  split
  · next i _ _ _ =>
    split
    · exact keepsSegments_refuse s _ _
    · exact ((keepsSegments_onLane s i _).trans (keepsSegments_complete _ _ _)).trans (keepsSegments_silenceCheck _ i)
  · exact keepsSegments_refuse s _ _

theorem keepsSegments_startTestLane (c : Cmd) (s : State) : KeepsSegments s (startTestLane c s) := by
  unfold startTestLane
  dsimp only
  split
  · exact keepsSegments_refuse s _ _
  · next i _ =>
    split
    · exact keepsSegments_refuse s _ _
    · split
      · exact keepsSegments_refuse s _ _
      · exact (keepsSegments_onLane (runCmd s c.slot) i _).after

theorem keepsSegments_startSetDetection (c : Cmd) (s : State) : KeepsSegments s (startSetDetection c s) := by
  unfold startSetDetection
  dsimp only
  split
  · next i _ _ _ _ _ =>
    split
    · exact keepsSegments_refuse s _ _
    · split
      · exact keepsSegments_refuse s _ _
      · exact (keepsSegments_onLane s i _).trans (keepsSegments_complete _ _ _)
  · exact keepsSegments_refuse s _ _

/-! ### Start Station and Stop Station (R13, R48, R49) -/

theorem keepsSegments_onLanesOf (s : State) (k : Fin 4) (f : Lane → Lane) (hf : ∀ l, (f l).mapping = l.mapping) :
    KeepsSegments s (onLanesOf s k f) := by
  refine .of_mappings fun j => ?_
  rw [State.lane_onLanesOf]
  split
  · exact hf _
  · rfl

theorem Lane.atStart_mapping (l : Lane) (st : StationState) : (l.atStart st).mapping = l.mapping := by
  unfold Lane.atStart; split <;> rfl

theorem Lane.atStop_mapping (l : Lane) : l.atStop.mapping = l.mapping := by
  unfold Lane.atStop; split <;> rfl

theorem keepsSegments_startStartStation (c : Cmd) (s : State) : KeepsSegments s (startStartStation c s) := by
  unfold startStartStation
  dsimp only
  split
  · exact keepsSegments_refuse s _ _
  · next k _ =>
    split
    · exact keepsSegments_refuse s _ _
    · split
      · exact keepsSegments_refuse s _ _
      · exact ((keepsSegments_onLanesOf (s.onStation k _) k _ fun l => l.atStart_mapping _).after (s := s)).trans
          (keepsSegments_complete _ _ _)

theorem keepsSegments_startStopStation (c : Cmd) (s : State) : KeepsSegments s (startStopStation c s) := by
  unfold startStopStation
  split
  · exact keepsSegments_refuse s _ _
  · next k _ =>
    split
    · exact keepsSegments_complete s _ _
    · exact ((keepsSegments_onLanesOf (s.onStation k _) k _ Lane.atStop_mapping).after (s := s)).trans
        (keepsSegments_complete _ _ _)

/-! ### Hold Segment, Release Hold, Abort and Restart (R123, R127, R152, R154) -/

theorem keepsSegments_startHoldSegment (c : Cmd) (s : State) : KeepsSegments s (startHoldSegment c s) := by
  unfold startHoldSegment
  dsimp only
  split
  · exact keepsSegments_refuse s _ _
  · split
    · exact keepsSegments_refuse s _ _
    · split
      · exact keepsSegments_refuse s _ _
      · split
        · next hm => exact (keepsSegments_makePending hm _).trans (keepsSegments_complete _ _ _)
        · exact .of_same
        · exact .of_same
        · exact .of_same
        · exact .of_same

theorem keepsSegments_startReleaseHold (c : Cmd) (s : State) : KeepsSegments s (startReleaseHold c s) := by
  unfold startReleaseHold
  dsimp only
  split
  · exact keepsSegments_refuse s _ _
  · split
    · exact keepsSegments_refuse s _ _
    · split
      · exact keepsSegments_refuse s _ _
      · split
        · exact keepsSegments_refuse s _ _
        · split
          · exact keepsSegments_refuse s _ _
          · exact (keepsSegments_releaseAll s _ _).trans (keepsSegments_complete _ _ _)

theorem keepsSegments_abortTarget (s : State) (c : Cmd) : KeepsSegments s (abortTarget s c) := by
  unfold abortTarget
  split
  · exact .of_same
  · split
    · split
      · exact keepsSegments_endTest s _ _
      · exact .refl s
    · exact .of_same
    · exact .of_same
    · exact .refl s
  · exact .refl s

theorem keepsSegments_abortTargets (s : State) (ts : List Cmd) : KeepsSegments s (ts.foldl abortTarget s) :=
  abortTargets_induct (P := KeepsSegments s) (fun t c h => h.trans (keepsSegments_abortTarget t c)) ts s (.refl s)

theorem keepsSegments_startAbort (c : Cmd) (s : State) : KeepsSegments s (startAbort c s) := by
  unfold startAbort
  dsimp only
  split
  · exact keepsSegments_refuse s _ _
  · split
    · exact .of_same
    · exact (keepsSegments_abortTargets s _).trans (keepsSegments_complete _ _ _)

theorem keepsSegments_startRestart (c : Cmd) (s : State) : KeepsSegments s (startRestart c s) :=
  ((keepsSegments_abortTargets (runCmd s c.slot) (abortTargets s c.slot 0xFFFF)).after (s := s)).before rfl rfl rfl

/-! ### The memory path, the writers and RESET_N: of these an issued write and a clearing alone act on segments -/

section
variable {s u : State}

theorem keepsSegments_execTransferArrival {t : Transfer} (h : execTransferArrival t s = .next u) : KeepsSegments s u := by
  unfold execTransferArrival at h
  split at h <;> cases h
  exact .of_same

theorem keepsSegments_execTransferAcceptance {m : Fin 16} (h : execTransferAcceptance m s = .next u) :
    KeepsSegments s u := by
  unfold execTransferAcceptance at h
  split at h
  · exact keepsSegments_guarded .of_same h
  · cases h; exact .refl s

theorem keepsSegments_execForwardedIssue (h : execForwardedIssue s = .next u) : KeepsSegments s u := by
  unfold execForwardedIssue at h
  split at h
  · exact keepsSegments_guarded (keepsSegments_issueForwarded s _) h
  · cases h; exact .refl s

theorem keepsSegments_execForwardedResponse {id : Nat} {a : Answer} (h : execForwardedResponse id a s = .next u) :
    KeepsSegments s u := by
  unfold execForwardedResponse at h
  split at h
  · split at h
    · split at h <;> cases h
      · exact .refl s
      · exact .of_same
    · cases h; exact .refl s
  · cases h

theorem keepsSegments_execOwnWriteIssue (h : execOwnWriteIssue s = .next u) : KeepsSegments s u := by
  unfold execOwnWriteIssue at h
  split at h
  · exact keepsSegments_guarded .of_same h
  · cases h; exact .refl s

theorem keepsSegments_execOwnWriteResponse {id : Nat} {r : Response} (h : execOwnWriteResponse id r s = .next u) :
    KeepsSegments s u := by
  unfold execOwnWriteResponse at h
  split at h
  · split at h <;> cases h
    · exact .refl s
    · exact .of_same
  · cases h; exact .refl s

theorem keepsSegments_execStrayResponse {a : Answer} (h : execStrayResponse a s = .next u) : KeepsSegments s u := by
  unfold execStrayResponse at h
  split at h <;> cases h
  exact .refl s

theorem keepsSegments_execResetNAssertion (h : execResetNAssertion s = .next u) : KeepsSegments s u := by
  unfold execResetNAssertion at h
  cases h
  split
  · exact .refl s
  · exact keepsSegments_of_reset

theorem keepsSegments_execResetNRelease {straps : BitVec 8} (h : execResetNRelease straps s = .next u) :
    KeepsSegments s u := by
  unfold execResetNRelease at h
  cases h
  split
  · exact .of_same
  · exact .refl s

theorem keepsSegments_execQuietTimeout {k : Fin 4} (h : execQuietTimeout k s = .next u) : KeepsSegments s u := by
  unfold execQuietTimeout at h
  exact keepsSegments_guarded .of_same h

theorem keepsSegments_execNoticeWriteHandOn (h : execNoticeWriteHandOn s = .next u) : KeepsSegments s u := by
  unfold execNoticeWriteHandOn at h
  split at h
  · split at h <;> cases h
    · exact .of_same
    · exact .refl s
  · cases h; exact .refl s

theorem keepsSegments_execStatusPartHandOn (h : execStatusPartHandOn s = .next u) : KeepsSegments s u := by
  unfold execStatusPartHandOn at h
  split at h
  · split at h <;> cases h
    · exact .of_same
    · exact .refl s
  · cases h; exact .refl s

theorem keepsSegments_execSnapshotWriteHandOn {slot : Fin 32} (h : execSnapshotWriteHandOn slot s = .next u) :
    KeepsSegments s u := by
  unfold execSnapshotWriteHandOn at h
  split at h
  · split at h <;> cases h
    · exact .of_same
    · exact .refl s
  · cases h; exact .refl s

theorem keepsSegments_execCompletion (h : execCompletion s = .next u) : KeepsSegments s u := by
  unfold execCompletion at h
  split at h
  · split at h <;> cases h
    · exact .of_same
    · exact .refl s
  · cases h; exact .refl s

theorem keepsSegments_execQueueDrained (h : execQueueDrained s = .next u) : KeepsSegments s u := by
  unfold execQueueDrained at h
  split at h <;> cases h
  · exact keepsSegments_of_reset
  · exact .refl s

/-! ### Every command, and the step -/

theorem keepsSegments_exec {c : Instr} (h : exec c s = .next u) : KeepsSegments s u := by
  cases c with
  | transferArrival t => exact keepsSegments_execTransferArrival h
  | transferAcceptance m => exact keepsSegments_execTransferAcceptance h
  | forwardedIssue => exact keepsSegments_execForwardedIssue h
  | forwardedResponse id a => exact keepsSegments_execForwardedResponse h
  | ownWriteIssue => exact keepsSegments_execOwnWriteIssue h
  | ownWriteResponse id r => exact keepsSegments_execOwnWriteResponse h
  | strayResponse a => exact keepsSegments_execStrayResponse h
  | resetNAssertion => exact keepsSegments_execResetNAssertion h
  | resetNRelease straps => exact keepsSegments_execResetNRelease h
  | silenceTimeout i => exact keepsSegments_guarded (keepsSegments_faultLane s i .silent) h
  | blockAnalysisEnd i => exact keepsSegments_guarded (keepsSegments_endBlock s i) h
  | testTimeout i => exact keepsSegments_guarded (keepsSegments_endTest s i .timeout) h
  | quietTimeout k => exact keepsSegments_execQuietTimeout h
  | noticeWriteHandOn => exact keepsSegments_execNoticeWriteHandOn h
  | statusWriteStart => exact keepsSegments_guarded (.of_same (startStatusWrite_lanes s)) h
  | statusPartHandOn => exact keepsSegments_execStatusPartHandOn h
  | snapshotWriteHandOn slot => exact keepsSegments_execSnapshotWriteHandOn h
  | completion => exact keepsSegments_execCompletion h
  | queueDrained => exact keepsSegments_execQueueDrained h
  | mapLane => exact keepsSegments_startStep (keepsSegments_startMapLane · s) (show execMapLane s = .next u from h)
  | unmapLane => exact keepsSegments_startStep (keepsSegments_startUnmapLane · s) (show execUnmapLane s = .next u from h)
  | setLaneConditioning =>
    exact keepsSegments_startStep (keepsSegments_startSetLaneConditioning · s)
      (show execSetLaneConditioning s = .next u from h)
  | testLane => exact keepsSegments_startStep (keepsSegments_startTestLane · s) (show execTestLane s = .next u from h)
  | setDetection =>
    exact keepsSegments_startStep (keepsSegments_startSetDetection · s) (show execSetDetection s = .next u from h)
  | startStation =>
    exact keepsSegments_startStep (keepsSegments_startStartStation · s) (show execStartStation s = .next u from h)
  | stopStation =>
    exact keepsSegments_startStep (keepsSegments_startStopStation · s) (show execStopStation s = .next u from h)
  | holdSegment =>
    exact keepsSegments_startStep (keepsSegments_startHoldSegment · s) (show execHoldSegment s = .next u from h)
  | releaseHold =>
    exact keepsSegments_startStep (keepsSegments_startReleaseHold · s) (show execReleaseHold s = .next u from h)
  | abort => exact keepsSegments_startStep (keepsSegments_startAbort · s) (show execAbort s = .next u from h)
  | restart => exact keepsSegments_startStep (keepsSegments_startRestart · s) (show execRestart s = .next u from h)
  | badKind => exact keepsSegments_startStep_of_same (f := startBadKind) h
  | setStation => exact keepsSegments_startStep_of_same (show execSetStation s = .next u from h)
  | setLocationLine => exact keepsSegments_startStep_of_same (show execSetLocationLine s = .next u from h)
  | setMapCriteria => exact keepsSegments_startStep_of_same (show execSetMapCriteria s = .next u from h)
  | clearCells => exact keepsSegments_startStep_of_same (show execClearCells s = .next u from h)
  | copyMap => exact keepsSegments_startStep_of_same (show execCopyMap s = .next u from h)
  | setNoticeRing => exact keepsSegments_startStep_of_same (show execSetNoticeRing s = .next u from h)
  | setStatusBlock => exact keepsSegments_startStep_of_same (show execSetStatusBlock s = .next u from h)
  | writeStatus => exact keepsSegments_startStep_of_same (show execWriteStatus s = .next u from h)

theorem keepsSegments_tick (s : State) : KeepsSegments s (tick s) := by
  unfold tick
  split
  · exact .refl s
  · refine .of_mappings fun j => ?_
    simp only [State.lane, Vector.get_eq_getElem, Vector.getElem_map]
    rfl

theorem keepsSegments_step (h : step s = .next u) : KeepsSegments s u := by
  unfold step at h
  split at h
  · cases h; exact keepsSegments_tick s
  · exact (keepsSegments_exec h).after

end

/-- Settles O57: SegmentLaw is a law of each lane (`segmentLaw_iff`), and every operation keeps each lane's law
(`KeepsSegments`), so every step does. -/
theorem segmentsKept : Obligations.SegmentsKept := fun _ _ h => (keepsSegments_step h).segmentLaw

end Sys2Proof.Machine
end

section
/-! ## Hold Segment and Release Hold (R119, R121, R123, R127) -/

namespace Sys2Proof.Machine

open Sys2Proof.Safety

set_option Elab.async false

/-! ### Hold Segment (R121, R123) -/

/-- R123: what Hold Segment does by the result of its request, once its parameters have passed. -/
theorem startHoldSegment_passed {s : State} {c : Cmd} {i : Fin 16} {m : Mapping} (h4 : u8 c.bytes.toList 4 = i.val)
    (hm : (s.lane i).mapping = some m) (h5 : u8 c.bytes.toList 5 < m.logical + m.spares) :
    startHoldSegment c s = match pinCase s i (u8 c.bytes.toList 5) with
      | .made => complete (makePending s i (u8 c.bytes.toList 5) .command) c.slot 0
      | .merged .pending => complete s c.slot 1
      | .merged .held => complete s c.slot 2
      | .full => decideCmd s c.slot .full 0 []
      | .notFound => decideCmd s c.slot .notFound 0 [] := by
  simp only [startHoldSegment, h4, laneOf_val, hm, if_neg (Nat.not_le.mpr h5)] <;> rfl

/-- R123: a started Hold Segment that is decided at once without an effect on the hold list. -/
theorem exec_holdSegment_decided {s : State} {c : Cmd} (hl : CommandLaw s) (h : Starts s c 0x0D) (r : Result)
    (d : BitVec 16) (hf : startHoldSegment c s = decideCmd s c.slot r d []) :
    exec .holdSegment s = .next (commit s (completeStarted c { s with cmd := ended s.cmd c r d })) := by
  rw [show exec .holdSegment s = _ from startStep_of_starts (f := startHoldSegment) h, hf, decide_started r d hl h.1 rfl]

/-- Settles O48, by the result of the pin request. -/
theorem segmentHeld : Obligations.SegmentHeld := by
  intro s c lane m t hl hs p h4 hm ht hp
  have hstart := startHoldSegment_passed h4 hm hp
  refine ⟨fun h hh hlane hseg huniq => ?_, fun hfree => ?_⟩
  · rw [pinCase_pinned hh hlane hseg huniq] at hstart
    cases hst : h.state with
    | pending =>
      rw [hst] at hstart
      exact exec_holdSegment_decided hl hs .done 1 hstart
    | held =>
      rw [hst] at hstart
      exact exec_holdSegment_decided hl hs .done 2 hstart
  · rw [pinCase_unpinned hfree ht] at hstart
    refine ⟨fun hunmapped => ?_, fun hmapped hfull => ?_, fun hmapped hroom => ?_⟩
    · rw [if_neg hunmapped] at hstart
      exact exec_holdSegment_decided hl hs .notFound 0 hstart
    · rw [if_pos hmapped, if_neg (Nat.not_lt.mpr hfull)] at hstart
      exact exec_holdSegment_decided hl hs .full 0 hstart
    · rw [if_pos hmapped, if_pos hroom] at hstart
      dsimp only at hstart
      rw [makePending_eq ht] at hstart
      rw [show exec .holdSegment s = _ from startStep_completes (f := startHoldSegment) hl hs hstart rfl]
      rfl

/-! ### Release Hold (R119, R127) -/

/-- R127: the entries a Release Hold names. -/
theorem releaseNames_eq (lane : Fin 16) (code : Nat) :
    releaseNames lane code = fun h => decide (h.lane = lane ∧ (code = 255 ∨ h.segment = code)) := by
  funext h
  simp [releaseNames]

/-- R119, R127: what releasing an entry does to its lane's segment record. -/
theorem releaseEntry_eq : releaseEntry = fun g h => if h.state = .held then { g with
    table := g.table.map fun t => { t with free := insertAscending h.segment t.free, ranges := t.ranges.set h.segment none }
    held := g.held - 1 } else g := by
  funext g h
  unfold releaseEntry
  cases h.state <;> rfl

/-- R127: a Release Hold that names an entry. -/
theorem startReleaseHold_released {s : State} {c : Cmd} {i : Fin 16} {m : Mapping} (h4 : u8 c.bytes.toList 4 = i.val)
    (hm : (s.lane i).mapping = some m)
    (h5 : u8 c.bytes.toList 5 = 255 ∨ u8 c.bytes.toList 5 < m.logical + m.spares ∧ u8 c.bytes.toList 5 ≤ 15)
    (hn : s.holds.filter (releaseNames i (u8 c.bytes.toList 5)) ≠ []) :
    startReleaseHold c s = complete (releaseAll s i (u8 c.bytes.toList 5)) c.slot
      (s.holds.filter (releaseNames i (u8 c.bytes.toList 5))).length := by
  simp only [startReleaseHold, h4, laneOf_val, hm]
  rw [if_neg (by omega), if_neg (by omega), if_neg (mt List.length_eq_zero_iff.mp hn)]

/-- Settles O49. -/
theorem holdReleased : Obligations.HoldReleased := by
  intro s c lane m hl hs p named h4 hm hp hn
  have hnamed : s.holds.filter (releaseNames lane p) = named := by rw [releaseNames_eq]
  have hall : releaseAll s lane p = { s with
      segs := s.segs.set lane (named.foldl releaseEntry (s.seg lane))
      holds := s.holds.filter fun h => decide (¬(h.lane = lane ∧ (p = 255 ∨ h.segment = p))) } := by
    unfold releaseAll
    rw [hnamed, releaseNames_eq]
    simp only [decide_not]
    rfl
  have hf := startReleaseHold_released h4 hm hp (by rw [hnamed]; exact hn)
  rw [show u8 c.bytes.toList 5 = p from rfl, hnamed, hall, releaseEntry_eq] at hf
  rw [show exec .releaseHold s = _ from startStep_completes (f := startReleaseHold) hl hs hf rfl]

end Sys2Proof.Machine
end

section
/-! ## The report of a lane write, and the issue that takes it (R117 to R119, R124 to R126) -/

namespace Sys2Proof.Machine

open Sys2Proof.Safety

set_option Elab.async false

/-! ### The report (R117, R118, R124, R125) -/

section
variable {s : State} {i : Fin 16} {m : Mapping} {k p q : Nat} {t : SegTable} {h : HoldEntry}

theorem getD_of_getElem? {l : List Nat} (h : l[k]? = some p) : l.getD k 0 = p := by
  rw [List.getD_eq_getElem?_getD, h]; rfl

/-- R117: a write into the segment of the write position is no entry. -/
theorem reportWrite_same (ht : (s.seg i).table = some t) (hp : t.position = some k) : reportWrite s i m k = s := by
  unfold reportWrite
  rw [ht]
  exact if_pos hp

/-- R118: an entry, once its hold is served. -/
theorem reportWrite_entry (ht : (s.seg i).table = some t) (hp : t.position ≠ some k) {u : State}
    (hu : serveHold s i m (s.seg i) t k = u) {t' : SegTable} (ht' : (u.seg i).table = some t') (hm : t'.map[k]? = some p) :
    reportWrite s i m k = u.setSeg i { u.seg i with
      table := some { t' with position := some k, ranges := t'.ranges.set p none } } := by
  unfold reportWrite
  rw [ht]
  refine (if_neg hp).trans ?_
  dsimp only
  rw [hu, ht', Option.map_some, restartRange, getD_of_getElem? hm]

/-- R120: under SegmentLaw at most one PENDING hold waits on a logical segment. -/
theorem pendingHold_eq (hl : SegmentLaw s) (ht : (s.seg i).table = some t) (hh : h ∈ s.holds) (hlane : h.lane = i)
    (hk : h.logical = k) (hst : h.state = .pending) :
    pendingHold s.holds i k = some h ∧ t.map[k]? = some h.segment := by
  obtain ⟨x, -, hpart⟩ := parted_of_table ht ((segmentLaw_iff s).mp hl i)
  have hmem : h ∈ holdsOf s i := mem_holdsOf.mpr ⟨hh, hlane⟩
  have hw : t.map[k]? = some h.segment := hk ▸ hpart.waiting h hmem hst
  refine ⟨?_, hw⟩
  cases hf : pendingHold s.holds i k with
  | none => exact absurd (List.find?_eq_none.mp hf h hh) (by simp [hlane, hk, hst])
  | some y =>
    obtain ⟨hymem, rfl, hyst⟩ := pendingHold_some hf
    have hyw := hpart.waiting y hymem hyst
    rw [hw, Option.some.injEq] at hyw
    rw [List.inj_on_of_nodup_map hpart.distinct hymem hmem hyw.symm]

/-- R118: no hold waits. -/
theorem reportWrite_unheld (ht : (s.seg i).table = some t) (hp : t.position ≠ some k) (hm : t.map[k]? = some p)
    (hn : ∀ h ∈ s.holds, h.lane = i → h.logical = k → h.state ≠ .pending) :
    reportWrite s i m k = { s with segs := s.segs.set i { s.seg i with
      table := some { t with position := some k, ranges := t.ranges.set p none } } } :=
  reportWrite_entry ht hp (serveHold_none (List.find?_eq_none.mpr fun x hx => by simpa using hn x hx)) ht hm

section
variable (ht : (s.seg i).table = some t) (hp : t.position ≠ some k) (hpend : pendingHold s.holds i k = some h)
  (hm : t.map[k]? = some h.segment)
include ht hp hpend hm

/-- R124: the lowest free segment is swapped in. -/
theorem reportWrite_swap {free : List Nat} (hf : t.free = q :: free) :
    reportWrite s i m k = { s with
      segs := s.segs.set i { s.seg i with
        table := some { map := t.map.set k q, free := free, position := some k, ranges := t.ranges.set q none }
        held := (s.seg i).held + 1 }
      holds := s.holds.map fun x => if x = h then h.taken (t.ranges.getD h.segment none) else x
      notices := s.notices.take (holdNotice s .holdTaken i m h h.segment (t.ranges.getD h.segment none)) } := by
  have hserve := serveHold_swap (m := m) (g := s.seg i) hpend hf
  rw [getD_of_getElem? hm] at hserve
  obtain ⟨hk, -⟩ := List.getElem?_eq_some_iff.mp hm
  have hseg : State.seg _ i = _ := State.seg_setSeg s i { s.seg i with
    table := some { t with map := t.map.set k q, free := free }, held := (s.seg i).held + 1 }
  rw [reportWrite_entry ht hp hserve (congrArg Segs.table hseg) (List.getElem?_set_self hk)]
  simp [State.setSeg, State.seg, Vector.get_eq_getElem]

/-- R125: with no free segment the hold is lost. -/
theorem reportWrite_loss (hf : t.free = []) :
    reportWrite s i m k = { s with
      segs := s.segs.set i { s.seg i with table := some { t with position := some k, ranges := t.ranges.set h.segment none } }
      holds := s.holds.filter fun x => decide (x ≠ h)
      notices := s.notices.take (holdNotice s .holdLost i m h h.segment (t.ranges.getD h.segment none)) } := by
  have hserve := serveHold_loss (m := m) (g := s.seg i) hpend hf
  rw [getD_of_getElem? hm] at hserve
  rw [reportWrite_entry ht hp hserve ht hm]
  rfl

end

end

/-! ### The notice (R126) -/

theorem holdNotice_eq (s : State) (kind : NoticeKind) (i : Fin 16) (m : Mapping) (h : HoldEntry) (p : Nat)
    (range : Option (SampleTime × SampleTime)) : holdNotice s kind i m h p range =
      { kind := kind, station := m.station.val, lane := i.val, cycle := (s.station m.station).cycle
        time := (s.lane i).horizon.getD 0
        cell := match h.reason with | .event cell => cell | .command => 0xFFFF
        v1 := BitVec.ofNat 32 (m.base.toNat + p * (m.blocks * 128))
        v2 := match range with | some (first, _) => first | none => 0
        v3 := match range with | some (_, last) => last | none => 0 } := by
  unfold holdNotice
  cases range <;> cases h.reason <;> rfl

/-! ### The issue (R10, R11, R14, R119) -/

/-- R11: a block offered to a queue that is not empty changes its lane alone. -/
theorem offerBlock_setLane_of_queue (s : State) (i : Fin 16) {x : Lane} (hq : x.queue ≠ []) (d : BlockData) (gap : Bool)
    (p : Nat) : ∃ y, offerBlock (s.setLane i x) i d gap p = s.setLane i y := by
  rcases Nat.lt_or_ge x.queue.length 4 with hroom | hfull
  · rw [offerBlock_room s i d p hroom, enterQueue_setLane, if_neg hq]
    exact ⟨_, rfl⟩
  · exact ⟨_, offerBlock_full s i d p hfull gap⟩

section
variable {s : State} {i : Fin 16} {t : Transfer} {d : BlockData} {g p : Nat} {r : FaultReason}
  (hst : (s.lane i).state = .idle ∨ (s.lane i).state = .settling ∨ (s.lane i).state = .live)
include hst

/-- R14: a write refused below the eighth bad block in a row changes its lane alone. -/
theorem laneSeesWrite_refused (hc : checkWrite i (s.lane i).continuity t = .bad r) (h8 : (s.lane i).badRun < 7) (p : Nat) :
    ∃ y, laneSeesWrite s i t p = s.setLane i y := by
  rw [laneSeesWrite_bad hc, badBlock_running s i (x := (s.lane i).heard) hst]
  exact ⟨_, if_neg (show ¬ 8 ≤ (s.lane i).badRun + 1 by omega)⟩

/-- R10, R119: a good block that finds a block queued extends its segment's range and changes its lane. -/
theorem laneSeesWrite_queued (hc : checkWrite i (s.lane i).continuity t = .good d g) (hq : (s.lane i).queue ≠ []) (p : Nat) :
    ∃ y, laneSeesWrite s i t p = (extendRange s i p d.first).setLane i y := by
  rw [laneSeesWrite_good hc, goodBlock_running s i (x := (s.lane i).heard) d g p hst]
  exact offerBlock_setLane_of_queue _ i (x := (s.lane i).heard.checkedGood d g) hq d _ p

end

/-- Settles O12: the report by `serveHold`'s cases, and the issue by what the write then does to its lane. -/
theorem entryServesHold : Obligations.EntryServesHold := by
  refine ⟨fun s i m k t hl hm ht hk => ⟨fun hpos => reportWrite_same ht hpos, fun p hpos hmap hn => ?_,
    fun h hpos hh hlane hlog hst => ?_⟩, holdNotice_eq, ?_⟩
  · exact reportWrite_unheld ht hpos hmap hn
  · obtain ⟨hpend, hmap⟩ := pendingHold_eq hl ht hh hlane hlog hst
    refine ⟨fun q free hf => ?_, fun hf => reportWrite_loss ht hpos hpend hmap hf⟩
    exact reportWrite_swap ht hpos hpend hmap hf
  · intro s a i m bs hl ho hr hw hp ha hm k hk hst u d
    obtain ⟨tb, p, htb, hmap, -⟩ := reportWrite_table hl (laneAt_mapping ha) hk
    have hlane : u.lane i = s.lane i := State.lane_congr (reportWrite_lanes s i m k) i
    have hexec : exec .forwardedIssue s = .next (commit s ((laneSeesWrite u i a.t p).withPath
        (issuedPath s a (redirect m p a.t.addr.toNat) []))) := exec_ownWrite ho hr hw hp ha hm hk htb hmap
    have hst' : (u.lane i).state = .idle ∨ (u.lane i).state = .settling ∨ (u.lane i).state = .live := hlane ▸ hst
    refine ⟨_, hexec, fun hlen h7 => ?_, fun hlen haddr hstrobes hsync hid hcont hq => ?_⟩
    · have hc : checkWrite i (u.lane i).continuity a.t = .bad .torn := checkWrite_bad hp fun hwhole => hlen hwhole.1
      obtain ⟨y, hy⟩ := laneSeesWrite_refused hst' hc (by rw [hlane]; exact h7) p
      rw [commit_segs, commit_holds, commit_notices, hy]
      exact ⟨rfl, rfl, rfl⟩
    · have hc : checkWrite i (u.lane i).continuity a.t = .good d 0 :=
        checkWrite_good hp ⟨⟨hlen, haddr, hstrobes⟩, hsync, hid⟩ (.inl ⟨by rw [hlane]; exact hcont, rfl⟩)
      obtain ⟨y, hy⟩ := laneSeesWrite_queued hst' hc (by rw [hlane]; exact hq) p
      have hsegs : ∀ j, State.seg (commit s ((laneSeesWrite u i a.t p).withPath
          (issuedPath s a (redirect m p a.t.addr.toNat) []))) j = (extendRange u i p d.first).seg j := fun j => by
        rw [State.seg_congr (commit_segs _ s), hy]
        rfl
      refine ⟨?_, ?_, fun j hj => ?_, fun tb' p' htb' hmap' => ?_⟩
      · rw [commit_holds, hy]; rfl
      · rw [commit_notices, hy]; rfl
      · exact (hsegs j).trans (State.seg_setSeg_ne _ _ hj)
      · obtain rfl : tb' = tb := Option.some.inj (htb'.symm.trans htb)
        obtain rfl : p' = p := Option.some.inj (hmap'.symm.trans hmap)
        refine (hsegs i).trans ((State.seg_setSeg _ _ _).trans ?_)
        rw [htb']
        rfl

end Sys2Proof.Machine
end

section
/-! ## The issue of a plain transfer, the transfer that is first, and the lane at an address (R131, R133, R136, R138) -/

namespace Sys2Proof.Machine

open Sys2Proof.Safety

set_option Elab.async false

/-! ### A transfer that acts on nothing (R131, R136) -/

/-- R136: a write outside the lane windows and the command window has no effect at issue. -/
theorem writeEffects_plain {s : State} {t : Transfer} {bs : List Beat} (hp : t.payload = .write bs)
    (hl : laneAt s t.addr.toNat = none)
    (hc : ∀ v, s.path.cmdBase = some v → beatsIn t.addr.toNat (cmdWindowBase v) 2048 bs = []) :
    writeEffects s t = (s, t.addr) := by
  unfold writeEffects
  rw [hl]
  dsimp only
  split
  · next v hv => rw [writeBeats_write hp, hc v hv]; rfl
  · rfl

/-- R131, step 3: a transfer without an effect is put out at its own address. -/
theorem issueForwarded_plain {s : State} {a : Accepted}
    (h : isWrite a.t = true → writeEffects (s.withPath (startedPath s)) a.t = (s.withPath (startedPath s), a.t.addr)) :
    issueForwarded s a = s.withPath (issuedPath s a a.t.addr (ringOffsets s a.t)) := by
  have heffect : (if isWrite a.t then writeEffects (s.withPath (startedPath s)) a.t
      else (s.withPath (startedPath s), a.t.addr)) = (s.withPath (startedPath s), a.t.addr) := by
    split
    · next hw => exact h hw
    · rfl
  rw [issueForwarded_eq, heffect]
  unfold startedPath issuedPath
  cases waitingOwn s <;> rfl

/-! ### The transfer that is first (R133, R138) -/

/-- R138: which of the best so far and the next accepted transfer goes first. -/
def pickReady (best : Option Accepted) (a : Accepted) : Option Accepted :=
  if a.phase = .ready then (match best with
    | some b => if a.id < b.id then some a else some b
    | none => some a)
  else best

theorem firstReady_eq (s : State) : firstReady s = s.path.accepted.foldl pickReady none := rfl

/-- The first to arrive of the ready transfers of a list, if there is one. -/
def IsFirstReady (l : List Accepted) : Option Accepted → Prop
  | some a => a ∈ l ∧ a.phase = .ready ∧ ∀ b ∈ l, b.phase = .ready → a.id ≤ b.id
  | none => ∀ b ∈ l, b.phase ≠ .ready

theorem isFirstReady_snoc {l : List Accepted} {best : Option Accepted} (h : IsFirstReady l best) (x : Accepted) :
    IsFirstReady (l ++ [x]) (pickReady best x) := by
  have hall : ∀ P : Accepted → Prop, (∀ b ∈ l, P b) → P x → ∀ b ∈ l ++ [x], P b := fun P hP hPx b hb =>
    (List.mem_append.mp hb).elim (hP b) fun h => List.mem_singleton.mp h ▸ hPx
  have hmem : x ∈ l ++ [x] := List.mem_append_right l (List.mem_singleton_self x)
  unfold pickReady
  by_cases hx : x.phase = .ready
  · rw [if_pos hx]
    cases best with
    | none => exact ⟨hmem, hx, hall _ (fun b hb hr => absurd hr (h b hb)) fun _ => le_rfl⟩
    | some a =>
      obtain ⟨ha, har, hmin⟩ := h
      dsimp only
      split
      · next hlt => exact ⟨hmem, hx, hall _ (fun b hb hr => hlt.le.trans (hmin b hb hr)) fun _ => le_rfl⟩
      · next hge => exact ⟨List.mem_append_left _ ha, har, hall _ hmin fun _ => Nat.le_of_not_lt hge⟩
  · rw [if_neg hx]
    cases best with
    | none => exact hall _ h hx
    | some a =>
      obtain ⟨ha, har, hmin⟩ := h
      exact ⟨List.mem_append_left _ ha, har, hall _ hmin fun hr => absurd hr hx⟩

theorem isFirstReady_foldl (l : List Accepted) : IsFirstReady l (l.foldl pickReady none) := by
  induction l using List.reverseRecOn with
  | nil => exact fun b hb => absurd hb List.not_mem_nil
  | append_singleton l x ih =>
    rw [List.foldl_append]
    exact isFirstReady_snoc ih x

/-- R138: accepted transfers have distinct numbers, so that the first ready one is the one of the smallest number. -/
theorem firstReady_iff {s : State} (hl : PathLaw s) (a : Accepted) : firstReady s = some a ↔
    a ∈ s.path.accepted ∧ a.phase = .ready ∧ ∀ b ∈ s.path.accepted, b.phase = .ready → a.id ≤ b.id := by
  have hfirst := isFirstReady_foldl s.path.accepted
  rw [← firstReady_eq] at hfirst
  constructor
  · intro h
    rw [h] at hfirst
    exact hfirst
  · rintro ⟨ha, har, hmin⟩
    obtain ⟨hids, -⟩ := hl
    cases hf : firstReady s with
    | none => rw [hf] at hfirst; exact absurd har (hfirst a ha)
    | some b =>
      rw [hf] at hfirst
      obtain ⟨hb, hbr, hbmin⟩ := hfirst
      have hid : b.id = a.id := le_antisymm (hbmin a ha har) (hmin b hb hbr)
      rw [List.inj_on_of_nodup_map (List.nodup_append.mp hids).2.1 hb ha hid]

/-! ### The lane at an address (R136) -/

/-- R136: the address lies in the window of lane `i`, mapped by `m`. -/
def InLaneWindow (s : State) (addr : Nat) (i : Fin 16) (m : Mapping) : Prop :=
  (s.lane i).mapping = some m ∧ m.base.toNat ≤ addr ∧ addr < m.base.toNat + (m.logical + m.spares) * (m.blocks * 128)

section
variable {s : State} {addr : Nat} {i : Fin 16} {m : Mapping}

theorem inLaneWindow_of_laneAt (h : laneAt s addr = some (i, m)) : InLaneWindow s addr i m := by
  unfold laneAt at h
  obtain ⟨j, -, hj⟩ := List.exists_of_findSome?_eq_some h
  split at hj
  · next x hx =>
    split at hj <;> cases hj
    next hin => exact ⟨hx, hin⟩
  · cases hj

theorem laneAt_ne_none (h : InLaneWindow s addr i m) : laneAt s addr ≠ none := fun hn => by
  obtain ⟨hm, hin⟩ := h
  have hi := List.findSome?_eq_none_iff.mp hn i (List.mem_finRange i)
  rw [hm] at hi
  dsimp only at hi
  rw [if_pos (show m.base.toNat ≤ addr ∧ addr < m.base.toNat + m.windowSize from hin)] at hi
  cases hi

theorem laneAt_eq_none_iff : laneAt s addr = none ↔ ∀ i m, ¬InLaneWindow s addr i m :=
  ⟨fun hn _ _ hin => laneAt_ne_none hin hn, fun h => by
    cases hl : laneAt s addr with
    | none => rfl
    | some x => exact absurd (inLaneWindow_of_laneAt hl) (h x.1 x.2)⟩

/-- R134, R136: the window that alone holds an address is found. -/
theorem laneAt_of_unique (h : InLaneWindow s addr i m) (hu : ∀ j x, InLaneWindow s addr j x → j = i) :
    laneAt s addr = some (i, m) := by
  obtain ⟨⟨j, x⟩, hj⟩ := Option.ne_none_iff_exists'.mp (laneAt_ne_none h)
  have hx := inLaneWindow_of_laneAt hj
  obtain rfl : j = i := hu j x hx
  obtain rfl : x = m := Option.some.inj (hx.1.symm.trans h.1)
  exact hj

end

/-- Settles O9. -/
theorem plainTransferIssued : Obligations.PlainTransferIssued := by
  refine ⟨fun s a ho hr hw hplain => ?_, fun s hl a => firstReady_iff hl a, fun s addr =>
    ⟨laneAt_eq_none_iff, fun i m => inLaneWindow_of_laneAt, fun i m => laneAt_of_unique⟩⟩
  have heffect : isWrite a.t = true →
      writeEffects (s.withPath (startedPath s)) a.t = (s.withPath (startedPath s), a.t.addr) := fun hwrite => by
    rcases hplain with ⟨n, hread⟩ | ⟨bs, hp, hlane, hcmd⟩
    · rw [isWrite, hread] at hwrite; cases hwrite
    · exact writeEffects_plain hp hlane hcmd
  rw [execForwardedIssue_issues ho hr hw, issueForwarded_plain heffect]
  rfl

end Sys2Proof.Machine
end

section
/-! ## The order record of one master, and the responses returned in its order (R131, R133, R160) -/

namespace Sys2Proof.Machine

open Sys2Proof.Safety

set_option Elab.async false

/-! ### The order record (R133) -/

/-- A master's order record: its accepted transfers, the oldest first. -/
def orderOf (s : State) (m : Fin 16) : List Accepted := s.path.accepted.filter fun a => decide (a.t.master = m)

theorem mem_orderOf {s : State} {m : Fin 16} {a : Accepted} : a ∈ orderOf s m ↔ a ∈ s.path.accepted ∧ a.t.master = m := by
  simp [orderOf]

theorem oldestOf_eq_head? (s : State) (m : Fin 16) : oldestOf s m = (orderOf s m).head? :=
  List.head?_filter.symm

theorem unanswered_iff (a : Accepted) : a.unanswered = true ↔ ∀ ans ring, a.phase ≠ .answered ans ring := by
  unfold Accepted.unanswered
  cases a.phase <;> simp

/-- A transfer in a new phase, when it is the one of this number. -/
def Accepted.phased (id : Nat) (ph : Phase) (a : Accepted) : Accepted := if a.id = id then { a with phase := ph } else a

section
variable (id : Nat) (ph : Phase) (a : Accepted)

theorem Accepted.phased_eq : ∃ ph', a.phased id ph = { a with phase := ph' } := by
  unfold Accepted.phased
  split
  · exact ⟨ph, rfl⟩
  · exact ⟨a.phase, rfl⟩

@[simp] theorem Accepted.phased_id : (a.phased id ph).id = a.id := by obtain ⟨ph', h⟩ := a.phased_eq id ph; rw [h]
@[simp] theorem Accepted.phased_t : (a.phased id ph).t = a.t := by obtain ⟨ph', h⟩ := a.phased_eq id ph; rw [h]
@[simp] theorem Accepted.phased_stamp : (a.phased id ph).stamp = a.stamp := by
  obtain ⟨ph', h⟩ := a.phased_eq id ph; rw [h]

end

theorem setPhase_eq (s : State) (id : Nat) (ph : Phase) : setPhase s id ph =
    { s with path := { s.path with accepted := s.path.accepted.map (Accepted.phased id ph) } } := rfl

theorem orderOf_setPhase (s : State) (id : Nat) (ph : Phase) (m : Fin 16) :
    orderOf (setPhase s id ph) m = (orderOf s m).map (Accepted.phased id ph) := by
  simp [orderOf, setPhase_eq, List.filter_map, Function.comp_def]

/-- A change of phase leaves a list in which the transfer does not stand. -/
theorem map_phased_of_ne {id : Nat} {l : List Accepted} (h : ∀ x ∈ l, x.id ≠ id) (ph : Phase) :
    l.map (Accepted.phased id ph) = l :=
  (List.map_congr_left fun x hx => if_neg (h x hx)).trans (List.map_id' l)

/-- An answered transfer of an order record, with its answer and its ring offsets. -/
abbrev Answered := Accepted × Answer × List Nat

/-- An order record is a run of answered transfers, and what stands behind them from the first that is not. -/
theorem exists_answered_run (l : List Accepted) : ∃ (rs : List Answered) (rest : List Accepted),
    l = rs.map (·.1) ++ rest ∧ (∀ x ∈ rs, x.1.phase = .answered x.2.1 x.2.2) ∧ ∀ y ∈ rest.head?, y.unanswered = true := by
  induction l with
  | nil => exact ⟨[], [], rfl, by simp, by simp⟩
  | cons a l ih =>
    by_cases ha : a.unanswered = true
    · exact ⟨[], a :: l, rfl, by simp, by simpa using ha⟩
    · simp only [unanswered_iff, not_forall, not_not] at ha
      obtain ⟨ans, ring, hp⟩ := ha
      obtain ⟨rs, rest, rfl, hrs, hrest⟩ := ih
      exact ⟨(a, ans, ring) :: rs, rest, rfl, List.forall_mem_cons.mpr ⟨hp, hrs⟩, hrest⟩

/-! ### Responses returned (R131, R133, R160) -/

/-- R160: the notice writer once the answer to a read with these ring offsets has been returned. -/
def NoticeWriter.afterRead (w : NoticeWriter) (ans : Answer) (ring : List Nat) (stamp : Nat) : NoticeWriter :=
  match ans.resp, w.ring with
  | .done, some r => w.consume r.entries (consumedCount w r.entries ring stamp)
  | _, _ => w

theorem returnResponse_eq (s : State) (a : Accepted) (ans : Answer) (ring : List Nat) :
    returnResponse s a ans ring = { s with
      path := { s.path with
        accepted := s.path.accepted.filter fun x => decide (x.id ≠ a.id)
        masterPort := s.path.masterPort ++ [{ id := a.id, master := a.t.master, answer := ans }] }
      notices := s.notices.afterRead ans ring a.stamp } := by
  unfold returnResponse NoticeWriter.afterRead reportRead
  cases ans.resp <;> cases hr : s.notices.ring <;> simp [hr]

/-- The answers of a list returned one after another. -/
def returnAll (s : State) (rs : List Answered) : State := rs.foldl (fun u x => returnResponse u x.1 x.2.1 x.2.2) s

theorem returnAll_eq (s : State) (rs : List Answered) :
    returnAll s rs = { s with
      path := { s.path with
        accepted := s.path.accepted.filter fun x => !rs.any fun y => decide (y.1.id = x.id)
        masterPort := s.path.masterPort ++ rs.map fun x => { id := x.1.id, master := x.1.t.master, answer := x.2.1 } }
      notices := rs.foldl (fun w x => w.afterRead x.2.1 x.2.2 x.1.stamp) s.notices } := by
  induction rs generalizing s with
  | nil => simp [returnAll]
  | cons x rs ih =>
    have hfilter : (s.path.accepted.filter fun y => decide (y.id ≠ x.1.id)).filter
          (fun y => !rs.any fun z => decide (z.1.id = y.id))
        = s.path.accepted.filter fun y => !(x :: rs).any fun z => decide (z.1.id = y.id) := by
      rw [List.filter_filter]
      refine List.filter_congr fun y _ => ?_
      rw [List.any_cons, Bool.not_or, Bool.and_comm, ← decide_not, decide_eq_decide.mpr (not_congr eq_comm)]
    have hstep : returnAll s (x :: rs) = returnAll (returnResponse s x.1 x.2.1 x.2.2) rs := rfl
    rw [hstep, ih, returnResponse_eq]
    dsimp only
    rw [hfilter, List.append_assoc]
    rfl

section
variable {s : State} {m : Fin 16} {a : Accepted}

/-- R133: nothing is returned to a master whose oldest transfer is not answered. -/
theorem deliver_of_unanswered (h : ∀ a, oldestOf s m = some a → a.unanswered = true) (n : Nat) : deliver n s m = s := by
  cases n with
  | zero => rfl
  | succ n =>
    unfold deliver
    split
    · rfl
    · next a ha =>
      have hu := (unanswered_iff a).mp (h a ha)
      split
      case h_1 ans ring hp => exact absurd hp (hu ans ring)
      case h_2 | h_3 | h_4 => rfl

variable (hn : (s.path.accepted.map (·.id)).Nodup)
include hn

/-- R133: a returned transfer leaves the front of its master's order record. -/
theorem orderOf_returnResponse {rest : List Accepted} (h : orderOf s m = a :: rest) (ans : Answer) (ring : List Nat) :
    orderOf (returnResponse s a ans ring) m = rest := by
  have hids : ((orderOf s m).map (·.id)).Nodup := hn.sublist (List.filter_sublist.map _)
  rw [h, List.map_cons, List.nodup_cons] at hids
  have hkeep : ∀ x ∈ rest, decide (x.id ≠ a.id) = true := fun x hx =>
    decide_eq_true fun he => hids.1 (he ▸ List.mem_map_of_mem hx)
  have hcomm : orderOf (returnResponse s a ans ring) m = (orderOf s m).filter fun x => decide (x.id ≠ a.id) := by
    rw [returnResponse_eq, orderOf, orderOf, List.filter_filter, List.filter_filter]
    exact List.filter_congr fun x _ => Bool.and_comm _ _
  rw [hcomm, h, List.filter_cons_of_neg (by simp), List.filter_eq_self.mpr hkeep]

/-- R133: the answered transfers at the front of a master's order record are returned, and no other. -/
theorem deliver_eq_returnAll {rs : List Answered} {rest : List Accepted} (ho : orderOf s m = rs.map (·.1) ++ rest)
    (ha : ∀ x ∈ rs, x.1.phase = .answered x.2.1 x.2.2) (hr : ∀ y ∈ rest.head?, y.unanswered = true) {n : Nat}
    (hle : rs.length ≤ n) : deliver n s m = returnAll s rs ∧ orderOf (returnAll s rs) m = rest := by
  induction rs generalizing s n with
  | nil =>
    refine ⟨deliver_of_unanswered (fun a h => hr a ?_) n, ho⟩
    rw [oldestOf_eq_head?, ho] at h
    exact h
  | cons x rs ih =>
    obtain ⟨n, rfl⟩ : ∃ k, n = k + 1 := ⟨n - 1, by simp only [List.length_cons] at hle; omega⟩
    rw [List.map_cons, List.cons_append] at ho
    obtain ⟨hx, hrs⟩ := List.forall_mem_cons.mp ha
    have hold : oldestOf s m = some x.1 := by rw [oldestOf_eq_head?, ho]; rfl
    have hids : ((returnResponse s x.1 x.2.1 x.2.2).path.accepted.map (·.id)).Nodup := by
      rw [returnResponse_eq]
      exact hn.sublist (List.filter_sublist.map _)
    have hstep : deliver (n + 1) s m = deliver n (returnResponse s x.1 x.2.1 x.2.2) m := by
      simp only [deliver, hold, hx]
    rw [hstep]
    exact ih hids (orderOf_returnResponse hn ho _ _) hrs (Nat.le_of_succ_le_succ hle)

theorem deliverAll_eq_returnAll {rs : List Answered} {rest : List Accepted} (ho : orderOf s m = rs.map (·.1) ++ rest)
    (ha : ∀ x ∈ rs, x.1.phase = .answered x.2.1 x.2.2) (hr : ∀ y ∈ rest.head?, y.unanswered = true) :
    deliverAll s m = returnAll s rs ∧ orderOf (returnAll s rs) m = rest := by
  refine deliver_eq_returnAll hn ho ha hr ?_
  calc rs.length ≤ (rs.map (·.1) ++ rest).length := by simp
    _ = (orderOf s m).length := by rw [ho]
    _ ≤ s.path.accepted.length := List.length_filter_le _ _

/-- R133: the order records of the other masters stay. -/
theorem orderOf_returnAll_ne {rs : List Answered} {m' : Fin 16} (hrs : ∀ x ∈ rs, x.1 ∈ orderOf s m) (hne : m' ≠ m) :
    orderOf (returnAll s rs) m' = orderOf s m' := by
  have hkeep : ∀ x ∈ orderOf s m', (!rs.any fun y => decide (y.1.id = x.id)) = true := fun x hx => by
    obtain ⟨hx, hxm⟩ := mem_orderOf.mp hx
    simp only [Bool.not_eq_true', List.any_eq_false, decide_eq_true_eq]
    intro y hy he
    obtain ⟨hya, hym⟩ := mem_orderOf.mp (hrs y hy)
    rw [List.inj_on_of_nodup_map hn hya hx he] at hym
    exact hne (hxm.symm.trans hym)
  have hcomm : orderOf (returnAll s rs) m' = (orderOf s m').filter fun x => !rs.any fun y => decide (y.1.id = x.id) := by
    rw [returnAll_eq, orderOf, orderOf, List.filter_filter, List.filter_filter]
    exact List.filter_congr fun x _ => Bool.and_comm _ _
  rw [hcomm, List.filter_eq_self.mpr hkeep]

end

end Sys2Proof.Machine
end

section
/-! ## The numbers and order records of the path unit, kept by every step (R131, R133, R137)

`KeepsPath s t` says of a part of a step from `s` to `t` that `t` meets `PathLaw` when `s` does. It composes, so each
operation is proved once from the operations it is made of. -/

namespace Sys2Proof.Machine

open Sys2Proof.Safety

set_option Elab.async false

/-! ### The law in two parts -/

/-- The transfers and own writes carry distinct numbers below the present moment (log 9). -/
structure PathNumbers (p : Path) : Prop where
  transfers : (p.arrived.map (·.id) ++ p.accepted.map (·.id)).Nodup
  own : (p.own.map (·.id)).Nodup
  arrivedBefore : ∀ x ∈ p.arrived, x.id < p.now
  acceptedBefore : ∀ a ∈ p.accepted, a.id < p.now ∧ a.stamp < p.now
  ownBefore : ∀ w ∈ p.own, w.id < p.now

/-- The oldest accepted transfer of a master has no answer (R133). -/
def OldestUnanswered (s : State) (m : Fin 16) : Prop := ∀ a, oldestOf s m = some a → a.unanswered = true

theorem pathLaw_iff (s : State) : PathLaw s ↔ PathNumbers s.path ∧ ∀ m, OldestUnanswered s m :=
  ⟨fun ⟨h1, h2, h3, h4, h5, h6⟩ => ⟨⟨h1, h2, h3, h4, h5⟩, h6⟩, fun ⟨⟨h1, h2, h3, h4, h5⟩, h6⟩ => ⟨h1, h2, h3, h4, h5, h6⟩⟩

theorem PathNumbers.accepted {p : Path} (h : PathNumbers p) : (p.accepted.map (·.id)).Nodup :=
  (List.nodup_append.mp h.transfers).2.1

/-- Numbers below a moment are below every later one. -/
theorem PathNumbers.later {p : Path} (h : PathNumbers p) {n : Nat} (hn : p.now ≤ n) : PathNumbers { p with now := n } where
  transfers := h.transfers
  own := h.own
  arrivedBefore x hx := (h.arrivedBefore x hx).trans_le hn
  acceptedBefore a ha := (h.acceptedBefore a ha).imp (·.trans_le hn) (·.trans_le hn)
  ownBefore w hw := (h.ownBefore w hw).trans_le hn

theorem oldestUnanswered_congr {s t : State} {m : Fin 16} (ho : orderOf t m = orderOf s m) (h : OldestUnanswered s m) :
    OldestUnanswered t m := fun a ha => h a (by rw [oldestOf_eq_head?] at ha ⊢; rwa [← ho])

/-- `t` meets the law of the path unit when `s` does. -/
def KeepsPath (s t : State) : Prop := PathLaw s → PathLaw t

namespace KeepsPath

variable {s t u : State}

theorem refl (s : State) : KeepsPath s s := id

theorem trans (h : KeepsPath s t) (h' : KeepsPath t u) : KeepsPath s u := h' ∘ h

/-- A change that leaves the transfers and the numbers of the own writes, the moment going on. -/
theorem of_frame (harr : t.path.arrived = s.path.arrived) (hacc : t.path.accepted = s.path.accepted)
    (hown : t.path.own.map (·.id) = s.path.own.map (·.id)) (hnow : s.path.now ≤ t.path.now) : KeepsPath s t := by
  unfold KeepsPath PathLaw oldestOf
  rw [harr, hacc, hown]
  rintro ⟨hids, ho, ha, hacc, hw, hold⟩
  refine ⟨hids, ho, fun x hx => (ha x hx).trans_le hnow, fun a h => ?_, fun w hwt => ?_, hold⟩
  · obtain ⟨hid, hstamp⟩ := hacc a h
    exact ⟨hid.trans_le hnow, hstamp.trans_le hnow⟩
  · obtain ⟨w', hw', he⟩ := List.mem_map.mp (hown ▸ List.mem_map_of_mem hwt)
    exact he ▸ (hw w' hw').trans_le hnow

/-- A change outside the path unit. -/
theorem of_path (h : t.path = s.path := by simp) : KeepsPath s t :=
  of_frame (by rw [h]) (by rw [h]) (by rw [h]) (by rw [h])

end KeepsPath

/-! ### The end of a step, hand-ons and completions (R137, R149) -/

theorem commit_now (s u : State) : u.path.now ≤ (commit s u).path.now := by
  rw [commit_eq]
  dsimp only
  split
  · exact le_rfl
  · exact Nat.le_succ _

theorem keepsPath_commit (s u : State) : KeepsPath u (commit s u) :=
  .of_frame (by simp) (by simp) (by simp) (commit_now s u)

/-- A list of numbers below `n` and without repetition stays so with `n` at its end. -/
theorem nodup_snoc {l : List Nat} {n : Nat} (hl : l.Nodup) (hlt : ∀ x ∈ l, x < n) : (l ++ [n]).Nodup :=
  List.nodup_append.mpr ⟨hl, List.nodup_singleton n, fun x hx y hy => by
    rw [List.mem_singleton.mp hy]; exact (hlt x hx).ne⟩

/-- R137: an own write takes the present moment as its number. -/
theorem keepsPath_handOn (s : State) (p : Producer) (addr : Addr) (beats : List Beat) :
    KeepsPath s (handOn s p addr beats) := by
  intro h
  obtain ⟨hnum, hold⟩ := (pathLaw_iff s).mp h
  obtain ⟨hids, hown, harr, hacc, hw⟩ := hnum.later (Nat.le_succ _)
  refine (pathLaw_iff _).mpr ⟨⟨hids, ?_, harr, hacc, ?_⟩, hold⟩
  · rw [handOn_path, List.map_append]
    exact nodup_snoc hown (List.forall_mem_map.mpr hnum.ownBefore)
  · rw [handOn_path, List.forall_mem_append, List.forall_mem_singleton]
    exact ⟨hw, Nat.lt_succ_self _⟩

/-- R137: a step whose effect on the path unit is that of a hand-on. -/
theorem keepsPath_handed {s t b : State} {p : Producer} {addr : Addr} {beats : List Beat}
    (h : t.path = (handOn s p addr beats).path) : KeepsPath s (commit b t) :=
  ((keepsPath_handOn s p addr beats).trans (.of_path h)).trans (keepsPath_commit b t)

theorem keepsPath_completeHead (s : State) (h : Completed) (rest : List Completed) :
    KeepsPath s (completeHead s h rest) := by
  unfold completeHead
  dsimp only
  split
  · exact (keepsPath_handOn s _ _ _).trans (.of_path rfl)
  · exact (keepsPath_handOn s _ _ _).trans (.of_path rfl)

theorem keepsPath_completeStarted (c : Cmd) (s : State) : KeepsPath s (completeStarted c s) :=
  completeStarted_induct (P := KeepsPath s) c (fun t h rest _ _ hk => hk.trans (keepsPath_completeHead t h rest)) s
    (.refl s)

/-- The start of a command keeps the law when its own effect does. -/
theorem keepsPath_startStep {kind : Nat → Bool} {f : Cmd → State → State} {s t : State}
    (hf : ∀ c, KeepsPath s (f c s)) (h : startStep kind f s = .next t) : KeepsPath s t := by
  rcases startStep_cases kind f s with hs | ⟨c, -, -, hs⟩
  · rw [hs] at h; cases h; exact .refl s
  · rw [hs] at h; cases h
    exact ((hf c).trans (keepsPath_completeStarted c _)).trans (keepsPath_commit s _)

/-- The start of a command that does not touch the path unit. -/
theorem keepsPath_startStep_of_path {kind : Nat → Bool} {f : Cmd → State → State} {s t : State}
    (h : startStep kind f s = .next t) (hf : ∀ c, (f c s).path = s.path := by intro; simp) : KeepsPath s t :=
  keepsPath_startStep (fun c => .of_path (hf c)) h

/-- An event whose effect, when its condition holds, keeps the law. -/
theorem keepsPath_guarded {g : Bool} {s v u : State} (hv : KeepsPath s v)
    (h : (if g then Host.Outcome.next (commit s v) else .next s : Reply) = .next u) : KeepsPath s u := by
  split at h <;> cases h
  · exact hv.trans (keepsPath_commit s v)
  · exact .refl s

/-! ### The placing commands (R161, R164) -/

theorem OwnWrite.stale_id (c : Client) (w : OwnWrite) : (w.stale c).id = w.id := by
  unfold OwnWrite.stale
  split <;> rfl

theorem keepsPath_staleWrites (s : State) (c : Client) : KeepsPath s (staleWrites s c) := by
  refine .of_frame rfl rfl ?_ le_rfl
  simp only [staleWrites, List.map_map, Function.comp_def, OwnWrite.stale_id]

theorem keepsPath_startSetNoticeRing (c : Cmd) (s : State) : KeepsPath s (startSetNoticeRing c s) := by
  unfold startSetNoticeRing
  split
  · exact .of_path
  · dsimp only
    split
    · exact .of_path
    · exact (keepsPath_staleWrites s .noticeWriter).trans (.of_path (by simp))

theorem keepsPath_startSetStatusBlock (c : Cmd) (s : State) : KeepsPath s (startSetStatusBlock c s) := by
  unfold startSetStatusBlock
  dsimp only
  split
  · exact .of_path
  · split
    · exact .of_path
    · split
      · exact (keepsPath_staleWrites s .statusWriter).trans (.of_path (by simp))
      · exact (keepsPath_staleWrites s .statusWriter).trans (.of_path (by simp))

/-! ### Phases of accepted transfers (R131, R139) -/

/-- A change of the phases that leaves no transfer answered that was not, and of the own writes none but that some
leave. -/
theorem keepsPath_mapAccepted {s t : State} (f : Accepted → Accepted) (hid : ∀ a, (f a).id = a.id)
    (hstamp : ∀ a, (f a).stamp = a.stamp) (ht : ∀ a, (f a).t = a.t)
    (hun : ∀ a, a.unanswered = true → (f a).unanswered = true) (harr : t.path.arrived = s.path.arrived)
    (hacc : t.path.accepted = s.path.accepted.map f) (hown : t.path.own.Sublist s.path.own)
    (hnow : t.path.now = s.path.now) : KeepsPath s t := by
  intro h
  obtain ⟨⟨hids, ho, ha, hb, hw⟩, hold⟩ := (pathLaw_iff s).mp h
  refine (pathLaw_iff t).mpr ⟨⟨?_, ho.sublist (hown.map _), ?_, ?_, fun w h => hnow ▸ hw w (hown.subset h)⟩, fun m a h => ?_⟩
  · have hnumbers : (fun a : Accepted => a.id) ∘ f = fun a => a.id := funext hid
    rw [harr, hacc, List.map_map, hnumbers]
    exact hids
  · rw [harr, hnow]
    exact ha
  · rw [hacc, hnow]
    intro a h
    obtain ⟨b, hbm, rfl⟩ := List.mem_map.mp h
    rw [hid, hstamp]
    exact hb b hbm
  · have hmaster : (fun a : Accepted => decide (a.t.master = m)) ∘ f = fun a => decide (a.t.master = m) :=
      funext fun a => by rw [Function.comp, ht]
    unfold oldestOf at h
    rw [hacc, List.find?_map, hmaster, Option.map_eq_some_iff] at h
    obtain ⟨b, hb, rfl⟩ := h
    exact hun b (hold m b hb)

/-- A transfer released from an own write is still unanswered. -/
theorem Accepted.release_unanswered (id : Nat) (a : Accepted) (h : a.unanswered = true) :
    (a.release id).unanswered = true := by
  unfold Accepted.release
  split
  · rw [unanswered_iff]
    intro ans ring
    dsimp only
    split <;> exact Phase.noConfusion
  · exact h
  · exact h
  · exact h

theorem Accepted.release_eq (id : Nat) (a : Accepted) : ∃ ph, a.release id = { a with phase := ph } := by
  unfold Accepted.release
  split <;> exact ⟨_, rfl⟩

theorem keepsPath_answerOwn (s : State) (w : OwnWrite) (r : Response) : KeepsPath s (answerOwn s w r) := by
  refine keepsPath_mapAccepted (Accepted.release w.id) (fun a => ?_) (fun a => ?_) (fun a => ?_)
    (Accepted.release_unanswered w.id) ?_ ?_ ?_ ?_
  · obtain ⟨ph, h⟩ := a.release_eq w.id; rw [h]
  · obtain ⟨ph, h⟩ := a.release_eq w.id; rw [h]
  · obtain ⟨ph, h⟩ := a.release_eq w.id; rw [h]
  · simp [answerOwn]
  · simp [answerOwn]
  · simp [answerOwn, List.filter_sublist]
  · simp [answerOwn]

/-- R131, step 3: an issued transfer is not answered yet. -/
theorem keepsPath_setPhase_issued (s : State) (id : Nat) (ring : List Nat) : KeepsPath s (setPhase s id (.issued ring)) := by
  refine keepsPath_mapAccepted (Accepted.phased id (.issued ring)) (Accepted.phased_id _ _) (Accepted.phased_stamp _ _)
    (Accepted.phased_t _ _) (fun a h => ?_) rfl rfl (List.Sublist.refl _) rfl
  unfold Accepted.phased
  split
  · rfl
  · exact h

theorem keepsPath_issueForwarded (s : State) (a : Accepted) : KeepsPath s (issueForwarded s a) := by
  rw [issueForwarded_eq]
  generalize hv : (if isWrite a.t then writeEffects (s.withPath (startedPath s)) a.t
    else (s.withPath (startedPath s), a.t.addr)) = v
  have hpath : v.1.path = startedPath s := by
    rw [← hv]
    split
    · exact writeEffects_path _ _
    · rfl
  have heffect : KeepsPath s v.1 := .of_frame (by rw [hpath]; rfl) (by rw [hpath]; rfl) (by rw [hpath]; rfl)
    (by rw [hpath]; exact le_rfl)
  have hissued := keepsPath_setPhase_issued v.1 a.id (ringOffsets s a.t)
  exact (heffect.trans hissued).trans (.of_frame rfl rfl rfl le_rfl)

theorem keepsPath_issueOwn (s : State) (w : OwnWrite) : KeepsPath s (issueOwn s w) := by
  refine .of_frame rfl rfl ?_ le_rfl
  simp only [issueOwn, putOut, List.map_map]
  refine List.map_congr_left fun x _ => ?_
  simp only [Function.comp]
  split <;> rfl

/-! ### Arrival, acceptance and responses (R131, R133) -/

theorem keepsPath_execTransferArrival {t : Transfer} {s u : State} (h : execTransferArrival t s = .next u) :
    KeepsPath s u := by
  unfold execTransferArrival at h
  split at h <;> cases h
  intro h
  obtain ⟨hnum, hold⟩ := (pathLaw_iff s).mp h
  obtain ⟨hids, hown, harr, hacc, hw⟩ := hnum.later (Nat.le_succ _)
  refine (pathLaw_iff _).mpr ⟨⟨?_, hown, ?_, hacc, hw⟩, hold⟩
  · have hlt : ∀ n ∈ s.path.arrived.map (·.id) ++ s.path.accepted.map (·.id), n < s.path.now := by
      rw [List.forall_mem_append, List.forall_mem_map, List.forall_mem_map]
      exact ⟨hnum.arrivedBefore, fun a ha => (hnum.acceptedBefore a ha).1⟩
    dsimp only
    rw [List.map_append, List.append_assoc]
    refine ((List.perm_append_comm.append_left _).nodup_iff).mpr ?_
    rw [← List.append_assoc]
    exact nodup_snoc hids hlt
  · dsimp only
    rw [List.forall_mem_append, List.forall_mem_singleton]
    exact ⟨harr, Nat.lt_succ_self _⟩

/-- R133: once what can be returned to a master has been returned, its oldest transfer is not answered. -/
theorem pathLaw_deliverAll {s : State} {m : Fin 16} (hs : PathNumbers s.path)
    (ho : ∀ m', m' ≠ m → OldestUnanswered s m') : PathLaw (deliverAll s m) := by
  obtain ⟨rs, rest, hsplit, hans, hrest⟩ := exists_answered_run (orderOf s m)
  obtain ⟨hdel, horder⟩ := deliverAll_eq_returnAll hs.accepted hsplit hans hrest
  have hrs : ∀ x ∈ rs, x.1 ∈ orderOf s m := fun x hx => hsplit ▸ List.mem_append_left _ (List.mem_map_of_mem hx)
  rw [hdel]
  refine (pathLaw_iff _).mpr ⟨?_, fun m' => ?_⟩
  · obtain ⟨hids, hown, harr, hacc, hw⟩ := hs
    rw [returnAll_eq]
    exact ⟨hids.sublist (List.filter_sublist.map _ |>.append_left _), hown, harr,
      fun a ha => hacc a (List.mem_filter.mp ha).1, hw⟩
  · by_cases hm : m' = m
    · subst hm
      intro a ha
      rw [oldestOf_eq_head?, horder] at ha
      exact hrest a ha
    · exact oldestUnanswered_congr (orderOf_returnAll_ne hs.accepted hrs hm) (ho m' hm)

theorem keepsPath_acceptTransfer {s : State} {x : Arrived} (hx : x ∈ s.path.arrived) :
    KeepsPath s (acceptTransfer s x) := by
  intro h
  obtain ⟨hnum, hold⟩ := (pathLaw_iff s).mp h
  obtain ⟨hids, hown, harr, hacc, hw⟩ := hnum.later (Nat.le_succ _)
  obtain ⟨harrn, haccn, hdisj⟩ := List.nodup_append.mp hids
  have hfresh : ∀ n ∈ s.path.accepted.map (·.id), n ≠ x.id := fun n hn => (hdisj _ (List.mem_map_of_mem hx) n hn).symm
  refine pathLaw_deliverAll ⟨?_, hown, fun y hy => harr y (List.mem_filter.mp hy).1, ?_, hw⟩ fun m' hm => ?_
  · dsimp only
    rw [List.map_append]
    refine List.nodup_append.mpr ⟨harrn.sublist (List.filter_sublist.map _), ?_, ?_⟩
    · exact List.nodup_append.mpr ⟨haccn, List.nodup_singleton _, fun n hn k hk => by
        rw [List.mem_singleton.mp hk]; exact hfresh n hn⟩
    · intro n hn k hk
      obtain ⟨y, hy, rfl⟩ := List.mem_map.mp hn
      obtain ⟨hy, hne⟩ := List.mem_filter.mp hy
      rcases List.mem_append.mp hk with hk | hk
      · exact hdisj _ (List.mem_map_of_mem hy) k hk
      · rw [List.mem_singleton.mp hk]
        exact of_decide_eq_true hne
  · dsimp only
    rw [List.forall_mem_append, List.forall_mem_singleton]
    exact ⟨hacc, harr x hx, Nat.lt_succ_self _⟩
  · refine oldestUnanswered_congr ?_ (hold m')
    simp [orderOf, Ne.symm hm]

/-- R131, R133: memory's answer concerns the order record of one master. -/
theorem pathLaw_answered {s : State} {a : Accepted} (ha : a ∈ s.path.accepted) (ph : Phase) (h : PathLaw s) :
    PathLaw (deliverAll (setPhase s a.id ph) a.t.master) := by
  obtain ⟨hn, hold⟩ := (pathLaw_iff s).mp h
  have hids : (s.path.accepted.map (Accepted.phased a.id ph)).map (·.id) = s.path.accepted.map (·.id) := by
    simp [Function.comp_def]
  refine pathLaw_deliverAll ⟨?_, hn.own, hn.arrivedBefore, ?_, hn.ownBefore⟩ fun m' hm => ?_
  · rw [setPhase_eq, hids]
    exact hn.transfers
  · simpa [setPhase_eq] using hn.acceptedBefore
  · refine oldestUnanswered_congr ?_ (hold m')
    rw [orderOf_setPhase, map_phased_of_ne fun x hx he => ?_]
    obtain ⟨hx, hxm⟩ := mem_orderOf.mp hx
    rw [List.inj_on_of_nodup_map hn.accepted hx ha he] at hxm
    exact hm hxm.symm

/-- R140: an answer is that of the issued transfer of its number. -/
theorem issuedRing_some {s : State} {id : Nat} {a : Accepted} {ring : List Nat} (h : issuedRing s id = some (a, ring)) :
    a ∈ s.path.accepted ∧ a.id = id ∧ a.phase = .issued ring := by
  unfold issuedRing at h
  obtain ⟨b, hb, hm⟩ := List.exists_of_findSome?_eq_some h
  split at hm
  · next hp =>
    split at hm
    · next he => cases hm; exact ⟨hb, he, hp⟩
    · cases hm
  · cases hm

section
variable {s u : State}

theorem keepsPath_execTransferAcceptance {m : Fin 16} (h : execTransferAcceptance m s = .next u) : KeepsPath s u := by
  unfold execTransferAcceptance at h
  split at h
  · next x hx => exact keepsPath_guarded (keepsPath_acceptTransfer (List.mem_of_find?_eq_some hx)) h
  · cases h; exact .refl s

theorem keepsPath_execForwardedIssue (h : execForwardedIssue s = .next u) : KeepsPath s u := by
  unfold execForwardedIssue at h
  split at h
  · exact keepsPath_guarded (keepsPath_issueForwarded s _) h
  · cases h; exact .refl s

theorem keepsPath_execForwardedResponse {id : Nat} {ans : Answer} (h : execForwardedResponse id ans s = .next u) :
    KeepsPath s u := by
  unfold execForwardedResponse at h
  split at h
  · split at h
    · next a ring ha =>
      obtain ⟨hmem, rfl, -⟩ := issuedRing_some ha
      split at h <;> cases h
      · exact .refl s
      · exact fun hl => keepsPath_commit s _ (pathLaw_answered hmem (.answered ans ring) hl)
    · cases h; exact .refl s
  · cases h

theorem keepsPath_execOwnWriteIssue (h : execOwnWriteIssue s = .next u) : KeepsPath s u := by
  unfold execOwnWriteIssue at h
  split at h
  · exact keepsPath_guarded (keepsPath_issueOwn s _) h
  · cases h; exact .refl s

theorem keepsPath_execOwnWriteResponse {id : Nat} {r : Response} (h : execOwnWriteResponse id r s = .next u) :
    KeepsPath s u := by
  unfold execOwnWriteResponse at h
  split at h
  · split at h <;> cases h
    · exact .refl s
    · exact (keepsPath_answerOwn s _ r).trans (keepsPath_commit s _)
  · cases h; exact .refl s

theorem keepsPath_execStrayResponse {ans : Answer} (h : execStrayResponse ans s = .next u) : KeepsPath s u := by
  unfold execStrayResponse at h
  split at h <;> cases h
  exact .refl s

/-! ### RESET_N and the clearing of Restart (R141, R142, R169) -/

/-- R141: the transfers that have arrived stay, and nothing else has a number. -/
theorem keepsPath_assertReset (s : State) : KeepsPath s (assertReset s) := by
  intro h
  obtain ⟨⟨hids, -, harr, -, -⟩, -⟩ := (pathLaw_iff s).mp h
  refine (pathLaw_iff _).mpr ⟨⟨?_, List.nodup_nil, harr, List.forall_mem_nil _, List.forall_mem_nil _⟩, fun m a ha => ?_⟩
  · exact hids.sublist (List.nil_sublist _ |>.append_left _)
  · cases ha

theorem keepsPath_execResetNAssertion (h : execResetNAssertion s = .next u) : KeepsPath s u := by
  unfold execResetNAssertion at h
  cases h
  split
  · exact .refl s
  · exact keepsPath_assertReset s

theorem keepsPath_execResetNRelease {straps : BitVec 8} (h : execResetNRelease straps s = .next u) : KeepsPath s u := by
  unfold execResetNRelease at h
  cases h
  split
  · exact .of_frame rfl rfl rfl le_rfl
  · exact .refl s

theorem keepsPath_execQueueDrained (h : execQueueDrained s = .next u) : KeepsPath s u := by
  unfold execQueueDrained at h
  split at h <;> cases h
  · exact .of_frame rfl rfl rfl le_rfl
  · exact .refl s

/-! ### The producers of own writes (R137, R158, R165, R113) -/

theorem keepsPath_execNoticeWriteHandOn (h : execNoticeWriteHandOn s = .next u) : KeepsPath s u := by
  unfold execNoticeWriteHandOn at h
  split at h
  · split at h <;> cases h
    · exact keepsPath_handed rfl
    · exact .refl s
  · cases h; exact .refl s

theorem keepsPath_execStatusPartHandOn (h : execStatusPartHandOn s = .next u) : KeepsPath s u := by
  unfold execStatusPartHandOn at h
  split at h
  · split at h <;> cases h
    · exact keepsPath_handed rfl
    · exact .refl s
  · cases h; exact .refl s

theorem keepsPath_execSnapshotWriteHandOn {slot : Fin 32} (h : execSnapshotWriteHandOn slot s = .next u) :
    KeepsPath s u := by
  unfold execSnapshotWriteHandOn at h
  split at h
  · split at h <;> cases h
    · exact keepsPath_handed rfl
    · exact .refl s
  · cases h; exact .refl s

theorem keepsPath_execCompletion (h : execCompletion s = .next u) : KeepsPath s u := by
  unfold execCompletion at h
  split at h
  · split at h <;> cases h
    · exact (keepsPath_completeHead s _ _).trans (keepsPath_commit s _)
    · exact .refl s
  · cases h; exact .refl s

/-! ### Every command, and the step -/

theorem keepsPath_execQuietTimeout {k : Fin 4} (h : execQuietTimeout k s = .next u) : KeepsPath s u := by
  unfold execQuietTimeout at h
  split at h <;> cases h
  · refine KeepsPath.trans ?_ (keepsPath_commit s _)
    exact .of_path rfl
  · exact .refl s

theorem keepsPath_exec {c : Instr} (h : exec c s = .next u) : KeepsPath s u := by
  cases c with
  | transferArrival t => exact keepsPath_execTransferArrival h
  | transferAcceptance m => exact keepsPath_execTransferAcceptance h
  | forwardedIssue => exact keepsPath_execForwardedIssue h
  | forwardedResponse id a => exact keepsPath_execForwardedResponse h
  | ownWriteIssue => exact keepsPath_execOwnWriteIssue h
  | ownWriteResponse id r => exact keepsPath_execOwnWriteResponse h
  | strayResponse a => exact keepsPath_execStrayResponse h
  | resetNAssertion => exact keepsPath_execResetNAssertion h
  | resetNRelease straps => exact keepsPath_execResetNRelease h
  | silenceTimeout i => exact keepsPath_guarded (v := faultLane s i .silent) .of_path h
  | blockAnalysisEnd i => exact keepsPath_guarded (v := endBlock s i) .of_path h
  | testTimeout i => exact keepsPath_guarded (v := endTest s i .timeout) .of_path h
  | quietTimeout k => exact keepsPath_execQuietTimeout h
  | noticeWriteHandOn => exact keepsPath_execNoticeWriteHandOn h
  | statusWriteStart => exact keepsPath_guarded (v := startStatusWrite s) .of_path h
  | statusPartHandOn => exact keepsPath_execStatusPartHandOn h
  | snapshotWriteHandOn slot => exact keepsPath_execSnapshotWriteHandOn h
  | completion => exact keepsPath_execCompletion h
  | queueDrained => exact keepsPath_execQueueDrained h
  | badKind => exact keepsPath_startStep_of_path (show execBadKind s = .next u from h)
  | mapLane => exact keepsPath_startStep_of_path (show execMapLane s = .next u from h)
  | unmapLane => exact keepsPath_startStep_of_path (show execUnmapLane s = .next u from h)
  | setLaneConditioning => exact keepsPath_startStep_of_path (show execSetLaneConditioning s = .next u from h)
  | testLane => exact keepsPath_startStep_of_path (show execTestLane s = .next u from h)
  | setDetection => exact keepsPath_startStep_of_path (show execSetDetection s = .next u from h)
  | setStation => exact keepsPath_startStep_of_path (show execSetStation s = .next u from h)
  | startStation => exact keepsPath_startStep_of_path (show execStartStation s = .next u from h)
  | stopStation => exact keepsPath_startStep_of_path (show execStopStation s = .next u from h)
  | setLocationLine => exact keepsPath_startStep_of_path (show execSetLocationLine s = .next u from h)
  | setMapCriteria => exact keepsPath_startStep_of_path (show execSetMapCriteria s = .next u from h)
  | clearCells => exact keepsPath_startStep_of_path (show execClearCells s = .next u from h)
  | copyMap => exact keepsPath_startStep_of_path (show execCopyMap s = .next u from h)
  | holdSegment => exact keepsPath_startStep_of_path (show execHoldSegment s = .next u from h)
  | releaseHold => exact keepsPath_startStep_of_path (show execReleaseHold s = .next u from h)
  | abort => exact keepsPath_startStep_of_path (show execAbort s = .next u from h)
  | restart => exact keepsPath_startStep_of_path (show execRestart s = .next u from h)
  | writeStatus => exact keepsPath_startStep_of_path (show execWriteStatus s = .next u from h)
  | setNoticeRing =>
    exact keepsPath_startStep (keepsPath_startSetNoticeRing · s) (show execSetNoticeRing s = .next u from h)
  | setStatusBlock =>
    exact keepsPath_startStep (keepsPath_startSetStatusBlock · s) (show execSetStatusBlock s = .next u from h)

theorem keepsPath_tick (s : State) : KeepsPath s (tick s) := by
  unfold tick
  split
  · exact .refl s
  · exact .of_path rfl

theorem keepsPath_step (h : step s = .next u) : KeepsPath s u := by
  unfold step at h
  split at h
  · cases h; exact keepsPath_tick s
  · next c rest _ => exact (KeepsPath.of_path (t := { s with pending := rest }) rfl).trans (keepsPath_exec h)

end

/-- Settles O59: every operation keeps the law (`KeepsPath`), so every step does. -/
theorem pathKept : Obligations.PathKept := fun _ _ h => keepsPath_step h

end Sys2Proof.Machine
end

section
/-! ## The acceptance of transfers (R131, R132, R133, R139) -/

namespace Sys2Proof.Machine

open Sys2Proof.Safety

set_option Elab.async false

/-! ### The tests at acceptance -/

/-- R132: the three reasons for a refusal. -/
theorem refusedTransfer_iff (t : Transfer) : refusedTransfer t = true ↔
    t.master = 15 ∨ t.addr.toNat % 8 ≠ 0 ∨ 4096 < t.addr.toNat % 4096 + 8 * t.payload.beats := by
  have h15 : t.master.val = 15 ↔ t.master = 15 := (Fin.ext_iff (b := (15 : Fin 16))).symm
  rw [refusedTransfer, Bool.or_eq_true, Bool.or_eq_true, decide_eq_true_eq, decide_eq_true_eq, decide_eq_true_eq, h15,
    or_assoc]
  rfl

/-- R133: no transfer of the master is held. -/
theorem masterHeld_eq_false {s : State} {m : Fin 16} :
    masterHeld s m = false ↔ ∀ a ∈ s.path.accepted, a.t.master = m → ∀ ids, a.phase ≠ .held ids := by
  simp only [masterHeld, List.any_eq_false, Bool.and_eq_true, decide_eq_true_eq, not_and]
  refine forall₂_congr fun a _ => imp_congr_right fun _ => ?_
  cases a.phase <;> simp

/-- R139: the own writes whose span a transfer meets. -/
theorem overlapping_eq (s : State) (t : Transfer) :
    overlapping s t = (s.path.own.filter fun w => decide (t.addr.toNat < w.addr.toNat + 8 * w.beats.length
      ∧ w.addr.toNat < t.addr.toNat + 8 * t.payload.beats)).map (·.id) := rfl

/-- R131, R139: the phase of a transfer that is not refused. -/
theorem acceptedPhase_forwarded {s : State} {t : Transfer} (h : refusedTransfer t = false) :
    acceptedPhase s t = if overlapping s t = [] then .ready else .held (overlapping s t) := by
  unfold acceptedPhase
  rw [h]
  cases overlapping s t <;> simp

theorem acceptedPhase_refused {s : State} {t : Transfer} (h : refusedTransfer t = true) :
    acceptedPhase s t = .answered (refusedAnswer t) [] := by
  unfold acceptedPhase
  rw [h]
  rfl

/-! ### The accepted transfer joins its master's order record (R133) -/

/-- The entry an arrived transfer makes in its master's order record. -/
def entryOf (s : State) (x : Arrived) : Accepted :=
  { id := x.id, t := x.t, stamp := s.path.now, phase := acceptedPhase s x.t }

/-- The path unit once an arrived transfer has joined its master's order record. -/
def joined (s : State) (x : Arrived) : State := { s with path :=
  { s.path with
    arrived := s.path.arrived.filter fun y => decide (y.id ≠ x.id)
    accepted := s.path.accepted ++ [entryOf s x]
    refusedCount := if refusedTransfer x.t then min 65535 (s.path.refusedCount + 1) else s.path.refusedCount
    now := s.path.now + 1 } }

theorem acceptTransfer_eq (s : State) (x : Arrived) : acceptTransfer s x = deliverAll (joined s x) x.t.master := rfl

theorem orderOf_joined (s : State) (x : Arrived) :
    orderOf (joined s x) x.t.master = orderOf s x.t.master ++ [entryOf s x] := by
  simp [orderOf, joined, entryOf]

section
variable {m : Fin 16} {s : State} {x : Arrived} (hx : s.path.arrived.find? (fun y => decide (y.t.master = m)) = some x)
include hx

theorem arrived_master : x.t.master = m := by simpa using List.find?_some hx

theorem execTransferAcceptance_accepts (ho : OutOfReset s)
    (hh : ∀ a ∈ s.path.accepted, a.t.master = m → ∀ ids, a.phase ≠ .held ids) :
    exec (.transferAcceptance m) s = .next (commit s (acceptTransfer s x)) := by
  show execTransferAcceptance m s = _
  unfold execTransferAcceptance
  rw [hx]
  exact if_pos (by rw [show s.path.resetLow = false from ho, masterHeld_eq_false.mpr hh]; rfl)

/-- R133: behind a transfer that is not answered, or being unanswered itself, the entry stays. -/
theorem acceptTransfer_stays (hl : PathLaw s)
    (h : (∃ a ∈ s.path.accepted, a.t.master = m) ∨ (entryOf s x).unanswered = true) :
    acceptTransfer s x = joined s x := by
  have hm := arrived_master hx
  refine (acceptTransfer_eq s x).trans (deliver_of_unanswered (fun a ha => ?_) _)
  obtain ⟨-, hold⟩ := (pathLaw_iff s).mp hl
  rw [oldestOf_eq_head?, orderOf_joined, hm] at ha
  cases hr : orderOf s m with
  | nil =>
    rw [hr] at ha
    cases ha
    refine h.resolve_left ?_
    rintro ⟨b, hb, hbm⟩
    exact List.not_mem_nil (hr ▸ mem_orderOf.mpr ⟨hb, hbm⟩)
  | cons b rest =>
    rw [hr] at ha
    cases ha
    exact hold m _ (by rw [oldestOf_eq_head?, hr]; rfl)

/-- R132: a refused transfer whose master has no other accepted is answered at once. -/
theorem acceptTransfer_refused (hl : PathLaw s) (hr : refusedTransfer x.t = true)
    (hnone : ∀ a ∈ s.path.accepted, a.t.master ≠ m) :
    acceptTransfer s x = { s with path := { (joined s x).path with
      accepted := s.path.accepted
      masterPort := s.path.masterPort ++ [{ id := x.id, master := m, answer := refusedAnswer x.t }] } } := by
  have hm := arrived_master hx
  obtain ⟨hnum, -⟩ := (pathLaw_iff s).mp hl
  have hfresh : ∀ a ∈ s.path.accepted, a.id ≠ x.id := fun a ha he =>
    (List.nodup_append.mp hnum.transfers).2.2 _ (List.mem_map_of_mem (List.mem_of_find?_eq_some hx)) _
      (List.mem_map_of_mem ha) he.symm
  have hids : ((joined s x).path.accepted.map (·.id)).Nodup := by
    simp only [joined, List.map_append]
    exact List.nodup_append.mpr ⟨hnum.accepted, List.nodup_singleton _, by simpa [entryOf] using hfresh⟩
  have horder : orderOf (joined s x) m = [(entryOf s x, refusedAnswer x.t, [])].map (fun y : Answered => y.1) ++ [] := by
    have hempty : orderOf s m = [] := by simpa [orderOf] using hnone
    have hj := orderOf_joined s x
    rwa [hm, hempty] at hj
  have hphase : ∀ y ∈ [((entryOf s x, refusedAnswer x.t, []) : Answered)], y.1.phase = .answered y.2.1 y.2.2 := by
    simpa [entryOf] using acceptedPhase_refused hr
  rw [acceptTransfer_eq, hm, (deliverAll_eq_returnAll hids horder hphase (by simp)).1, returnAll_eq]
  have hleft : (joined s x).path.accepted.filter (fun y => !List.any [((entryOf s x, refusedAnswer x.t, []) : Answered)]
      fun z => decide (z.1.id = y.id)) = s.path.accepted := by
    simp only [joined, List.filter_append]
    rw [List.filter_eq_self.mpr fun a ha => by simpa [entryOf] using (hfresh a ha).symm]
    simp
  rw [hleft]
  simp only [entryOf, hm, List.map_cons, List.map_nil]
  rfl

end

/-- Settles O6. -/
theorem transferArrives : Obligations.TransferArrives := by
  intro t s hlo hhi
  have hwf : t.wf = true := decide_eq_true ⟨hlo, hhi⟩
  exact if_pos hwf

/-- Settles O7: with no other transfer of its master the refused one is at once the oldest, and its answer is returned;
else it stays behind the oldest, which is not answered. -/
theorem refusedTransferAnswered : Obligations.RefusedTransferAnswered := by
  intro m s x hl ho hx hwhy fault counted
  have hr : refusedTransfer x.t = true := (refusedTransfer_iff x.t).mpr hwhy
  refine ⟨fun hnone => ?_, fun hsome hheld => ?_⟩
  · rw [execTransferAcceptance_accepts hx ho fun a ha hm => absurd hm (hnone a ha), acceptTransfer_refused hx hl hr hnone]
    simp only [joined, hr, if_true]
    rfl
  · rw [execTransferAcceptance_accepts hx ho hheld, acceptTransfer_stays hx hl (.inl hsome)]
    simp only [joined, entryOf, acceptedPhase_refused hr, hr, if_true]
    rfl

/-- Settles O8: a transfer that is not refused has no answer, so that it stays in its master's order record. -/
theorem acceptedTransferReadyOrHeld : Obligations.AcceptedTransferReadyOrHeld := by
  refine ⟨fun m s x hl ho hx h15 h8 h4096 hheld => ?_, fun m s ⟨a, ha, hm, held, hph⟩ => ?_⟩
  · intro ids
    have hr : refusedTransfer x.t = false := by
      rw [← Bool.not_eq_true, refusedTransfer_iff]
      rintro (h | h | h)
      · exact h15 h
      · exact h h8
      · omega
    have hphase : acceptedPhase s x.t = if ids = [] then .ready else .held ids := by
      rw [acceptedPhase_forwarded hr, overlapping_eq]
    have hun : (entryOf s x).unanswered = true := by
      rw [unanswered_iff]
      intro ans ring
      rw [entryOf, hphase]
      split <;> exact Phase.noConfusion
    rw [execTransferAcceptance_accepts hx ho hheld, acceptTransfer_stays hx hl (.inr hun)]
    simp only [joined, entryOf, hphase, hr, Bool.false_eq_true, if_false]
  · have hmh : masterHeld s m = true := by
      rw [← Bool.not_eq_false, masterHeld_eq_false]
      exact fun h => h a ha hm held hph
    show execTransferAcceptance m s = _
    unfold execTransferAcceptance
    split
    · exact if_neg (by simp [hmh])
    · rfl

end Sys2Proof.Machine
end

section
/-! ## Responses to forwarded transfers, and the consumption of the notice ring (R131, R133, R140, R160) -/

namespace Sys2Proof.Machine

open Sys2Proof.Safety

set_option Elab.async false

/-! ### Memory's answer to an issued transfer (R131, R133) -/

section
variable {s : State} {a : Accepted} {ring : List Nat} (hl : PathLaw s) (ha : a ∈ s.path.accepted)
  (hp : a.phase = .issued ring)
include hl ha

/-- Transfers have distinct numbers, so that a number names one. -/
theorem accepted_id_inj {x : Accepted} (hx : x ∈ s.path.accepted) (he : x.id = a.id) : x = a :=
  List.inj_on_of_nodup_map ((pathLaw_iff s).mp hl).1.accepted hx ha he

include hp

theorem issuedRing_eq : issuedRing s a.id = some (a, ring) := by
  cases h : issuedRing s a.id with
  | none =>
    have hno := List.findSome?_eq_none_iff.mp h a ha
    simp [hp] at hno
  | some y =>
    obtain ⟨hy, hid, hpy⟩ := issuedRing_some (a := y.1) (ring := y.2) h
    rw [accepted_id_inj hl ha hy hid, hp] at hpy
    rw [← accepted_id_inj hl ha hy hid, Phase.issued.inj hpy]

theorem execForwardedResponse_answers (ho : OutOfReset s) {ans : Answer} (hd : ans.data.length ≤ 16) :
    exec (.forwardedResponse a.id ans) s
      = .next (commit s (deliverAll (setPhase s a.id (.answered ans ring)) a.t.master)) := by
  have hwf : ans.wf = true := decide_eq_true hd
  show execForwardedResponse a.id ans s = _
  unfold execForwardedResponse
  rw [if_pos hwf, issuedRing_eq hl ha hp]
  exact if_neg (by simp [show s.path.resetLow = false from ho])

/-- R131, R133: memory's answer to the oldest transfer of a master is returned with those that wait behind it. -/
theorem execForwardedResponse_oldest (ho : OutOfReset s) {ans : Answer} (hd : ans.data.length ≤ 16)
    {behind : List Answered} {rest : List Accepted} (horder : orderOf s a.t.master = a :: behind.map (·.1) ++ rest)
    (hbehind : ∀ x ∈ behind, x.1.phase = .answered x.2.1 x.2.2) (hrest : ∀ y ∈ rest.head?, y.unanswered = true) :
    exec (.forwardedResponse a.id ans) s = .next (commit s { s with
      path := { s.path with
        accepted := s.path.accepted.filter fun x => !((a, ans, ring) :: behind).any fun y => decide (y.1.id = x.id)
        masterPort := s.path.masterPort ++
          ((a, ans, ring) :: behind).map fun x => { id := x.1.id, master := a.t.master, answer := x.2.1 } }
      notices := ((a, ans, ring) :: behind).foldl (fun w x => w.afterRead x.2.1 x.2.2 x.1.stamp) s.notices }) := by
  obtain ⟨hnum, -⟩ := (pathLaw_iff s).mp hl
  rw [execForwardedResponse_answers hl ha hp ho hd]
  generalize hph : Phase.answered ans ring = ph
  have hself : a.phased a.id ph = { a with phase := ph } := if_pos rfl
  have hids : ((setPhase s a.id ph).path.accepted.map (·.id)).Nodup := by
    simpa [setPhase_eq, Function.comp_def] using hnum.accepted
  have hne : ∀ x ∈ behind.map (·.1) ++ rest, x.id ≠ a.id := by
    have hnodup : ((orderOf s a.t.master).map (·.id)).Nodup := hnum.accepted.sublist (List.filter_sublist.map _)
    rw [horder, List.cons_append, List.map_cons, List.nodup_cons] at hnodup
    exact fun x hx he => hnodup.1 (he ▸ List.mem_map_of_mem hx)
  have horder' : orderOf (setPhase s a.id ph) a.t.master
      = (({ a with phase := ph }, ans, ring) :: behind : List Answered).map (·.1) ++ rest := by
    rw [orderOf_setPhase, horder, List.cons_append, List.map_cons, map_phased_of_ne hne, hself]
    rfl
  have hans : ∀ x ∈ (({ a with phase := ph }, ans, ring) :: behind : List Answered), x.1.phase = .answered x.2.1 x.2.2 :=
    List.forall_mem_cons.mpr ⟨hph.symm, hbehind⟩
  have hmaster : ∀ x ∈ behind, x.1.t.master = a.t.master := fun x hx => by
    refine (mem_orderOf (s := s).mp ?_).2
    rw [horder]
    exact List.mem_cons_of_mem _ (List.mem_append_left _ (List.mem_map_of_mem hx))
  have hleft : (s.path.accepted.map (Accepted.phased a.id ph)).filter
        (fun x => !((a, ans, ring) :: behind).any fun y => decide (y.1.id = x.id))
      = s.path.accepted.filter fun x => !((a, ans, ring) :: behind).any fun y => decide (y.1.id = x.id) := by
    rw [List.filter_map]
    simp only [Function.comp_def, Accepted.phased_id]
    refine map_phased_of_ne (fun x hx he => ?_) ph
    have hnot := (List.mem_filter.mp hx).2
    simp [he] at hnot
  have hport : behind.map (fun x => ({ id := x.1.id, master := x.1.t.master, answer := x.2.1 } : PortReturn))
      = behind.map fun x => { id := x.1.id, master := a.t.master, answer := x.2.1 } :=
    List.map_congr_left fun x hx => by rw [hmaster x hx]
  rw [(deliverAll_eq_returnAll hids horder' hans hrest).1, returnAll_eq, List.map_cons, hport, setPhase_eq, ← hleft]
  rfl

/-- R133: behind a transfer that is not answered a response waits. -/
theorem execForwardedResponse_waits (ho : OutOfReset s) {ans : Answer} (hd : ans.data.length ≤ 16) {b : Accepted}
    (hb : oldestOf s a.t.master = some b) (hne : b.id ≠ a.id) :
    exec (.forwardedResponse a.id ans) s = .next (commit s (setPhase s a.id (.answered ans ring))) := by
  obtain ⟨-, hold⟩ := (pathLaw_iff s).mp hl
  rw [execForwardedResponse_answers hl ha hp ho hd]
  refine congrArg _ (congrArg _ (deliver_of_unanswered (fun x hx => ?_) _))
  have hhead : oldestOf (setPhase s a.id (.answered ans ring)) a.t.master = some b := by
    rw [oldestOf_eq_head?] at hb ⊢
    rw [orderOf_setPhase, List.head?_map, hb]
    exact congrArg some (if_neg hne)
  rw [hhead] at hx
  cases hx
  exact hold _ b hb

end

/-! ### Consumption (R160) -/

/-- The place behind the last entry of a list for which `P` holds, 0 when there is none. -/
def behindLast {α : Type} (P : α × Nat → Bool) (l : List α) : Nat :=
  l.zipIdx.foldl (fun acc x => if P x then x.2 + 1 else acc) 0

theorem behindLast_spec {α : Type} (P : α × Nat → Bool) (l : List α) :
    (∀ j e, l[j]? = some e → P (e, j) = true → j < behindLast P l)
    ∧ (behindLast P l = 0 ∨ ∃ e, l[behindLast P l - 1]? = some e ∧ P (e, behindLast P l - 1) = true) := by
  induction l using List.reverseRecOn with
  | nil => exact ⟨fun j e h => by simp at h, .inl rfl⟩
  | append_singleton l x ih =>
    obtain ⟨hlt, hlast⟩ := ih
    have hsnoc : behindLast P (l ++ [x]) = if P (x, l.length) then l.length + 1 else behindLast P l := by
      simp [behindLast, List.zipIdx_append]
    have hle : behindLast P l ≤ l.length := by
      rcases hlast with h | ⟨e, he, -⟩
      · omega
      · have := (List.getElem?_eq_some_iff.mp he).1
        omega
    rw [hsnoc]
    split
    · next hx =>
      refine ⟨fun j e h _ => ?_, .inr ⟨x, by simp, hx⟩⟩
      have hj := (List.getElem?_eq_some_iff.mp h).1
      simpa using hj
    · next hx =>
      refine ⟨fun j e h hP => ?_, hlast.imp_right ?_⟩
      · rcases Nat.lt_or_ge j l.length with hj | hj
        · rw [List.getElem?_append_left hj] at h
          exact hlt j e h hP
        · obtain rfl : j = l.length := by
            have hj' := (List.getElem?_eq_some_iff.mp h).1
            rw [List.length_append, List.length_singleton] at hj'
            omega
          obtain rfl : x = e := by simpa using h
          exact absurd hP hx
      · rintro ⟨e, he, hP⟩
        exact ⟨e, by rw [List.getElem?_append_left (List.getElem?_eq_some_iff.mp he).1, he], hP⟩

/-- R160: the read covers entry `x.2` of the list, which was handed on before the read was accepted. -/
def coversAt (w : NoticeWriter) (entries : Nat) (offsets : List Nat) (accepted : Nat) (x : Unconsumed × Nat) : Bool :=
  coversEntry offsets ((w.c + x.2) % entries) && decide (x.1.stamp < accepted)

theorem coversAt_iff (w : NoticeWriter) (entries : Nat) (offsets : List Nat) (accepted : Nat) (e : Unconsumed) (j : Nat) :
    coversAt w entries offsets accepted (e, j) = true ↔
      e.stamp < accepted ∧ 32 * ((w.c + j) % entries) + 24 ∈ offsets := by
  simp [coversAt, coversEntry, and_comm]

theorem consumedCount_eq (w : NoticeWriter) (entries : Nat) (offsets : List Nat) (accepted : Nat) :
    consumedCount w entries offsets accepted = behindLast (coversAt w entries offsets accepted) w.unconsumed := rfl

theorem consume_pos (w : NoticeWriter) (entries : Nat) {n : Nat} (hn : 0 < n) :
    w.consume entries n = { w with
      unconsumed := w.unconsumed.drop n, u := w.u - n, c := (w.c + n) % entries
      overrun := if (∃ e ∈ w.unconsumed.take n, e.overrun = true) ∧ w.discarded = 0 then false else w.overrun } := by
  have hcond : ((w.unconsumed.take n).any (·.overrun) && decide (w.discarded = 0)) = true
      ↔ (∃ e ∈ w.unconsumed.take n, e.overrun = true) ∧ w.discarded = 0 := by
    rw [Bool.and_eq_true, List.any_eq_true, decide_eq_true_eq]
  unfold NoticeWriter.consume
  rw [if_neg hn.ne']
  simp only [← hcond]
  cases ((w.unconsumed.take n).any (·.overrun) && decide (w.discarded = 0)) <;> simp

/-- Settles O13. -/
theorem responseReturnedInOrder : Obligations.ResponseReturnedInOrder := by
  refine ⟨?_, fun w entries offsets accepted => ?_, fun w entries n => ⟨rfl, fun hn => consume_pos w entries hn⟩⟩
  · rintro s id ans a ring hl ho hd ha rfl hp
    refine ⟨fun behind rest horder hbehind hrest => ?_, fun b hb hne => execForwardedResponse_waits hl ha hp ho hd hb hne⟩
    exact execForwardedResponse_oldest hl ha hp ho hd horder hbehind hrest
  · intro n covered
    obtain ⟨hlt, hlast⟩ := behindLast_spec (coversAt w entries offsets accepted) w.unconsumed
    rw [← consumedCount_eq] at hlt hlast
    refine ⟨fun j ⟨e, he, hc⟩ => ?_, hlast.imp_right fun ⟨e, he, hc⟩ => ?_⟩
    · exact hlt j e he ((coversAt_iff w entries offsets accepted e j).mpr hc)
    · exact ⟨e, he, (coversAt_iff w entries offsets accepted e _).mp hc⟩

end Sys2Proof.Machine
end

section
/-! ## Own writes at the port, responses for nothing, and RESET_N (R137 to R141, R150, R162, R169) -/

namespace Sys2Proof.Machine

open Sys2Proof.Safety

set_option Elab.async false

/-- Settles O14. -/
theorem ownWriteIssued : Obligations.OwnWriteIssued := by
  intro s w ho hw hport
  have hg : (!s.path.resetLow && ((firstReady s).isNone || decide (Config.starvationMax ≤ s.path.starvation))) = true := by
    rw [show s.path.resetLow = false from ho]
    rcases hport with h | h
    · simp [h]
    · simp [h, Config.starvationMax]
  show execOwnWriteIssue s = _
  unfold execOwnWriteIssue
  rw [hw]
  exact if_pos hg

/-- Settles O16. -/
theorem strayResponseDiscarded : Obligations.StrayResponseDiscarded := by
  intro a s hd
  have hwf : a.wf = true := decide_eq_true hd
  exact if_pos hwf

theorem cmdWindowBase_lt (straps : BitVec 8) : cmdWindowBase straps + 2048 < 4294967296 := by
  have h := straps.isLt
  unfold cmdWindowBase
  omega

/-- Settles O17. -/
theorem resetPin : Obligations.ResetPin := by
  refine ⟨fun s ho => ?_, fun straps s hlow => ⟨?_, rfl, cmdWindowBase_lt straps⟩⟩
  · show execResetNAssertion s = _
    unfold execResetNAssertion
    rw [if_neg (by simp [show s.path.resetLow = false from ho])]
    rfl
  · show execResetNRelease straps s = _
    unfold execResetNRelease
    rw [if_pos hlow]

/-! ### The answer to an own write (R140, R150, R162) -/

/-- R149: a FAULT to a trailer is a failed outcome write. -/
theorem reportOwn_commandUnit (s : State) {w : OwnWrite} (h : w.producer = .commandUnit) (r : Response) :
    reportOwn s w r = { s with cmd := { s.cmd with
      outcomeFaults := if r = .fault then min 65535 (s.cmd.outcomeFaults + 1) else s.cmd.outcomeFaults } } := by
  unfold reportOwn
  rw [h]
  cases r <;> rfl

/-- R162: a FAULT to a notice write of the present ring puts the writer in WRITE_FAULT. -/
theorem reportOwn_noticeWriter (s : State) {w : OwnWrite} {current : Bool} (h : w.producer = .noticeWriter current)
    (r : Response) : reportOwn s w r = { s with notices := { s.notices with
      state := if current = true ∧ r = .fault then .writeFault else s.notices.state } } := by
  unfold reportOwn
  rw [h]
  cases current <;> cases r <;> rfl

/-- R150: a FINISHING command awaited the own write, and it alone. -/
theorem joinsAt_finishing (s : State) (id : Nat) {c : Cmd} {r : Result} {d : BitVec 16} {ids : List Nat}
    (h : c.state = .finishing r d ids) : joinsAt s id c = if id ∈ ids ∧ ∀ n ∈ ids, n = id then
      some { slot := c.slot, bytes := c.bytes, result := r, detail := detailOf s c.slot d } else none := by
  unfold joinsAt
  rw [h]
  simp

/-- R150: a command that is not FINISHING has no place in the completion list. -/
theorem joinsAt_live (s : State) (id : Nat) {c : Cmd} (h : c.live = true) : joinsAt s id c = none := by
  unfold Cmd.live at h
  unfold joinsAt
  split at h
  case h_1 hs | h_2 hs => rw [hs]
  case h_3 => cases h

/-- Settles O15. -/
theorem ownWriteAnswered : Obligations.OwnWriteAnswered := by
  refine ⟨fun s w r hl ho hw hi => ⟨fun h => ?_, fun current h => ?_⟩, fun u id => ?_⟩
  · rw [execOwnWriteResponse_answers hl ho hw hi, reportOwn_commandUnit _ h]
  · rw [execOwnWriteResponse_answers hl ho hw hi, reportOwn_noticeWriter _ h]
  · intro detail
    have hstrike : strikeCmd id = fun c : Cmd => match c.state with
        | .finishing r d ids => { c with state := .finishing r d (ids.filter fun n => decide (n ≠ id)) }
        | _ => c := by
      funext c
      unfold strikeCmd
      cases c.state <;> rfl
    have hjoin : joinsAt u id = fun c : Cmd => match c.state with
        | .finishing r d ids => if id ∈ ids ∧ ∀ n ∈ ids, n = id then
            some { slot := c.slot, bytes := c.bytes, result := r, detail := detail c.slot d } else none
        | _ => none := by
      funext c
      cases h : c.state with
      | queued => exact joinsAt_live u id (by simp [Cmd.live, h])
      | running => exact joinsAt_live u id (by simp [Cmd.live, h])
      | finishing r d ids => exact joinsAt_finishing u id h
    unfold settleAwaiting
    rw [hstrike, hjoin] <;> rfl

end Sys2Proof.Machine
end

section
/-! ## The command window: the capture of its writes, and their submissions (R136, R143, R144) -/

namespace Sys2Proof.Machine

open Sys2Proof.Safety

set_option Elab.async false

/-! ### The beats of a write in a window (R136) -/

section
variable {addr base size : Nat} {bs : List Beat}

theorem mem_beatsIn {o : Nat} {b : Beat} : (o, b) ∈ beatsIn addr base size bs ↔
    ∃ j, bs[j]? = some b ∧ base ≤ addr + 8 * j ∧ addr + 8 * j < base + size ∧ o = addr + 8 * j - base := by
  unfold beatsIn
  rw [List.mem_filterMap]
  constructor
  · rintro ⟨⟨b', j⟩, hj, h⟩
    rw [List.mk_mem_zipIdx_iff_getElem?] at hj
    dsimp only at h
    split at h
    · next hin => cases h; exact ⟨j, hj, hin.1, hin.2, rfl⟩
    · cases h
  · rintro ⟨j, hj, hlo, hhi, rfl⟩
    exact ⟨(b, j), List.mk_mem_zipIdx_iff_getElem?.mpr hj, if_pos ⟨hlo, hhi⟩⟩

theorem beatsIn_ascending : (beatsIn addr base size bs).Pairwise fun x y => x.1 < y.1 := by
  have hplaces : bs.zipIdx.Pairwise fun x y => x.2 < y.2 := by
    rw [← List.pairwise_map (f := Prod.snd) (R := (· < ·)), List.zipIdx_map_snd]
    exact List.pairwise_lt_range'
  unfold beatsIn
  refine List.pairwise_filterMap.mpr (hplaces.imp fun {x y} hlt x' hx y' hy => ?_)
  dsimp only at hx hy
  split at hx
  · split at hy
    · cases hx; cases hy
      dsimp only
      omega
    · cases hy
  · cases hx

end

/-! ### The shadows (R143) -/

/-- R143: a byte of a slot's shadow once a beat that covers it has been applied. -/
def strobed (b : Beat) (i : Nat) (old : Byte) : Byte :=
  if b.strobes.toList.getD (i % 8) false = true then b.bytes.toList.getD (i % 8) 0 else old

theorem captureBeat_get (sh : Vector (Vector Byte 64) 32) {o : Nat} (ho : o % 8 = 0) (b : Beat) (n : Fin 32) (i : Fin 64) :
    ((captureBeat sh o b).get n).get i
      = if o = 64 * n.val + 8 * (i.val / 8) then strobed b i.val ((sh.get n).get i) else (sh.get n).get i := by
  have hn := n.isLt
  have hi := i.isLt
  simp only [captureBeat, Vector.get_eq_getElem, Vector.getElem_mapIdx]
  split
  · next hslot =>
    rw [Vector.getElem_mapIdx, captureByte]
    by_cases hcover : o % 64 ≤ i.val ∧ i.val < o % 64 + 8
    · obtain ⟨hlo, hhi⟩ := hcover
      have hplace : o = 64 * n.val + 8 * (i.val / 8) := by omega
      have hoff : i.val - o % 64 = i.val % 8 := by omega
      rw [if_pos hplace, strobed, hoff]
      simp only [hlo, hhi, true_and]
      rfl
    · have hplace : o ≠ 64 * n.val + 8 * (i.val / 8) := by omega
      rw [if_neg hplace, if_neg fun h => hcover ⟨h.1, h.2.1⟩]
  · next hslot =>
    have hplace : o ≠ 64 * n.val + 8 * (i.val / 8) := by omega
    rw [if_neg hplace]

/-- R143: the shadows once the beats have been applied, each at its byte offset in the command window. -/
def captured (sh : Vector (Vector Byte 64) 32) (beats : List (Nat × Beat)) : Vector (Vector Byte 64) 32 :=
  beats.foldl (fun sh x => captureBeat sh x.1 x.2) sh

section
variable {sh : Vector (Vector Byte 64) 32} {beats : List (Nat × Beat)} {n : Fin 32} {i : Fin 64}
  (ho : ∀ x ∈ beats, x.1 % 8 = 0)
include ho

/-- R143: a byte that no beat covers stays. -/
theorem captured_get_of_uncovered (hne : ∀ x ∈ beats, x.1 ≠ 64 * n.val + 8 * (i.val / 8)) :
    ((captured sh beats).get n).get i = (sh.get n).get i := by
  induction beats generalizing sh with
  | nil => rfl
  | cons x rest ih =>
    obtain ⟨hx, hrest⟩ := List.forall_mem_cons.mp ho
    obtain ⟨hxne, hrestne⟩ := List.forall_mem_cons.mp hne
    show ((captured (captureBeat sh x.1 x.2) rest).get n).get i = _
    rw [ih hrest hrestne, captureBeat_get sh hx, if_neg hxne]

/-- R143: a byte that one beat covers takes what that beat strobes. -/
theorem captured_get_of_covered {b : Beat} (hmem : (64 * n.val + 8 * (i.val / 8), b) ∈ beats)
    (hdistinct : beats.Pairwise fun x y => x.1 < y.1) :
    ((captured sh beats).get n).get i = strobed b i.val ((sh.get n).get i) := by
  induction beats generalizing sh with
  | nil => exact absurd hmem List.not_mem_nil
  | cons x rest ih =>
    obtain ⟨hx, hrest⟩ := List.forall_mem_cons.mp ho
    obtain ⟨hbehind, hdistinct⟩ := List.pairwise_cons.mp hdistinct
    show ((captured (captureBeat sh x.1 x.2) rest).get n).get i = _
    rcases List.mem_cons.mp hmem with rfl | hmem
    · rw [captured_get_of_uncovered hrest fun y hy => (hbehind y hy).ne', captureBeat_get sh hx, if_pos rfl]
    · rw [ih hrest hmem hdistinct, captureBeat_get sh hx, if_neg (hbehind _ hmem).ne]

end

/-- R143: one beat changes the shadow of one slot. -/
theorem captureBeat_eq_set (sh : Vector (Vector Byte 64) 32) (n : Fin 32) (j : Fin 8) (b : Beat) :
    captureBeat sh (64 * n.val + 8 * j.val) b = sh.set n ((sh.get n).mapIdx fun i old =>
      if 8 * j.val ≤ i ∧ i < 8 * j.val + 8 ∧ b.strobes.toList.getD (i - 8 * j.val) false = true then
        b.bytes.toList.getD (i - 8 * j.val) 0 else old) := by
  have hj := j.isLt
  have hslot : (64 * n.val + 8 * j.val) / 64 = n.val := by omega
  have hoff : (64 * n.val + 8 * j.val) % 64 = 8 * j.val := by omega
  refine Vector.ext fun k hk => ?_
  rw [captureBeat, Vector.getElem_mapIdx, Vector.getElem_set, hslot, hoff]
  by_cases hkn : k = n.val
  · subst hkn
    rw [if_pos rfl, if_pos rfl]
    rfl
  · rw [if_neg hkn, if_neg (Ne.symm hkn)]

/-! ### The submissions (R144) -/

/-- R144: which beats submit a slot. -/
theorem submits_eq_some {x : Nat × Beat} {n : Fin 32} : submits x = some n ↔
    x.1 = 64 * n.val + 56 ∧ x.2.strobes.toList.getD 0 false = true ∧ x.2.bytes.toList.getD 0 0 ≠ 0 := by
  have hn := n.isLt
  unfold submits
  split
  · next h =>
    rw [Option.ite_none_right_eq_some, Option.some.injEq, Fin.ext_iff]
    constructor
    · rintro ⟨⟨hoff, hstrobe, hbyte⟩, hslot⟩
      exact ⟨by dsimp only at hslot; omega, hstrobe, hbyte⟩
    · rintro ⟨hplace, hstrobe, hbyte⟩
      exact ⟨⟨by omega, hstrobe, hbyte⟩, by dsimp only; omega⟩
  · next h => exact ⟨fun hn => (nomatch hn), fun ⟨hplace, _⟩ => absurd (show x.1 / 64 < 32 by omega) h⟩

/-- R144: beats in order of their offsets submit slots in ascending order, each at most once. -/
theorem submissions_ascending {beats : List (Nat × Beat)} (h : beats.Pairwise fun x y => x.1 < y.1) :
    (beats.filterMap submits).Pairwise (· < ·) := by
  refine List.pairwise_filterMap.mpr (h.imp fun {x y} hlt m hm n hn => ?_)
  obtain ⟨hx, -⟩ := submits_eq_some.mp hm
  obtain ⟨hy, -⟩ := submits_eq_some.mp hn
  rw [Fin.lt_def]
  omega

/-- R143, R144: a write is applied to the shadows, then its submissions are taken. -/
theorem captureWrite_eq (s : State) (beats : List (Nat × Beat)) : captureWrite s beats =
    (beats.filterMap submits).foldl submit { s with cmd := { s.cmd with shadows := captured s.cmd.shadows beats } } := rfl

/-! ### The issue of a write into the command window (R131, R138) -/

theorem submit_withPath (s : State) (p : Path) (slot : Fin 32) :
    submit (s.withPath p) slot = (submit s slot).withPath p := by
  unfold submit
  simp only [apply_ite (fun u : State => u.withPath p)]
  rfl

theorem submissions_withPath (s : State) (p : Path) (l : List (Fin 32)) :
    l.foldl submit (s.withPath p) = (l.foldl submit s).withPath p := by
  induction l generalizing s with
  | nil => rfl
  | cons n rest ih => rw [List.foldl_cons, submit_withPath, ih, List.foldl_cons]

theorem captureWrite_withPath (s : State) (p : Path) (beats : List (Nat × Beat)) :
    captureWrite (s.withPath p) beats = (captureWrite s beats).withPath p :=
  submissions_withPath { s with cmd := { s.cmd with shadows := captured s.cmd.shadows beats } } p _

/-- R131, R136: a write outside the lane windows is captured as far as it lies in the command window, of which the path
unit is no part, and goes out at its own address. -/
theorem issueForwarded_command {s : State} {a : Accepted} {v : BitVec 8} {bs : List Beat} (hp : a.t.payload = .write bs)
    (hl : laneAt s a.t.addr.toNat = none) (hv : s.path.cmdBase = some v) :
    issueForwarded s a = (captureWrite s (beatsIn a.t.addr.toNat (cmdWindowBase v) 2048 bs)).withPath
      (issuedPath s a a.t.addr []) := by
  have hiw : isWrite a.t = true := by unfold isWrite; rw [hp]
  have heffect : writeEffects (s.withPath (startedPath s)) a.t
      = ((captureWrite s (beatsIn a.t.addr.toNat (cmdWindowBase v) 2048 bs)).withPath (startedPath s), a.t.addr) := by
    have hbase : (s.withPath (startedPath s)).path.cmdBase = some v := hv
    unfold writeEffects
    rw [laneAt_withPath, hl, hbase, writeBeats_write hp]
    dsimp only
    rw [captureWrite_withPath]
  have hst : (startedPath s).starvation = if waitingOwn s = none then 0 else s.path.starvation + 1 := by
    unfold startedPath
    cases waitingOwn s <;> rfl
  rw [issueForwarded_eq, if_pos hiw, heffect, ringOffsets_write hp]
  unfold issuedPath
  rw [← hst]
  rfl

/-- R144: the slots that a write of these beats at `addr` submits, in the obligation's words. -/
theorem submissions_eq {addr base : Nat} (bs : List Beat) :
    (beatsIn addr base 2048 bs).filterMap submits = (List.finRange 32).filter fun n : Fin 32 =>
      (List.range bs.length).any fun j => decide (addr + 8 * j = base + 64 * n.val + 8 * (56 / 8)) &&
        (match bs[j]? with
          | some b => b.strobes.toList.getD 0 false && decide (b.bytes.toList.getD 0 0 ≠ 0)
          | none => false) := by
  refine (submissions_ascending beatsIn_ascending).eq_of_mem_iff
    ((List.sortedLT_finRange 32).pairwise.filter _) fun n => ?_
  have hn := n.isLt
  rw [List.mem_filterMap, List.mem_filter, List.any_eq_true]
  constructor
  · rintro ⟨⟨o, b⟩, hx, hs⟩
    obtain ⟨j, hj, hlo, hhi, rfl⟩ := mem_beatsIn.mp hx
    obtain ⟨hplace, hstrobe, hbyte⟩ := submits_eq_some.mp hs
    refine ⟨List.mem_finRange n, j, List.mem_range.mpr (List.getElem?_eq_some_iff.mp hj).1, ?_⟩
    rw [Bool.and_eq_true, decide_eq_true_eq, hj]
    exact ⟨by dsimp only at hplace; omega, Bool.and_eq_true_iff.mpr ⟨hstrobe, decide_eq_true hbyte⟩⟩
  · rintro ⟨-, j, -, h⟩
    rw [Bool.and_eq_true, decide_eq_true_eq] at h
    obtain ⟨hplace, hb⟩ := h
    cases hj : bs[j]? with
    | none => rw [hj] at hb; cases hb
    | some b =>
      rw [hj] at hb
      obtain ⟨hstrobe, hbyte⟩ := Bool.and_eq_true_iff.mp hb
      exact ⟨(addr + 8 * j - base, b), mem_beatsIn.mpr ⟨j, hj, by omega, by omega, rfl⟩,
        submits_eq_some.mpr ⟨by dsimp only; omega, hstrobe, of_decide_eq_true hbyte⟩⟩

/-- The base of the command window is a multiple of 8. -/
theorem cmdWindowBase_mod (v : BitVec 8) : cmdWindowBase v % 8 = 0 := by unfold cmdWindowBase; omega

/-- R143, R144: the submission of a write of one beat at slot `n`, beat `j` of its eight. -/
theorem submits_one (n : Fin 32) (j : Fin 8) (b : Beat) : submits (64 * n.val + 8 * j.val, b) =
    if j.val = 7 ∧ b.strobes.toList.getD 0 false = true ∧ b.bytes.toList.getD 0 0 ≠ 0 then some n else none := by
  have hj := j.isLt
  split
  · next h => exact submits_eq_some.mpr ⟨by dsimp only; omega, h.2⟩
  · next h =>
    refine Option.eq_none_iff_forall_ne_some.mpr fun m hm => h ?_
    obtain ⟨hplace, hrest⟩ := submits_eq_some.mp hm
    exact ⟨by dsimp only at hplace; omega, hrest⟩

/-- R143, R144: the capture of one beat. -/
theorem captureWrite_one (s : State) (n : Fin 32) (j : Fin 8) (b : Beat) :
    captureWrite s [(64 * n.val + 8 * j.val, b)] =
      let u : State := { s with cmd := { s.cmd with
        shadows := s.cmd.shadows.set n ((s.cmd.shadows.get n).mapIdx fun i old =>
          if 8 * j.val ≤ i ∧ i < 8 * j.val + 8 ∧ b.strobes.toList.getD (i - 8 * j.val) false = true then
            b.bytes.toList.getD (i - 8 * j.val) 0 else old) } }
      if j.val = 7 ∧ b.strobes.toList.getD 0 false = true ∧ b.bytes.toList.getD 0 0 ≠ 0 then submit u n else u := by
  have hslots : [(64 * n.val + 8 * j.val, b)].filterMap submits =
      if j.val = 7 ∧ b.strobes.toList.getD 0 false = true ∧ b.bytes.toList.getD 0 0 ≠ 0 then [n] else [] := by
    rw [List.filterMap_cons, submits_one, List.filterMap_nil]
    split_ifs <;> rfl
  rw [captureWrite_eq, hslots, captured, List.foldl_cons, List.foldl_nil, captureBeat_eq_set, apply_ite (List.foldl submit _)]
  rfl

/-- R136: a one-beat write into the command window lies in it whole. -/
theorem beatsIn_one {addr base : Nat} {n : Fin 32} {j : Fin 8} (h : addr = base + 64 * n.val + 8 * j.val) (b : Beat) :
    beatsIn addr base 2048 [b] = [(64 * n.val + 8 * j.val, b)] := by
  have hn := n.isLt
  have hj := j.isLt
  have hin : base ≤ addr + 8 * 0 ∧ addr + 8 * 0 < base + 2048 := by omega
  have hoff : addr + 8 * 0 - base = 64 * n.val + 8 * j.val := by omega
  simp only [beatsIn, List.zipIdx_cons, List.zipIdx_nil, List.filterMap_cons, List.filterMap_nil, hin, and_self, if_true,
    hoff]

/-- Settles O19. -/
theorem commandWindowCaptured : Obligations.CommandWindowCaptured := by
  refine ⟨fun s a v n j b ho hr hw hp hl hv haddr => ?_, fun s a v bs ho hr hw hp hl hv h8 => ?_⟩
  · rw [execForwardedIssue_issues ho hr hw, issueForwarded_command hp hl hv, beatsIn_one haddr, captureWrite_one]
    dsimp only
    rw [apply_ite (fun u : State => u.withPath (issuedPath s a a.t.addr [])), ← submit_withPath]
    rfl
  · intro place
    refine ⟨captured s.cmd.shadows (beatsIn a.t.addr.toNat (cmdWindowBase v) 2048 bs), fun n i => ?_, ?_⟩
    · have hb8 := cmdWindowBase_mod v
      have hn := n.isLt
      have hi := i.isLt
      have hoffsets : ∀ x ∈ beatsIn a.t.addr.toNat (cmdWindowBase v) 2048 bs, x.1 % 8 = 0 := fun x hx => by
        obtain ⟨j, -, hlo, -, hoff⟩ := mem_beatsIn.mp hx
        omega
      refine ⟨fun j b hj hplace => captured_get_of_covered hoffsets ?_ beatsIn_ascending, fun hne =>
        captured_get_of_uncovered hoffsets fun x hx => ?_⟩
      · dsimp only [place] at hplace
        exact mem_beatsIn.mpr ⟨j, hj, by omega, by omega, by omega⟩
      · obtain ⟨j, hj, hlo, -, hoff⟩ := mem_beatsIn.mp hx
        have hj' := hne j (List.getElem?_eq_some_iff.mp hj).1
        dsimp only [place] at hj'
        omega
    · rw [execForwardedIssue_issues ho hr hw, issueForwarded_command hp hl hv, captureWrite_eq, submissions_eq,
        ← submissions_withPath]
      rfl

end Sys2Proof.Machine
end

section
/-! ## Records that stand in a longer one, and reserved bytes (R167, 10 10.4, 10.6) -/

namespace Sys2Proof.Machine

set_option Elab.async false

/-- The bytes `c` stand in `b` from offset `o` on. -/
def StandsAt (b : List Byte) (o : Nat) (c : List Byte) : Prop := ∀ j < c.length, byteAt b (o + j) = byteAt c j

namespace StandsAt

variable {a b c d : List Byte} {o p j : Nat}

theorem here (c d : List Byte) : StandsAt (c ++ d) 0 c := fun j hj => by
  rw [Nat.zero_add]; exact byteAt_append_left hj

theorem behind (h : StandsAt b o c) (ha : a.length = p) : StandsAt (a ++ b) (p + o) c := fun j hj => by
  rw [byteAt_append_right (by omega), ← h j hj]
  congr 1
  omega

theorem before (h : StandsAt b o c) (hlen : o + c.length ≤ b.length) (d : List Byte) : StandsAt (b ++ d) o c :=
  fun j hj => by rw [byteAt_append_left (by omega), h j hj]

theorem trans (h : StandsAt b o c) (h' : StandsAt c p d) (hlen : p + d.length ≤ c.length) : StandsAt b (o + p) d :=
  fun j hj => by rw [Nat.add_assoc, h (p + j) (by omega), h' j hj]

theorem u8 (h : StandsAt b o c) (hj : j < c.length) : u8 b (o + j) = Machine.u8 c j := by
  rw [Machine.u8, h j hj, Machine.u8]

theorem u16 (h : StandsAt b o c) (hj : j + 1 < c.length) : u16 b (o + j) = Machine.u16 c j := by
  rw [Machine.u16, Nat.add_assoc, h.u8 (by omega), h.u8 hj, Machine.u16]

theorem u32 (h : StandsAt b o c) (hj : j + 3 < c.length) : u32 b (o + j) = Machine.u32 c j := by
  rw [Machine.u32, Nat.add_assoc, h.u16 (by omega), h.u16 (by omega), Machine.u32]

end StandsAt

/-- Records of one length joined together have that length each. -/
theorem flatMap_length_of_const {α : Type} {f : α → List Byte} {n : Nat} (hf : ∀ x, (f x).length = n) (l : List α) :
    (l.flatMap f).length = n * l.length := by
  simp [List.length_flatMap, hf, Nat.mul_comm]

/-- Records of one length joined together stand at the multiples of it. -/
theorem standsAt_flatMap {α : Type} {f : α → List Byte} {n : Nat} (hf : ∀ x, (f x).length = n) {l : List α} {k : Nat}
    {x : α} (hk : l[k]? = some x) : StandsAt (l.flatMap f) (n * k) (f x) := by
  induction l generalizing k with
  | nil => cases hk
  | cons y rest ih =>
    rw [List.flatMap_cons]
    cases k with
    | zero =>
      obtain rfl : y = x := Option.some.inj hk
      exact .here _ _
    | succ k =>
      rw [Nat.mul_succ, Nat.add_comm]
      exact (ih hk).behind (hf y)

/-- Reserved bytes are zero. -/
theorem byteAt_res (n i : Nat) : byteAt (res n) i = 0 := by
  unfold byteAt res
  rw [List.getD_eq_getElem?_getD, List.getElem?_replicate]
  split <;> rfl

theorem u8_res (n i : Nat) : u8 (res n) i = 0 := by rw [u8, byteAt_res]; rfl

theorem u16_res (n i : Nat) : u16 (res n) i = 0 := by rw [u16, u8_res, u8_res]

theorem res_length (n : Nat) : (res n).length = n := List.length_replicate

end Sys2Proof.Machine
end

section
/-! ## The notice writer: what it hands on, ATTN, and the bytes of a notice (R158, R159, R163, 10 10.4) -/

namespace Sys2Proof.Machine

open Sys2Proof.Safety

set_option Elab.async false

/-! ### The hand-on (R158, R159) -/

section
variable {s : State} {r : Ring}

theorem noticeReady_of_room (hr : s.cmd.restart = none) (hw : s.notices.state = .writing) (hring : s.notices.ring = some r)
    (hroom : s.notices.u < r.entries) (hn : s.notices.queue ≠ [] ∨ 0 < s.notices.discarded) : noticeReady s = true :=
  noticeReady_iff.mpr ⟨hw, ⟨r, hring, hroom⟩, hn, by simp [hr]⟩

/-- R158: a WRITING writer with a place and room in the ring hands on the notice that comes next. -/
theorem execNoticeWriteHandOn_hands {n : Notice} (ho : OutOfReset s) (hp : placeFor s .noticeWriter = true)
    (hready : noticeReady s = true) (hring : s.notices.ring = some r) (hnext : nextNotice s.notices = some n) :
    exec .noticeWriteHandOn s = .next (commit s { s with
      path := handed s.path (.noticeWriter true) (r.base + BitVec.ofNat 32 (32 * s.notices.p))
        (beatsOf 4 (noticeBytes (s.notices.sequence + 1) n))
      notices := s.notices.written r n s.path.now }) := by
  have hmay : mayHandOn s .noticeWriter = true := by
    simp [mayHandOn, clientReady, show s.path.resetLow = false from ho, hready, hp]
  show execNoticeWriteHandOn s = _
  unfold execNoticeWriteHandOn
  rw [if_pos hmay, hring, hnext]
  rfl

end

/-- R158: with nothing discarded the head of the queue is written. -/
theorem written_head {w : NoticeWriter} (r : Ring) {n : Notice} {rest : List Notice} (stamp : Nat) (hd : w.discarded = 0)
    (hq : w.queue = n :: rest) : w.written r n stamp = { w with
      sequence := w.sequence + 1, queue := rest, p := if w.p + 1 = r.entries then 0 else w.p + 1, u := w.u + 1
      unconsumed := w.unconsumed ++ [{ alarm := n.kind.alarm, overrun := false, stamp := stamp }] } := by
  simp [NoticeWriter.written, hd, hq, ringNext]

/-- R159: discards are reported first, and their counts start again. -/
theorem written_overrun {w : NoticeWriter} (r : Ring) (stamp : Nat) (hd : 0 < w.discarded) :
    w.written r (overrunNotice w) stamp = { w with
      sequence := w.sequence + 1, discarded := 0, discardedAlarms := 0
      p := if w.p + 1 = r.entries then 0 else w.p + 1, u := w.u + 1
      unconsumed := w.unconsumed ++ [{ alarm := true, overrun := true, stamp := stamp }] } := by
  simp [NoticeWriter.written, hd, ringNext, overrunNotice, NoticeKind.alarm]

/-! ### ATTN (R163) -/

theorem attn_iff (s : State) : s.attn = true ↔ (∃ e ∈ s.notices.unconsumed, e.alarm = true) ∨ s.notices.overrun = true
    ∨ s.notices.state = .writeFault
    ∨ ∃ r, s.notices.ring = some r ∧ r.info = true ∧ ∃ e ∈ s.notices.unconsumed, e.alarm = false := by
  unfold State.attn
  cases s.notices.ring <;> simp [or_assoc]

/-! ### The bytes of a notice (10 10.4) -/

theorem noticeBytes_kind (sequence : BitVec 32) (n : Notice) : u8 (noticeBytes sequence n) 4 = n.kind.code % 256 := by
  simp [noticeBytes, u8_append_left, u8_append_right, le_bytes_length, u8_le]

theorem noticeBytes_class (sequence : BitVec 32) (n : Notice) :
    u8 (noticeBytes sequence n) 5 = (if n.kind.alarm then 1 else 0) % 256 := by
  simp [noticeBytes, u8_append_left, u8_append_right, le_bytes_length, u8_le]

/-- 09 9.1: the alarms are the kinds with the codes up to 8. -/
theorem alarm_iff_code (k : NoticeKind) : k.alarm = true ↔ k.code % 256 ≤ 8 := by
  cases k <;> decide

/-- Settles O32: the writer's own record of the notice it hands on, ATTN as its four conditions, and the fields of a notice
read out of its bytes. -/
theorem noticeWritten : Obligations.NoticeWritten := by
  refine ⟨fun s r ho hp hrestart hw hring hroom => ?_, attn_iff, fun sequence n => ?_⟩
  · intro w addr next ovr
    refine ⟨fun n rest hd hq => ?_, fun hd => ?_, fun t _ halarm => ?_⟩
    · have hready := noticeReady_of_room hrestart hw hring hroom (.inl (by rw [show s.notices.queue = _ from hq]; simp))
      have hnext : nextNotice s.notices = some n := by
        simp [nextNotice, show s.notices.discarded = 0 from hd, show s.notices.queue = _ from hq]
      rw [execNoticeWriteHandOn_hands ho hp hready hring hnext, written_head r s.path.now hd hq]
    · have hready := noticeReady_of_room hrestart hw hring hroom (.inr hd)
      have hnext : nextNotice s.notices = some (overrunNotice s.notices) := if_pos hd
      rw [execNoticeWriteHandOn_hands ho hp hready hring hnext, written_overrun r s.path.now hd]
      rfl
    · exact (attn_iff t).mpr (.inl (List.any_eq_true.mp halarm))
  · intro b
    have hkind : u8 b 4 = n.kind.code % 256 := noticeBytes_kind sequence n
    refine ⟨?_, ?_, ?_, ?_, ?_, ?_, ?_, ?_, ?_, ?_, ?_, ?_, ?_, ?_⟩
    case refine_3 =>
      rw [show u8 b 5 = _ from noticeBytes_class sequence n, hkind]
      simp only [← alarm_iff_code]
      split <;> rfl
    case refine_4 => rw [hkind, alarm_iff_code]
    case refine_14 => rw [hkind]; cases n.kind <;> rfl
    all_goals
      simp [b, noticeBytes, u8_append_left, u8_append_right, u16_append_left, u16_append_right, u32_append_left,
        u32_append_right, le_bytes_length, res_length, u8_le, u16_le, u32_le, u16_res,
        Nat.mod_eq_of_lt sequence.isLt, Nat.mod_eq_of_lt n.cycle.isLt, Nat.mod_eq_of_lt n.time.isLt,
        Nat.mod_eq_of_lt n.v1.isLt, Nat.mod_eq_of_lt n.v2.isLt, Nat.mod_eq_of_lt n.v3.isLt]

end Sys2Proof.Machine
end

section
/-! ## The status write: its start, its parts, and the bytes of the block (R165, R167, 10 10.6) -/

namespace Sys2Proof.Machine

open Sys2Proof.Safety

set_option Elab.async false

/-! ### The start of a write, and the hand-on of its parts (R165) -/

section
variable {s : State} {b : StatusPlace} (ho : OutOfReset s) (hr : s.cmd.restart = none) (hb : s.status.place = some b)

section
include hb

/-- R165: when a SCHEDULED write is due. -/
theorem scheduledDue_eq : scheduledDue s.status = (s.status.change && (match s.status.timer with
    | some n => decide (b.period * 1000 ≤ n) | none => false)) := by
  unfold scheduledDue
  rw [hb]
  cases s.status.timer <;> rfl

theorem scheduledDue_iff : scheduledDue s.status = true ↔
    s.status.change = true ∧ ∃ n, s.status.timer = some n ∧ b.period * 1000 ≤ n := by
  rw [scheduledDue_eq hb]
  cases s.status.timer <;> simp

end

include ho hr

theorem execStatusWriteStart_starts (hi : s.status.state = .idle)
    (hdue : scheduledDue s.status = true ∨ s.status.waiting ≠ []) :
    exec .statusWriteStart s = .next (commit s (startStatusWrite s)) := by
  have hdrain : draining s = false := draining_eq_false.mpr (by simp [hr])
  have hg : (!s.path.resetLow && !draining s && decide (s.status.state = .idle)
      && (scheduledDue s.status || !s.status.waiting.isEmpty)) = true := by
    rw [show s.path.resetLow = false from ho, hdrain, hi]
    simpa using hdue
  exact if_pos hg

include hb

theorem execStatusPartHandOn_hands {w : StatusWrite} (hst : s.status.state = .writing)
    (hp : placeFor s .statusWriter = true) (hw : s.status.write = some w) (hh : w.handed < 8) (hf : w.faulted = false)
    (hc : w.cut = false) :
    exec .statusPartHandOn s = .next (commit s { s with
      path := handed s.path (.statusWriter true) (b.base + BitVec.ofNat 32 (128 * w.handed))
        (beatsOf 16 (partBytes w w.handed))
      status := { s.status with write := some { w with handed := w.handed + 1 } } }) := by
  have hready : statusReady s = true := statusReady_iff.mpr ⟨hst, ⟨w, hw, hh, hf, hc⟩, by simp [hr]⟩
  have hmay : mayHandOn s .statusWriter = true := by
    simp [mayHandOn, clientReady, show s.path.resetLow = false from ho, hready, hp]
  show execStatusPartHandOn s = _
  unfold execStatusPartHandOn
  rw [if_pos hmay, hw, hb]
  rfl

end

/-! ### The lengths of the entries -/

theorem stationBytes_length (x : ShownStation) : (stationBytes x).length = 32 := by
  simp [stationBytes, le_bytes_length, res_length]

theorem laneBytes_length (x : ShownLane) : (laneBytes x).length = 32 := by
  simp [laneBytes, le16s, le_bytes_length, res_length]

theorem mapByte_length (m : List Nat) (k : Nat) : (mapByte m k).length = 1 := by simp [mapByte, le_bytes_length]

theorem mapBytes_length (m : List Nat) : ((List.range 6).flatMap (mapByte m)).length = 6 := by
  simp [flatMap_length_of_const (mapByte_length m)]

theorem segBytes_length (x : ShownSegs) : (segBytes x).length = 12 := by
  simp only [segBytes, List.length_append, le_bytes_length, res_length, mapBytes_length]

theorem headerBytes_length (g : BitVec 32) (x : Shown) : (headerBytes g x).length = 128 := by
  simp [headerBytes, le_bytes_length, res_length]

/-! ### What stands where in the block -/

/-- The items of 4 stations, 16 lanes and 16 segment records, as the block has room for. -/
structure Shown.Full (x : Shown) : Prop where
  stations : x.stations.length = 4
  lanes : x.lanes.length = 16
  segs : x.segs.length = 16

theorem shown_full (s : State) : (shown s).Full := ⟨by simp [shown], by simp [shown], by simp [shown]⟩

section
variable {x : Shown} (hx : x.Full) (g : BitVec 32)
include hx

theorem stationEntries_length : (x.stations.flatMap stationBytes).length = 128 := by
  rw [flatMap_length_of_const stationBytes_length, hx.stations]

theorem laneEntries_length : (x.lanes.flatMap laneBytes).length = 512 := by
  rw [flatMap_length_of_const laneBytes_length, hx.lanes]

theorem segEntries_length : (x.segs.flatMap segBytes).length = 192 := by
  rw [flatMap_length_of_const segBytes_length, hx.segs]

theorem statusBytes_length : (statusBytes g x).length = 1024 := by
  simp only [statusBytes, List.length_append, headerBytes_length, stationEntries_length hx, laneEntries_length hx,
    segEntries_length hx, res_length, le_bytes_length]

omit hx in
/-- The block as the header and what stands behind it. -/
theorem statusBytes_eq : statusBytes g x = headerBytes g x ++ (x.stations.flatMap stationBytes
    ++ (x.lanes.flatMap laneBytes ++ (x.segs.flatMap segBytes ++ (res 60 ++ le 4 g.toNat)))) := by
  have hres : res 60 = res 56 ++ res 4 := rfl
  simp only [statusBytes, hres, List.append_assoc]

omit hx in
theorem header_standsAt : StandsAt (statusBytes g x) 0 (headerBytes g x) := by
  rw [statusBytes_eq]
  exact .here _ _

theorem station_standsAt {k : Nat} {y : ShownStation} (hk : x.stations[k]? = some y) :
    StandsAt (statusBytes g x) (128 + 32 * k) (stationBytes y) := by
  have hlt := (List.getElem?_eq_some_iff.mp hk).1
  rw [hx.stations] at hlt
  rw [statusBytes_eq]
  exact ((standsAt_flatMap stationBytes_length hk).before
    (by rw [stationEntries_length hx, stationBytes_length]; omega) _).behind (headerBytes_length g x)

theorem lane_standsAt {k : Nat} {y : ShownLane} (hk : x.lanes[k]? = some y) :
    StandsAt (statusBytes g x) (256 + 32 * k) (laneBytes y) := by
  have hlt := (List.getElem?_eq_some_iff.mp hk).1
  rw [hx.lanes] at hlt
  have h := (((standsAt_flatMap laneBytes_length hk).before
    (by rw [laneEntries_length hx, laneBytes_length]; omega)
    (x.segs.flatMap segBytes ++ (res 60 ++ le 4 g.toNat))).behind (stationEntries_length hx)).behind
    (headerBytes_length g x)
  rw [statusBytes_eq, show 256 + 32 * k = 128 + (128 + 32 * k) by omega]
  exact h

theorem seg_standsAt {k : Nat} {y : ShownSegs} (hk : x.segs[k]? = some y) :
    StandsAt (statusBytes g x) (768 + 12 * k) (segBytes y) := by
  have hlt := (List.getElem?_eq_some_iff.mp hk).1
  rw [hx.segs] at hlt
  have h := ((((standsAt_flatMap segBytes_length hk).before
    (by rw [segEntries_length hx, segBytes_length]; omega) (res 60 ++ le 4 g.toNat)).behind
    (laneEntries_length hx)).behind (stationEntries_length hx)).behind (headerBytes_length g x)
  rw [statusBytes_eq, show 768 + 12 * k = 128 + (128 + (512 + 12 * k)) by omega]
  exact h

/-- The last 64 bytes: reserved ones, and the generation again. -/
theorem tail_standsAt : StandsAt (statusBytes g x) 960 (res 60 ++ le 4 g.toNat) := by
  have h := ((((StandsAt.here (res 60 ++ le 4 g.toNat) []).behind (segEntries_length hx)).behind
    (laneEntries_length hx)).behind (stationEntries_length hx)).behind (headerBytes_length g x)
  rw [List.append_nil] at h
  rw [statusBytes_eq]
  exact h

end

/-! ### The fields of the entries -/

theorem res_after {a : List Byte} {n j : Nat} (h : a.length ≤ j) : u8 (a ++ res n) j = 0 := by
  rw [u8_append_right h, u8_res]

/-- The items of the header. -/
theorem headerBytes_fields (g : BitVec 32) (x : Shown) :
    let b := headerBytes g x
    (u16 b 0 = 0x00C4 ∧ u8 b 2 = 1 ∧ u32 b 4 = g.toNat ∧ u8 b 8 = x.notice.code % 256
      ∧ u16 b 10 = x.discarded % 65536 ∧ u16 b 12 = x.p % 65536 ∧ u16 b 14 = x.c % 65536 ∧ u16 b 16 = x.u % 65536
      ∧ u16 b 18 = x.refused % 65536 ∧ u16 b 20 = x.ignored % 65536 ∧ u16 b 22 = x.outcomeFaults % 65536
      ∧ u8 b 24 = x.commands % 256)
    ∧ ∀ j, (j = 3 ∨ j = 9 ∨ (25 ≤ j ∧ j < 128)) → u8 b j = 0 := by
  intro b
  refine ⟨?_, fun j hj => ?_⟩
  · simp [b, headerBytes, u8_append_left, u8_append_right, u16_append_left, u16_append_right, u32_append_left,
      u32_append_right, le_bytes_length, res_length, u8_le, u16_le, u32_le, Nat.mod_eq_of_lt g.isLt]
  · rcases hj with rfl | rfl | ⟨hlo, -⟩
    · simp [b, headerBytes, u8_append_left, u8_append_right, le_bytes_length, res_length, u8_res]
    · simp [b, headerBytes, u8_append_left, u8_append_right, le_bytes_length, res_length, u8_res]
    · exact res_after (by simpa [le_bytes_length, res_length] using hlo)

/-- The items of a station's entry. -/
theorem stationBytes_fields (x : ShownStation) :
    let b := stationBytes x
    (u8 b 0 = x.state.code % 256 ∧ u8 b 1 = x.depth % 256 ∧ u8 b 2 = x.pool % 256 ∧ u32 b 4 = x.cycle.toNat
      ∧ u16 b 8 = x.period % 65536 ∧ u16 b 10 = x.early % 65536 ∧ u16 b 12 = x.clamped % 65536
      ∧ u32 b 16 = x.outOfCycle % 4294967296)
    ∧ ∀ j, (j = 3 ∨ j = 14 ∨ j = 15 ∨ (20 ≤ j ∧ j < 32)) → u8 b j = 0 := by
  intro b
  refine ⟨?_, fun j hj => ?_⟩
  · simp [b, stationBytes, u8_append_left, u8_append_right, u16_append_left, u16_append_right, u32_append_left,
      u32_append_right, le_bytes_length, res_length, u8_le, u16_le, u32_le, Nat.mod_eq_of_lt x.cycle.isLt]
  · rcases hj with rfl | rfl | rfl | ⟨hlo, -⟩
    · simp [b, stationBytes, u8_append_left, u8_append_right, le_bytes_length, res_length, u8_res]
    · simp [b, stationBytes, u8_append_left, u8_append_right, le_bytes_length, res_length, u8_res]
    · simp [b, stationBytes, u8_append_left, u8_append_right, le_bytes_length, res_length, u8_res]
    · exact res_after (by simpa [le_bytes_length, res_length] using hlo)

/-- The items of a lane's entry. -/
theorem laneBytes_fields (x : ShownLane) :
    let b := laneBytes x
    (u8 b 0 = x.state.code % 256 ∧ u8 b 1 = reasonCode x.reason % 256 ∧ u8 b 2 = x.noiseValid.toNat % 256
      ∧ u8 b 3 = x.lastTest.result.code % 256 ∧ u16 b 4 = x.noise % 65536 ∧ u16 b 6 = x.threshold % 65536
      ∧ u16 b 8 = (BitVec.ofInt 16 x.offset).toNat ∧ u16 b 10 = x.badBlocks % 65536 ∧ u32 b 12 = x.horizon.toNat
      ∧ u16 b 16 = x.skipped % 65536 ∧ u16 b 18 = x.foreign % 65536 ∧ u32 b 20 = x.lastTest.errors % 4294967296
      ∧ u16 b 24 = x.lastTest.counted % 65536)
    ∧ ∀ j, 26 ≤ j → j < 32 → u8 b j = 0 := by
  intro b
  refine ⟨?_, fun j hlo _ => res_after (by simpa [le16s, le_bytes_length, res_length] using hlo)⟩
  simp [b, laneBytes, le16s, u8_append_left, u8_append_right, u16_append_left, u16_append_right, u32_append_left,
    u32_append_right, le_bytes_length, u8_le, u16_le, u32_le, Nat.mod_eq_of_lt x.horizon.isLt,
    Nat.mod_eq_of_lt (BitVec.ofInt 16 x.offset).isLt, -BitVec.toNat_ofInt]

/-- The items of a lane's segment entry. -/
theorem segBytes_fields (x : ShownSegs) :
    let b := segBytes x
    (∀ j < 6, u8 b j = (x.map.getD (2 * j) 0 + 16 * x.map.getD (2 * j + 1) 0) % 256)
    ∧ u8 b 6 = x.logical % 256 ∧ u8 b 7 = x.free % 256 ∧ u8 b 8 = x.held % 256 ∧ u8 b 9 = 0
    ∧ u16 b 10 = x.dropped % 65536 := by
  intro b
  refine ⟨fun j hj => ?_, ?_⟩
  · have hentry : (List.range 6)[j]? = some j := List.getElem?_range hj
    have hmap := standsAt_flatMap (mapByte_length x.map) hentry
    have hstands := (StandsAt.here ((List.range 6).flatMap (mapByte x.map))
      (le 1 x.logical ++ (le 1 x.free ++ (le 1 x.held ++ (res 1 ++ le 2 x.dropped))))).trans hmap
      (by rw [mapBytes_length, mapByte_length]; omega)
    have hbyte := hstands.u8 (j := 0) (by rw [mapByte_length]; exact Nat.one_pos)
    simp only [b, segBytes, List.append_assoc]
    rw [Nat.zero_add, Nat.one_mul, Nat.add_zero] at hbyte
    rw [hbyte]
    exact u8_le 0 _
  · have hmap := mapBytes_length x.map
    dsimp only [b, segBytes]
    generalize (List.range 6).flatMap (mapByte x.map) = m at hmap
    simp [u8_append_left, u8_append_right, u16_append_right, hmap, le_bytes_length, res_length, u8_le, u16_le, u8_res]

/-! ### The items that the block shows (09 9.5, 10 10.6) -/

theorem shown_station (s : State) (k : Fin 4) : (shown s).stations[k.val]? = some (s.station k).shown := by
  simp [shown, State.station, Vector.get_eq_getElem]

theorem shown_lane (s : State) (i : Fin 16) : (shown s).lanes[i.val]? = some (s.lane i).shown := by
  simp [shown, State.lane, Vector.get_eq_getElem]

theorem shown_seg (s : State) (i : Fin 16) : (shown s).segs[i.val]? = some (shownSegs (s.lane i) (s.seg i)) := by
  simp [shown]

/-- The block's header and its last 64 bytes. -/
theorem statusBytes_header (g : BitVec 32) (s : State) :
    let b := statusBytes g (shown s)
    (u16 b 0 = 0x00C4 ∧ u8 b 2 = 1 ∧ u32 b 4 = g.toNat ∧ u32 b 1020 = g.toNat
      ∧ (u8 b 8 = match s.notices.state with | .noRing => 0 | .writing => 1 | .writeFault => 2)
      ∧ u16 b 10 = s.notices.discarded % 65536 ∧ u16 b 12 = s.notices.p % 65536 ∧ u16 b 14 = s.notices.c % 65536
      ∧ u16 b 16 = s.notices.u % 65536 ∧ u16 b 18 = s.path.refusedCount % 65536 ∧ u16 b 20 = s.cmd.ignored % 65536
      ∧ u16 b 22 = s.cmd.outcomeFaults % 65536 ∧ u8 b 24 = s.cmd.queue.length % 256)
    ∧ ∀ j, (j = 3 ∨ j = 9 ∨ (25 ≤ j ∧ j < 128) ∨ (960 ≤ j ∧ j < 1020)) → u8 b j = 0 := by
  intro b
  have hhead := header_standsAt (x := shown s) g
  have htail := tail_standsAt (shown_full s) g
  have hlen := headerBytes_length g (shown s)
  have h8 {j : Nat} (hj : j < 128) : u8 b j = u8 (headerBytes g (shown s)) j := by
    have h := hhead.u8 (j := j) (by omega)
    rwa [Nat.zero_add] at h
  have h16 {j : Nat} (hj : j + 1 < 128) : u16 b j = u16 (headerBytes g (shown s)) j := by
    have h := hhead.u16 (j := j) (by omega)
    rwa [Nat.zero_add] at h
  have h32 {j : Nat} (hj : j + 3 < 128) : u32 b j = u32 (headerBytes g (shown s)) j := by
    have h := hhead.u32 (j := j) (by omega)
    rwa [Nat.zero_add] at h
  obtain ⟨⟨hpart, hrev, hgen, hnotice, hdisc, hp, hc, hu, href, hign, hout, hcmds⟩, hres⟩ := headerBytes_fields g (shown s)
  have htailLen : (res 60 ++ le 4 g.toNat).length = 64 := by simp [res_length, le_bytes_length]
  refine ⟨⟨?_, ?_, ?_, ?_, ?_, ?_, ?_, ?_, ?_, ?_, ?_, ?_, ?_⟩, fun j hj => ?_⟩
  · rw [h16 (by omega), hpart]
  · rw [h8 (by omega), hrev]
  · rw [h32 (by omega), hgen]
  · rw [show u32 b 1020 = _ from htail.u32 (j := 60) (by omega), u32_append_right (by simp [res_length]), res_length]
    exact (u32_le 0 _).trans (Nat.mod_eq_of_lt g.isLt)
  · rw [h8 (by omega), hnotice]
    show s.notices.state.code % 256 = _
    cases s.notices.state <;> rfl
  · rw [h16 (by omega), hdisc]; rfl
  · rw [h16 (by omega), hp]; rfl
  · rw [h16 (by omega), hc]; rfl
  · rw [h16 (by omega), hu]; rfl
  · rw [h16 (by omega), href]; rfl
  · rw [h16 (by omega), hign]; rfl
  · rw [h16 (by omega), hout]; rfl
  · rw [h8 (by omega), hcmds]; rfl
  · by_cases hlast : 960 ≤ j
    · obtain ⟨k, rfl⟩ := Nat.exists_eq_add_of_le hlast
      rw [show u8 b (960 + k) = _ from htail.u8 (by omega), u8_append_left (by rw [res_length]; omega), u8_res]
    · rw [h8 (by omega), hres j (by omega)]

/-- The entry of a station. -/
theorem statusBytes_station (g : BitVec 32) (s : State) (k : Fin 4) :
    let b := statusBytes g (shown s)
    let x := s.station k
    let o := 128 + 32 * k.val
    (u8 b o = match x.state with
      | .stopped => 0 | .waiting => 1 | .compacting => 2 | .tailing => 3 | .pressIdle => 4 | .blind => 5)
    ∧ u8 b (o + 1) = x.boundary.length % 256 ∧ u8 b (o + 2) = x.pool.length % 256 ∧ u32 b (o + 4) = x.cycle.toNat
    ∧ u16 b (o + 8) = x.period.getD 0 % 65536 ∧ u16 b (o + 10) = x.early % 65536 ∧ u16 b (o + 12) = x.clamped % 65536
    ∧ u32 b (o + 16) = x.outOfCycle % 4294967296
    ∧ ∀ j, (j = 3 ∨ j = 14 ∨ j = 15 ∨ (20 ≤ j ∧ j < 32)) → u8 b (o + j) = 0 := by
  intro b x o
  have hat : StandsAt b o (stationBytes x.shown) := station_standsAt (shown_full s) g (shown_station s k)
  have hlen := stationBytes_length x.shown
  obtain ⟨⟨hstate, hdepth, hpool, hcycle, hperiod, hearly, hclamped, hout⟩, hres⟩ := stationBytes_fields x.shown
  refine ⟨?_, ?_, ?_, ?_, ?_, ?_, ?_, ?_, fun j hj => ?_⟩
  · rw [show u8 b o = _ from hat.u8 (j := 0) (by omega), hstate]
    show x.state.code % 256 = _
    cases x.state <;> rfl
  · rw [hat.u8 (by omega), hdepth]; rfl
  · rw [hat.u8 (by omega), hpool]; rfl
  · rw [hat.u32 (by omega), hcycle]; rfl
  · rw [hat.u16 (by omega), hperiod]; rfl
  · rw [hat.u16 (by omega), hearly]; rfl
  · rw [hat.u16 (by omega), hclamped]; rfl
  · rw [hat.u32 (by omega), hout]; rfl
  · rw [hat.u8 (by omega), hres j hj]

/-- The entry of a lane. -/
theorem statusBytes_lane (g : BitVec 32) (s : State) (i : Fin 16) :
    let b := statusBytes g (shown s)
    let x := s.lane i
    let o := 256 + 32 * i.val
    (u8 b o = match x.state with
      | .unmapped => 0 | .idle => 1 | .settling => 2 | .live => 3 | .faulted => 4 | .test => 5)
    ∧ (u8 b (o + 1) = match x.faultReason with
      | none => 0 | some .sync => 1 | some .laneId => 2 | some .slip => 3 | some .torn => 4 | some .silent => 5)
    ∧ u8 b (o + 2) = (if x.noiseValid = true then 1 else 0)
    ∧ (u8 b (o + 3) = match x.lastTest.result with | .none => 0 | .pass => 1 | .fail => 2 | .timeout => 3 | .aborted => 4)
    ∧ u16 b (o + 4) = x.noise % 65536 ∧ u16 b (o + 6) = x.threshold.getD 0 % 65536
    ∧ u16 b (o + 8) = (BitVec.ofInt 16 x.offset).toNat ∧ u16 b (o + 10) = x.badBlocks % 65536
    ∧ u32 b (o + 12) = (x.horizon.getD 0).toNat ∧ u16 b (o + 16) = x.skipped % 65536 ∧ u16 b (o + 18) = x.foreign % 65536
    ∧ u32 b (o + 20) = x.lastTest.errors % 4294967296 ∧ u16 b (o + 24) = x.lastTest.counted % 65536
    ∧ ∀ j, 26 ≤ j → j < 32 → u8 b (o + j) = 0 := by
  intro b x o
  have hat : StandsAt b o (laneBytes x.shown) := lane_standsAt (shown_full s) g (shown_lane s i)
  have hlen := laneBytes_length x.shown
  obtain ⟨⟨hstate, hreason, hvalid, hresult, hnoise, hthr, hoff, hbad, hhor, hskip, hfor, herr, hcount⟩, hres⟩ :=
    laneBytes_fields x.shown
  refine ⟨?_, ?_, ?_, ?_, ?_, ?_, ?_, ?_, ?_, ?_, ?_, ?_, ?_, fun j hlo hhi => ?_⟩
  · rw [show u8 b o = _ from hat.u8 (j := 0) (by omega), hstate]
    show x.state.code % 256 = _
    cases x.state <;> rfl
  · rw [hat.u8 (by omega), hreason]
    show reasonCode x.faultReason % 256 = _
    cases x.faultReason with
    | none => rfl
    | some r => cases r <;> rfl
  · rw [hat.u8 (by omega), hvalid]
    show x.noiseValid.toNat % 256 = _
    cases x.noiseValid <;> rfl
  · rw [hat.u8 (by omega), hresult]
    show x.lastTest.result.code % 256 = _
    cases x.lastTest.result <;> rfl
  · rw [hat.u16 (by omega), hnoise]; rfl
  · rw [hat.u16 (by omega), hthr]; rfl
  · rw [hat.u16 (by omega), hoff]; rfl
  · rw [hat.u16 (by omega), hbad]; rfl
  · rw [hat.u32 (by omega), hhor]; rfl
  · rw [hat.u16 (by omega), hskip]; rfl
  · rw [hat.u16 (by omega), hfor]; rfl
  · rw [hat.u32 (by omega), herr]; rfl
  · rw [hat.u16 (by omega), hcount]; rfl
  · rw [hat.u8 (by omega), hres j hlo hhi]

/-- The segment entry of a lane. -/
theorem statusBytes_seg (g : BitVec 32) (s : State) (i : Fin 16) :
    let b := statusBytes g (shown s)
    let t := s.seg i
    let q := 768 + 12 * i.val
    let mapped (j : Nat) : Nat := match t.table with | some t => t.map.getD j 0 | none => 0
    (∀ j < 6, u8 b (q + j) = (mapped (2 * j) + 16 * mapped (2 * j + 1)) % 256)
    ∧ (u8 b (q + 6) = match (s.lane i).mapping with | some m => m.logical % 256 | none => 0)
    ∧ (u8 b (q + 7) = match t.table with | some t => t.free.length % 256 | none => 0)
    ∧ u8 b (q + 8) = t.held % 256 ∧ u8 b (q + 9) = 0 ∧ u16 b (q + 10) = t.dropped % 65536 := by
  intro b t q mapped
  have hat : StandsAt b q (segBytes (shownSegs (s.lane i) t)) := seg_standsAt (shown_full s) g (shown_seg s i)
  have hlen := segBytes_length (shownSegs (s.lane i) t)
  have hmapped : ∀ n, (shownSegs (s.lane i) t).map.getD n 0 = mapped n := fun n => by
    dsimp only [shownSegs, mapped]
    cases t.table <;> rfl
  obtain ⟨hmap, hlog, hfree, hheld, hres, hdrop⟩ := segBytes_fields (shownSegs (s.lane i) t)
  refine ⟨fun j hj => ?_, ?_, ?_, ?_, ?_, ?_⟩
  · rw [hat.u8 (by omega), hmap j hj, hmapped, hmapped]
  · rw [hat.u8 (by omega), hlog]
    dsimp only [shownSegs]
    cases (s.lane i).mapping <;> rfl
  · rw [hat.u8 (by omega), hfree]
    dsimp only [shownSegs]
    cases t.table <;> rfl
  · rw [hat.u8 (by omega), hheld]; rfl
  · rw [hat.u8 (by omega), hres]
  · rw [hat.u16 (by omega), hdrop]; rfl

/-- Settles O33: the start and the hand-on of parts, and where the items stand in the block. -/
theorem statusWriteProgress : Obligations.StatusWriteProgress := by
  refine ⟨fun s b ho hr hb => ⟨fun hi hdue => ?_, fun w hst hp hw hh hf hc => ?_⟩, fun g s => ?_⟩
  · have hdue' := hdue.imp_left (scheduledDue_iff hb).mpr
    rw [execStatusWriteStart_starts ho hr hi hdue', startStatusWrite, scheduledDue_eq hb] <;> rfl
  · exact execStatusPartHandOn_hands ho hr hb hst hp hw hh hf hc
  · obtain ⟨hhead, hres⟩ := statusBytes_header g s
    refine ⟨statusBytes_length (shown_full s) g, hhead, hres, statusBytes_station g s, fun i => ?_⟩
    intro x o t q mapped
    obtain ⟨h1, h2, h3, h4, h5, h6, h7, h8, h9, h10, h11, h12, h13, h14⟩ := statusBytes_lane g s i
    exact ⟨h1, h2, h3, h4, h5, h6, h7, h8, h9, h10, h11, h12, h13, h14, statusBytes_seg g s i⟩

end Sys2Proof.Machine
end

section
/-! ## The start of a command and its completion (R147, R149 to R151, R154) -/

namespace Sys2Proof.Machine

open Sys2Proof.Safety

set_option Elab.async false

/-! ### Which command starts (R147, R150, R154) -/

theorem nextStart_iff (s : State) (c : Cmd) : nextStart s = some c ↔ OutOfReset s ∧ s.cmd.restart = none
    ∧ s.path.waits = [] ∧ s.path.own.length + s.cmd.completions.length < 8
    ∧ ∃ front back, s.cmd.queue = front ++ c :: back ∧ c.state = .queued ∧ ∀ x ∈ front, x.state ≠ .queued := by
  have hfind : s.cmd.queue.find? (fun c => decide (c.state = .queued)) = some c ↔
      ∃ front back, s.cmd.queue = front ++ c :: back ∧ c.state = .queued ∧ ∀ x ∈ front, x.state ≠ .queued := by
    rw [List.find?_eq_some_iff_append]
    simp only [decide_eq_true_eq, Bool.not_eq_true', decide_eq_false_iff_not]
    constructor
    · rintro ⟨hq, front, back, he, hf⟩
      exact ⟨front, back, he, hq, hf⟩
    · rintro ⟨front, back, he, hq, hf⟩
      exact ⟨hq, front, back, he, hf⟩
  unfold nextStart
  rw [Option.ite_none_right_eq_some, mayStart_iff, hfind]
  simp only [and_assoc]
  rfl

/-- R147: a kind code that names none of the nineteen kinds. -/
theorem badKindCode_iff (k : Nat) : badKindCode k = true ↔ k = 0 ∨ 19 < k := by
  simp [badKindCode]

/-! ### The completion of a head (R149, R151, R154) -/

/-- The machine once the head of the completion list has completed, in one record update. -/
theorem completeHead_eq (s : State) (h : Completed) (rest : List Completed) :
    let count := s.cmd.completionCount + 1
    let trailer := trailerBytes h.result h.detail count
    completeHead s h rest = { s with
      path := handed s.path .commandUnit (trailerAddr s h.slot) (beatsOf 1 trailer)
      cmd := s.cmd.completed h rest
      notices := if notifyOf h.bytes then s.notices.take (commandDone h count) else s.notices } := by
  unfold completeHead
  cases notifyOf h.bytes <;> rfl

theorem execCompletion_completes {s : State} {h : Completed} {rest : List Completed} (ho : OutOfReset s)
    (hp : placeFor s .commandUnit = true) (hc : s.cmd.completions = h :: rest) :
    exec .completion s = .next (commit s (completeHead s h rest)) := by
  have hmay : mayHandOn s .commandUnit = true := by
    simp [mayHandOn, clientReady, show s.path.resetLow = false from ho, hp, hc]
  show execCompletion s = _
  unfold execCompletion
  rw [if_pos hmay, hc]

theorem completeHead_completions (s : State) (h : Completed) (rest : List Completed) :
    (completeHead s h rest).cmd.completions = rest := by
  rw [completeHead_eq]
  rfl

/-! ### Completion within the start (R147, R150) -/

/-- R150: with a place for each entry the whole completion list completes, one head after another. -/
theorem completeHeads_eq_foldl {s : State} (hw : s.path.waits = [])
    (hp : s.path.own.length + s.cmd.completions.length ≤ 8) :
    completeHeads s.cmd.completions.length s
      = s.cmd.completions.foldl (fun t h => completeHead t h (t.cmd.completions.drop 1)) s := by
  generalize hl : s.cmd.completions = l at hp ⊢
  induction l generalizing s with
  | nil => rfl
  | cons h rest ih =>
    rw [List.length_cons] at hp
    obtain ⟨hw', hown, hcomp⟩ := completeHead_places s h rest hw
    have hplace : placeFor s .commandUnit = true := by
      rw [placeFor_of_no_waits _ hw, decide_eq_true_eq]
      omega
    rw [List.length_cons, completeHeads_cons hl hplace, List.foldl_cons, hl, List.drop_one, List.tail_cons]
    exact ih hw' hcomp (by omega)

/-- R146: the command of a slot once its state is set. -/
theorem cmdAt_setCmdState {s u : State} {c : Cmd} {st : CmdState} (hc : s.cmdAt c.slot = some c)
    (hu : u.cmd.queue = setCmdState s.cmd.queue c.slot st) : u.cmdAt c.slot = some { c with state := st } := by
  have hsame : (fun d : Cmd => decide (d.slot = c.slot)) ∘ (fun d => if d.slot = c.slot then { d with state := st } else d)
      = fun d => decide (d.slot = c.slot) := by
    funext d
    rw [Function.comp]
    split <;> rfl
  unfold State.cmdAt at hc ⊢
  rw [hu, setCmdState, List.find?_map, hsame, hc]
  exact congrArg some (if_pos rfl)

/-- R147: a command that is not FINISHING does not complete within its start. -/
theorem completeStarted_live {c d : Cmd} {s : State} (h : s.cmdAt c.slot = some d)
    (hd : d.state = .queued ∨ d.state = .running) : completeStarted c s = s := by
  unfold completeStarted
  rw [h]
  rcases hd with hd | hd <;> simp only [hd]

/-- R147, R150: without a place nothing completes. -/
theorem completeStarted_full {c : Cmd} {s : State} (hp : placeFor s .commandUnit = false) : completeStarted c s = s := by
  unfold completeStarted
  split
  · rfl
  · split
    · exact completeHeads_full hp _
    · rfl
    · rfl

section
variable {u : State} {c d : Cmd} {h : Completed} {rest : List Completed} (hd : u.cmdAt c.slot = some d)
  (hp : placeFor u .commandUnit = true) (hc : u.cmd.completions = h :: rest)
  {r : Result} {x : BitVec 16} {ids : List Nat} (hst : d.state = .finishing r x ids)
include hd hp hc hst

/-- R150: a FINISHING command that is alone on the completion list completes. -/
theorem completeStarted_alone (hrest : rest = []) : completeStarted c u = completeHead u h [] := by
  rw [completeStarted_finishing hd hst, hc, hrest]
  exact completeHeads_cons (hrest ▸ hc) hp

/-- R150: an entry ahead of the command completes first. -/
theorem completeStarted_ahead (hne : h.slot ≠ c.slot) : completeStarted c u = completeStarted c (completeHead u h rest) := by
  have hd' : (completeHead u h rest).cmdAt c.slot = some d := by
    unfold State.cmdAt at hd ⊢
    rw [completeHead_eq]
    dsimp only [CommandUnit.completed]
    rw [List.find?_filter, ← hd]
    refine congrArg (fun p => u.cmd.queue.find? p) (funext fun y => ?_)
    by_cases hy : y.slot = c.slot
    · simp [hy, Ne.symm hne]
    · simp [hy]
  rw [completeStarted_finishing hd hst, completeStarted_finishing hd' hst, completeHead_completions, hc, List.length_cons,
    completeHeads_cons hc hp]

end

/-- R147, R150: the command unit starts a command only when there is a place for each entry of its completion list and
for that of the command, so that the whole list completes within the start. -/
theorem completeStarted_ended {s u : State} {c : Cmd} {r : Result} {x : BitVec 16} (hl : CommandLaw s)
    (hs : nextStart s = some c) (hu : u.cmd = ended s.cmd c r x) (hw : u.path.waits = s.path.waits)
    (hown : u.path.own.length = s.path.own.length) : completeStarted c u
      = u.cmd.completions.foldl (fun t h => completeHead t h (t.cmd.completions.drop 1)) u := by
  obtain ⟨hmay, hc, -⟩ := nextStart_some hs
  obtain ⟨-, -, hnowait, hroom⟩ := (mayStart_iff s).mp hmay
  have hat : u.cmdAt c.slot = some { c with state := .finishing r x [] } :=
    cmdAt_setCmdState (cmdAt_of_mem hl hc) (by rw [hu]; rfl)
  rw [completeStarted_finishing hat rfl]
  refine completeHeads_eq_foldl (hw.trans hnowait) ?_
  have hlen : u.cmd.completions.length = s.cmd.completions.length + 1 := by rw [hu]; simp [ended]
  omega

/-! ### The command record (R151, 10 10.3) -/

/-- R151: the kinds that name a station, and where. -/
theorem stationNamed_eq (r : CmdBytes) : stationNamed r = if kindCode r = 1 then u8 r.toList 5
    else if 6 ≤ kindCode r ∧ kindCode r ≤ 12 then u8 r.toList 4 else 255 := by
  unfold stationNamed
  dsimp only
  split
  case h_1 h => rw [h]; rfl
  case h_9 h1 h6 h7 h8 h9 h10 h11 h12 =>
    simp only [imp_false] at h6 h7 h8 h9 h10 h11 h12
    rw [if_neg h1, if_neg (by omega)]
  all_goals next h => rw [h]; rfl

/-- R151: the kinds that name a lane. -/
theorem laneNamed_eq (r : CmdBytes) : laneNamed r =
    if (1 ≤ kindCode r ∧ kindCode r ≤ 5) ∨ kindCode r = 13 ∨ kindCode r = 14 then u8 r.toList 4 else 255 := by
  unfold laneNamed
  split
  case h_8 h1 h2 h3 h4 h5 h13 h14 =>
    simp only [imp_false] at h1 h2 h3 h4 h5 h13 h14
    rw [if_neg (by omega)]
  all_goals next h => rw [h]; rfl

theorem notifyOf_iff (r : CmdBytes) : notifyOf r = true ↔ u8 r.toList 3 % 2 = 1 := by
  have h := getLsbD_byteAt_iff r.toList 3 0
  rwa [pow_zero, Nat.div_one] at h

/-- Settles O35. -/
theorem commandCompletes : Obligations.CommandCompletes := by
  unfold Obligations.CommandCompletes
  intro completed
  have hcompleted : ∀ s h rest, completeHead s h rest = completed s h rest := completeHead_eq
  have hcompletedAll : (fun (t : State) (h : Completed) => completeHead t h (t.cmd.completions.drop 1))
      = fun t h => completed t h (t.cmd.completions.drop 1) := funext₂ fun t h => hcompleted t h _
  refine ⟨nextStart_iff, fun s c hl hs hk => ?_, fun s h rest ho hp hc => ?_, fun u c d hl hd hslot => ?_,
    fun s u c r x hl hs hu hw hown => ?_, fun r => ⟨rfl, rfl, notifyOf_iff r, stationNamed_eq r, laneNamed_eq r⟩, rfl⟩
  · show execBadKind s = _
    unfold execBadKind
    rw [startStep_starts startBadKind hs ((badKindCode_iff _).mpr hk), startBadKind, decide_started .badKind 0 hl hs rfl]
  · rw [execCompletion_completes ho hp hc, hcompleted]
  · have hat : u.cmdAt c.slot = some d := hslot ▸ cmdAt_of_mem hl hd
    refine ⟨completeStarted_live hat, completeStarted_full, fun r x ids h rest hst hp hc => ⟨fun hne => ?_, fun _ hrest => ?_⟩⟩
    · rw [completeStarted_ahead hat hp hc hst hne, hcompleted]
    · rw [completeStarted_alone hat hp hc hst hrest, hcompleted]
  · rw [completeStarted_ended hl hs hu hw hown, hcompletedAll]

end Sys2Proof.Machine
end

section
/-! ## Restart: the end of every other command, and the clearing (R142, R154) -/

namespace Sys2Proof.Machine

open Sys2Proof.Safety

set_option Elab.async false

/-- R154: Restart ends the commands that an Abort of ALL would. -/
theorem abortTargets_all (s : State) (slot : Fin 32) : abortTargets s slot 0xFFFF =
    s.cmd.queue.filter fun d => decide (d.slot ≠ slot ∧ (d.state = .queued ∨ d.state = .running)) := by
  rw [abortTargets_eq]
  simp

/-- R154: Restart itself is RUNNING once it has ended the others, so nothing completes within its start. -/
theorem cmdAt_startRestart {s : State} {c : Cmd} (hl : CommandLaw s) (hs : nextStart s = some c) :
    (startRestart c s).cmdAt c.slot = some { c with state := .running } := by
  have hrun : (runCmd s c.slot).cmdAt c.slot = some { c with state := .running } := cmdAt_running hl hs rfl
  have hl' : CommandLaw (startRestart c s) := (keepsCommands_startRestart c s).commands hl
  have hmem : { c with state := .running } ∈ (startRestart c s).cmd.queue :=
    mem_abortTargets_of_ne (c := { c with state := .running }) _ (fun d hd => (mem_abortTargets hd).2)
      (List.mem_of_find?_eq_some hrun)
  exact cmdAt_of_mem hl' hmem

theorem drained_eq {s : State} {r : RestartRun} (ho : OutOfReset s) (hr : s.cmd.restart = some r)
    (hcl : r.cleared = false) (hown : s.path.own = []) (hw : s.path.waits = []) (hc : s.cmd.completions = []) :
    drained s = some r := by
  simp [drained, hr, show s.path.resetLow = false from ho, hcl, hown, hw, hc]

/-- Settles O51. -/
theorem restartRuns : Obligations.RestartRuns := by
  refine ⟨fun s c hl hs => ?_, fun s r ho hr hcl hown hw hc => ?_⟩
  · intro u
    have hstart : startRestart c s = { u with cmd :=
        { u.cmd with restart := some { slot := c.slot, bytes := c.bytes, cleared := false } } } := by
      unfold startRestart
      rw [abortTargets_all]
      rfl
    rw [show exec .restart s = _ from startStep_of_starts (f := startRestart) hs,
      completeStarted_running (cmdAt_startRestart hl hs.1) rfl, hstart]
  · show execQueueDrained s = _
    unfold execQueueDrained
    rw [drained_eq ho hr hcl hown hw hc]
    rfl

end Sys2Proof.Machine
end

section
/-! ## Submissions (R145, R155) -/

namespace Sys2Proof.Machine

open Sys2Proof.Safety

set_option Elab.async false

theorem occupied_iff (s : State) (slot : Fin 32) :
    occupied s slot = true ↔ (∃ c ∈ s.cmd.queue, c.slot = slot) ∨ (∃ c ∈ s.cmd.completions, c.slot = slot) := by
  simp [occupied]

theorem tagInUse_iff (s : State) (tag : Nat) : tagInUse s tag = true ↔ ∃ c ∈ s.cmd.queue, tagOf c.bytes = tag := by
  simp [tagInUse]

section
variable {s : State} {slot : Fin 32}

/-- R155: during a Restart a submission is ignored. -/
theorem submit_restarting (hr : s.cmd.restart ≠ none) : submit s slot = s := by
  unfold submit
  rw [if_pos (Option.isSome_iff_ne_none.mpr hr)]

variable (hr : s.cmd.restart = none)
include hr

/-- R145: a submission into an occupied slot is counted alone. -/
theorem submit_occupied (ho : occupied s slot = true) :
    submit s slot = { s with cmd := { s.cmd with ignored := min 65535 (s.cmd.ignored + 1) } } := by
  unfold submit
  rw [if_neg (by simp [hr]), if_pos ho]
  rfl

variable (ho : ¬occupied s slot = true)
include ho

/-- R145: a submission with a tag of the queue is refused. -/
theorem submit_tagInUse (ht : tagInUse s (tagOf (recordOf (s.cmd.shadows.get slot))) = true) :
    submit s slot = { s with cmd := { s.cmd with completions := s.cmd.completions ++
      [{ slot := slot, bytes := recordOf (s.cmd.shadows.get slot), result := .tagInUse, detail := 0 }] } } := by
  unfold submit
  rw [if_neg (by simp [hr]), if_neg ho]
  exact if_pos ht

/-- R145: a submission into a FREE slot with a tag of its own joins the queue. -/
theorem submit_queued (ht : ¬tagInUse s (tagOf (recordOf (s.cmd.shadows.get slot))) = true) :
    submit s slot = { s with cmd := { s.cmd with queue := s.cmd.queue ++
      [{ slot := slot, bytes := recordOf (s.cmd.shadows.get slot), state := .queued }] } } := by
  unfold submit
  rw [if_neg (by simp [hr]), if_neg ho]
  exact if_neg ht

end

/-- Settles O18. -/
theorem submissionTaken : Obligations.SubmissionTaken := by
  intro s slot r busy tagged
  have hbusy : occupied s slot = true ↔ busy := occupied_iff s slot
  have htagged : tagInUse s (tagOf (recordOf (s.cmd.shadows.get slot))) = true ↔ tagged := tagInUse_iff s _
  refine ⟨fun hr hb ht => ?_, fun hr hb ht => ?_, fun hr hb => ?_, submit_restarting⟩
  · exact submit_queued hr (mt hbusy.mp hb) (mt htagged.mp ht)
  · exact submit_tagInUse hr (mt hbusy.mp hb) (htagged.mpr ht)
  · exact submit_occupied hr (hbusy.mpr hb)

end Sys2Proof.Machine
end

section
/-! ## The answers to the parts of a status write (R150, R164 to R166) -/

namespace Sys2Proof.Machine

open Sys2Proof.Safety

set_option Elab.async false

/-! ### The end of a write, by what its answered parts say (R165, R166) -/

section
variable {u : State} {w : StatusWrite}

theorem StatusWrite.ended_iff (w : StatusWrite) :
    w.ended = true ↔ (8 ≤ w.handed ∨ w.faulted = true ∨ w.cut = true) ∧ w.handed ≤ w.answered := by
  simp [StatusWrite.ended, or_assoc, Config.statusParts]

/-- R165: a write that is to hand on further parts goes on. -/
theorem settleStatusWrite_continues (hs : u.status.write = some w) (hh : w.handed < 8) (hf : w.faulted = false)
    (hcut : w.cut = false) : settleStatusWrite u = u := by
  have hgo : ¬w.ended = true := by
    rw [w.ended_iff, hf, hcut]
    rintro ⟨h | h | h, -⟩
    · omega
    · cases h
    · cases h
  unfold settleStatusWrite
  rw [hs]
  exact if_pos (by simpa using hgo)

/-- R165: a write with a FAULT, its parts all answered, stops the writer. -/
theorem settleStatusWrite_stops (hs : u.status.write = some w) (ha : w.handed ≤ w.answered) (hf : w.faulted = true) :
    settleStatusWrite u = decideAll
      { u with status := { u.status with state := .stopped, write := none, timer := none } } w.served .fault w.done := by
  have he : w.ended = true := w.ended_iff.mpr ⟨.inr (.inl hf), ha⟩
  unfold settleStatusWrite
  rw [hs]
  dsimp only
  rw [if_neg (by simp [he]), if_pos hf]

/-- R165: a write whose eight parts are all answered DONE leaves the writer IDLE. -/
theorem settleStatusWrite_done (hs : u.status.write = some w) (hh : 8 ≤ w.handed) (ha : w.handed ≤ w.answered)
    (hf : w.faulted = false) : settleStatusWrite u
      = decideAll { u with status := { u.status with state := .idle, write := none } } w.served .done 0 := by
  have he : w.ended = true := w.ended_iff.mpr ⟨.inl hh, ha⟩
  unfold settleStatusWrite
  rw [hs]
  dsimp only
  rw [if_neg (by simp [he]), if_neg (by simp [hf])]

end

/-! ### What an answer adds to the write, and to a part of a cut write (R164, R165) -/

/-- R165: the write in progress once one of its parts is answered. -/
def StatusWrite.hears (w : StatusWrite) (r : Response) : StatusWrite := { w with
  answered := w.answered + 1
  done := if r = .done then w.done + 1 else w.done
  faulted := if r = .fault then true else w.faulted }

/-- R165: the answer to a part is counted in the write in progress, which then ends or not. -/
theorem statusPartAnswered_eq {u : State} {w : StatusWrite} (hs : u.status.write = some w) (r : Response) :
    statusPartAnswered u r = settleStatusWrite { u with status := { u.status with write := some (w.hears r) } } := by
  unfold statusPartAnswered
  rw [hs]
  cases r <;> simp [StatusWrite.hears]

/-- R140, R165: the answer to a part of the write in progress is reported to the status writer. -/
theorem reportOwn_statusPart {u : State} {o : OwnWrite} {w : StatusWrite} (hp : o.producer = .statusWriter true)
    (hs : u.status.write = some w) (r : Response) :
    reportOwn u o r = settleStatusWrite { u with status := { u.status with write := some (w.hears r) } } := by
  rw [← statusPartAnswered_eq hs]
  unfold reportOwn
  rw [hp]
  rfl

/-- R164: the answer to a part of a write cut by Set Status Block is struck from the carried parts. -/
theorem reportOwn_cutPart (s : State) {o : OwnWrite} (hp : o.producer = .statusWriter false) (r : Response) :
    reportOwn s o r = { s with status := { s.status with
      carried := s.status.carried.filter fun x => decide (x.2 ≠ o.id) } } := by
  unfold reportOwn
  rw [hp]
  rfl

/-! ### The served commands (R150, R166) -/

/-- R150, R166: a served command without a Copy Map is decided; the parts carried on its account, where there are any,
it awaits first. -/
theorem decideCmd_carried {u : State} {c : Cmd} (hl : CommandLaw u) (hc : c ∈ u.cmd.queue)
    (hn : ∀ x ∈ u.cmd.copies, x.slot ≠ c.slot) (r : Result) (d : BitVec 16) (ids : List Nat) :
    decideCmd u c.slot r d ids = if ids = [] then { u with cmd := ended u.cmd c r d }
      else { u with cmd := { u.cmd with queue := setCmdState u.cmd.queue c.slot (.finishing r d ids) } } := by
  split
  · next h => rw [h, decideCmd_ended r d hl rfl hc hn]
  · next h => rw [decideCmd_eq r d ids (cmdAt_of_mem hl hc), if_neg h]

/-- Settles O34 (in a namespace, since the plain name is the model's function). -/
theorem Settled.statusPartAnswered : Obligations.StatusPartAnswered := by
  refine ⟨fun s o w r hl ho hm hi hp hs => ?_, fun s o r hl ho hm hi hp => ?_, fun u r n => ⟨rfl, ?_⟩⟩
  · intro u
    have hreport := reportOwn_statusPart (u := u) hp hs r
    rw [execOwnWriteResponse_answers hl ho hm hi, hreport]
    refine ⟨?_, ?_, ?_, ?_, ?_, fun hmore => ?_⟩
    · rintro rfl hh ha hf
      rw [settleStatusWrite_done (w := w.hears .done) rfl (by exact hh.ge) (by simp [StatusWrite.hears, hh, ha]) hf]
      rfl
    · rintro rfl hlast
      rw [settleStatusWrite_stops (w := w.hears .fault) rfl (by exact hlast.le) rfl]
      rfl
    · rintro rfl hlast hf
      rw [settleStatusWrite_stops (w := w.hears .done) rfl (by exact hlast.le) hf]
      rfl
    · rintro rfl hlast hf hcut hserved
      rw [settleStatusWrite_answered (w := w.hears .done) rfl hcut hserved (by exact hlast.le) hf]
    · rintro rfl hlast hh hf hcut
      rw [settleStatusWrite_continues (w := w.hears .done) rfl hh hf hcut]
      rfl
    · rw [settleStatusWrite_unanswered (w := w.hears r) rfl hmore]
      rfl
  · rw [execOwnWriteResponse_answers hl ho hm hi, reportOwn_cutPart _ hp]
  · intro c rest hlu hc hn ids
    exact congrArg (fun v => decideAll v rest r n) (decideCmd_carried hlu hc hn r (BitVec.ofNat 16 n) ids)

end Sys2Proof.Machine
end

section
/-! ## A notice handed to the writer (R157) -/

namespace Sys2Proof.Machine

set_option Elab.async false

/-! ### The oldest info notice of the queue -/

section
variable {front back : List Notice} {x : Notice} (hf : ∀ y ∈ front, y.kind.alarm = true)
include hf

/-- The alarms ahead of the oldest info notice stay, and so does all that is behind it. -/
theorem dropOldestInfo_of_info (hx : x.kind.alarm = false) : dropOldestInfo (front ++ x :: back) = some (front ++ back) := by
  induction front with
  | nil => simp [dropOldestInfo, hx]
  | cons y rest ih =>
    obtain ⟨hy, hrest⟩ := List.forall_mem_cons.mp hf
    simp [dropOldestInfo, hy, ih hrest]

theorem dropOldestInfo_of_alarms : dropOldestInfo front = none := by
  induction front with
  | nil => rfl
  | cons y rest ih =>
    obtain ⟨hy, hrest⟩ := List.forall_mem_cons.mp hf
    simp [dropOldestInfo, hy, ih hrest]

end

/-! ### What becomes of the notice (R157) -/

section
variable {w : NoticeWriter} {n : Notice}

theorem NoticeWriter.take_of_room (h : w.queue.length < 64) : w.take n = { w with queue := w.queue ++ [n] } := if_pos h

variable (h : 64 ≤ w.queue.length)
include h

/-- A full queue discards an info notice that arrives. -/
theorem NoticeWriter.take_info (hn : n.kind.alarm = false) : w.take n = w.discard false := by
  unfold NoticeWriter.take
  rw [if_neg (Nat.not_lt.mpr h), hn]
  rfl

/-- A full queue takes an alarm in the place of its oldest info notice. -/
theorem NoticeWriter.take_alarm_for_info {rest : List Notice} (hn : n.kind.alarm = true)
    (hq : dropOldestInfo w.queue = some rest) : w.take n = { w.discard false with queue := rest ++ [n] } := by
  unfold NoticeWriter.take
  rw [if_neg (Nat.not_lt.mpr h), if_pos hn, hq]

/-- A queue full of alarms discards an alarm that arrives. -/
theorem NoticeWriter.take_alarm_of_alarms (hn : n.kind.alarm = true) (hq : dropOldestInfo w.queue = none) :
    w.take n = w.discard true := by
  unfold NoticeWriter.take
  rw [if_neg (Nat.not_lt.mpr h), if_pos hn, hq]

end

/-- Settles O31: the oldest info notice of the queue is the one that `dropOldestInfo` takes out. -/
theorem noticeQueueKeepsAlarms : Obligations.NoticeQueueKeepsAlarms := by
  refine fun w n => ⟨NoticeWriter.take_of_room, NoticeWriter.take_info, fun front x back h hn hq hf hx => ?_,
    fun h hn hq => NoticeWriter.take_alarm_of_alarms h hn (dropOldestInfo_of_alarms hq)⟩
  have hdrop : dropOldestInfo w.queue = some (front ++ back) := hq ▸ dropOldestInfo_of_info hf hx
  exact NoticeWriter.take_alarm_for_info h hn hdrop

end Sys2Proof.Machine
end

section
/-! ## Set Notice Ring, Set Status Block and Write Status (R161, R162, R164, R166) -/

namespace Sys2Proof.Machine

open Sys2Proof.Safety

set_option Elab.async false

/-! ### Writes handed on before a placing command (R162, R164) -/

theorem stale_noticeWriter : OwnWrite.stale .noticeWriter = fun w => match w.producer with
    | .noticeWriter _ => { w with producer := .noticeWriter false }
    | _ => w := by
  funext w
  unfold OwnWrite.stale
  cases w.producer <;> rfl

theorem stale_statusWriter : OwnWrite.stale .statusWriter = fun w => match w.producer with
    | .statusWriter _ => { w with producer := .statusWriter false }
    | _ => w := by
  funext w
  unfold OwnWrite.stale
  cases w.producer <;> rfl

/-! ### Set Notice Ring (R161) -/

/-- R161: a Set Notice Ring that passes its tests. -/
theorem startSetNoticeRing_places {s : State} {c : Cmd} {r : Ring} (hr : ringOf c.bytes.toList = some r)
    (hw : windowClash s r.base.toNat (r.entries * 32) (fun w => decide (w = .ring))
      (fun p => decide (p.client = .noticeWriter)) = false) :
    startSetNoticeRing c s
      = complete { staleWrites s .noticeWriter with notices := s.notices.setRing r } c.slot 0 := by
  unfold startSetNoticeRing
  rw [hr]
  exact if_neg (by rw [hw]; decide)

/-- Settles O52. -/
theorem noticeRingSet : Obligations.NoticeRingSet := by
  intro s c hl hs l base n hbase hn hlo hhi hend hw
  have hring : ringOf c.bytes.toList = some { base := BitVec.ofNat 32 base, entries := n, info := decide (u8 l 10 ≠ 0) } :=
    if_pos ⟨hbase, hn, hlo, hhi, hend⟩
  have hb : (BitVec.ofNat 32 base).toNat = base := Nat.mod_eq_of_lt (u32_lt l 4)
  have hf := startSetNoticeRing_places (s := s) hring (by rw [hb]; exact hw)
  rw [show exec .setNoticeRing s = _ from startStep_completes (f := startSetNoticeRing) hl hs hf rfl, staleWrites,
    stale_noticeWriter]
  rfl

/-! ### Set Status Block (R164) -/

/-- R164: the place a record gives, its period clamped. -/
def statusPlaceOf (l : List Byte) : StatusPlace :=
  { base := BitVec.ofNat 32 (u32 l 4), period := clampNat 1 1000 (u16 l 8) }

/-- R164: the machine once command `c` has placed the status block, before a write that starts at once. -/
def blockPlaced (s : State) (c : Cmd) : State := { staleWrites s .statusWriter with
  status := s.status.setPlace (statusPlaceOf c.bytes.toList) (ownIds s (.statusWriter true))
  cmd := ended s.cmd c .done
    (BitVec.ofNat 16 (countClamped (u16 c.bytes.toList 8) (statusPlaceOf c.bytes.toList).period)) }

section
variable {s : State} {c : Cmd}

/-- R164: a Set Status Block that passes its tests. -/
theorem startSetStatusBlock_places (hl : CommandLaw s) (hs : nextStart s = some c)
    (hbase : u32 c.bytes.toList 4 % 1024 = 0)
    (hw : windowClash s (u32 c.bytes.toList 4) 1024 (fun w => decide (w = .status))
      (fun p => decide (p.client = .statusWriter)) = false) :
    startSetStatusBlock c s = if (blockPlaced s c).status.waiting = [] then blockPlaced s c
      else startStatusWrite (blockPlaced s c) := by
  have hplaced : complete { staleWrites s .statusWriter with
        status := s.status.setPlace (statusPlaceOf c.bytes.toList) (ownIds s (.statusWriter true)) } c.slot
      (countClamped (u16 c.bytes.toList 8) (statusPlaceOf c.bytes.toList).period) = blockPlaced s c :=
    complete_started _ hl hs rfl
  unfold startSetStatusBlock
  dsimp only
  rw [if_neg (not_not_intro hbase), if_neg (by rw [hw]; decide)]
  simp only [← List.isEmpty_iff, ← hplaced]
  rfl

/-- R164, R165: the timer of a block just placed is 0 and its period at least 1 ms, so no SCHEDULED write is due. -/
theorem scheduledDue_blockPlaced (s : State) (c : Cmd) : scheduledDue (blockPlaced s c).status = false := by
  rw [scheduledDue_eq (b := statusPlaceOf c.bytes.toList) rfl]
  have hperiod : 1 ≤ (statusPlaceOf c.bytes.toList).period := le_max_left _ _
  exact decide_eq_false (by omega)

/-- R164, R165: the write that starts with the block serves the commands that wait, and is not a SCHEDULED one. -/
theorem startStatusWrite_blockPlaced (s : State) (c : Cmd) :
    let u := blockPlaced s c
    startStatusWrite u = { u with status := { u.status with
      state := .writing, generation := s.status.generation + 1, change := false, waiting := []
      write := some
        { shown := shown u, generation := s.status.generation + 1, handed := 0, answered := 0, done := 0,
          faulted := false, cut := false, scheduled := false, served := u.status.waiting } } } := by
  intro u
  rw [startStatusWrite, scheduledDue_blockPlaced]
  rfl

/-! ### Write Status (R166) -/

theorem startWriteStatus_waits (h : s.status.state = .idle ∨ s.status.state = .writing) :
    startWriteStatus c s = { s with
      status := { s.status with waiting := s.status.waiting ++ [c.slot] }
      cmd := running s.cmd c } := by
  unfold startWriteStatus
  rcases h with h | h <;> rw [h] <;> rfl

end

/-- Settles O53: a Write Status runs on, so nothing completes within its start. -/
theorem statusBlockSet : Obligations.StatusBlockSet := by
  refine fun s c hl => ⟨fun hs hbase hw => ?_, fun hs hst => ?_⟩
  · intro period served parts u
    have hserved : (s.status.write.map (·.served)).getD [] = served := by
      dsimp only [served]
      cases s.status.write <;> rfl
    have hu : blockPlaced s c = u := by
      rw [blockPlaced, staleWrites, stale_statusWriter, StatusWriter.setPlace, hserved]
      rfl
    have hwrite := startStatusWrite_blockPlaced s c
    rw [show exec .setStatusBlock s = _ from startStep_of_starts (f := startSetStatusBlock) hs,
      startSetStatusBlock_places hl hs.1 hbase hw, hwrite, hu]
  · have hf := startWriteStatus_waits (c := c) hst
    have hrun : (startWriteStatus c s).cmdAt c.slot = some { c with state := .running } := by
      rw [hf]
      exact cmdAt_running hl hs.1 rfl
    rw [show exec .writeStatus s = _ from startStep_of_starts (f := startWriteStatus) hs,
      completeStarted_running hrun rfl, hf]

end Sys2Proof.Machine
end

section
/-! ## The front of the queue, idle time and the terms that stop (00, 4; 07 7.1; logs 1, 2, 4, 26) -/

namespace Sys2Proof.Machine

/-! ### A step (logs 1 and 2) -/

/-- Log 1: with a command waiting, it acts on the state whose queue is the rest. -/
theorem step_cons (c : Instr) (rest : List Instr) (s : State) :
    step { s with pending := c :: rest } = exec c { s with pending := rest } := rfl

/-- Log 2: with no command waiting, time passes. -/
theorem step_idle {s : State} (h : s.pending = []) : step s = .next (tick s) := by
  unfold step
  rw [h]

/-- 00, 4: what one microsecond changes, each timer by name. -/
theorem tick_eq (s : State) :
    tick s = if s.path.resetLow then s else
      { s with
        localTime := s.localTime + 1
        lanes := s.lanes.map fun l => { l with
          silenceTimer := l.silenceTimer.map (· + 1), test := l.test.map fun r => { r with elapsed := r.elapsed + 1 } }
        stations := s.stations.map fun x => { x with quietTimer := x.quietTimer.map (· + 1) }
        status := { s.status with timer := s.status.timer.map (· + 1) } } := rfl

/-! ### Replies that go on with the same queue

Every meaning either leaves the state or applies its effect, most with `commit`; a reply that does so has a next state,
and its queue is the one before. Both statements about `exec` follow from this one. -/

/-- The reply is a next state that has the queue of `s`. -/
def GoesOn (s : State) (o : Reply) : Prop := ∃ t, o = .next t ∧ t.pending = s.pending

namespace GoesOn
variable {s u : State} {o p : Reply}

theorem next (h : u.pending = s.pending) : GoesOn s (.next u) := ⟨u, rfl, h⟩

/-- Log 4: an event that does not come about. -/
theorem stay : GoesOn s (.next s) := next rfl

/-- The end of a step does not touch the queue. -/
theorem committed (h : u.pending = s.pending) : GoesOn s (.next (commit s u)) := next (by rw [commit_pending, h])

theorem either {c : Prop} [Decidable c] (ho : GoesOn s o) (hp : GoesOn s p) : GoesOn s (if c then o else p) := by
  split
  · exact ho
  · exact hp

/-- An event with a condition: its effect, or nothing (log 4). -/
theorem guarded {c : Prop} [Decidable c] (h : u.pending = s.pending) :
    GoesOn s (if c then .next (commit s u) else .next s) := either (committed h) stay

/-- The start of a command, its completion within the start too (R147). -/
theorem started {kind : Nat → Bool} {f : Cmd → State → State} (hf : ∀ c, (f c s).pending = s.pending) :
    GoesOn s (startStep kind f s) := by
  rcases startStep_cases kind f s with h | ⟨c, -, -, h⟩ <;> rw [h]
  · exact stay
  · exact committed (by rw [completeStarted_pending, hf])

theorem pending_eq {t : State} (h : GoesOn s o) (ht : o = .next t) : t.pending = s.pending := by
  obtain ⟨u, rfl, hu⟩ := h
  cases ht
  exact hu

end GoesOn

section
variable (s : State)

/-! ### The memory path (chapter 7) -/

theorem goesOn_execTransferArrival {t : Transfer} (h : t.wf = true) : GoesOn s (execTransferArrival t s) := by
  unfold execTransferArrival
  rw [if_pos h]
  exact .next rfl

theorem goesOn_execTransferAcceptance (m : Fin 16) : GoesOn s (execTransferAcceptance m s) := by
  unfold execTransferAcceptance
  split
  · exact .guarded (acceptTransfer_pending s _)
  · exact .stay

theorem goesOn_execForwardedIssue : GoesOn s (execForwardedIssue s) := by
  unfold execForwardedIssue
  split
  · exact .guarded (issueForwarded_pending s _)
  · exact .stay

theorem goesOn_execForwardedResponse (id : Nat) {a : Answer} (h : a.wf = true) :
    GoesOn s (execForwardedResponse id a s) := by
  unfold execForwardedResponse
  rw [if_pos h]
  split
  · exact .either .stay (.committed (by rw [deliverAll_pending, setPhase_pending]))
  · exact .stay

theorem goesOn_execOwnWriteIssue : GoesOn s (execOwnWriteIssue s) := by
  unfold execOwnWriteIssue
  split
  · exact .guarded (issueOwn_pending s _)
  · exact .stay

theorem goesOn_execOwnWriteResponse (id : Nat) (r : Response) : GoesOn s (execOwnWriteResponse id r s) := by
  unfold execOwnWriteResponse
  split
  · exact .either .stay (.committed (answerOwn_pending s _ r))
  · exact .stay

theorem goesOn_execStrayResponse {a : Answer} (h : a.wf = true) : GoesOn s (execStrayResponse a s) := by
  unfold execStrayResponse
  rw [if_pos h]
  exact .stay

/-! ### RESET_N and the clearing of Restart: the queue of commands is outside the part (R141, R142, R169) -/

theorem goesOn_execResetNAssertion : GoesOn s (execResetNAssertion s) := by
  refine .next ?_
  split <;> rfl

theorem goesOn_execResetNRelease (straps : BitVec 8) : GoesOn s (execResetNRelease straps s) := by
  refine .next ?_
  split <;> rfl

theorem goesOn_execQueueDrained : GoesOn s (execQueueDrained s) := by
  unfold execQueueDrained
  split
  · exact .next rfl
  · exact .stay

/-! ### The producers of own writes (R137, R158, R165, R113, R150) -/

theorem goesOn_execNoticeWriteHandOn : GoesOn s (execNoticeWriteHandOn s) := by
  unfold execNoticeWriteHandOn
  refine .either ?_ .stay
  split
  · exact .committed (by simp only [handOn_pending])
  · exact .stay

theorem goesOn_execStatusPartHandOn : GoesOn s (execStatusPartHandOn s) := by
  unfold execStatusPartHandOn
  refine .either ?_ .stay
  split
  · exact .committed (by simp only [handOn_pending])
  · exact .stay

theorem goesOn_execSnapshotWriteHandOn (slot : Fin 32) : GoesOn s (execSnapshotWriteHandOn slot s) := by
  unfold execSnapshotWriteHandOn
  refine .either ?_ .stay
  split
  · exact .committed (by rw [onCopy_pending, handOn_pending])
  · exact .stay

theorem goesOn_execCompletion : GoesOn s (execCompletion s) := by
  unfold execCompletion
  refine .either ?_ .stay
  split
  · exact .committed (completeHead_pending s _ _)
  · exact .stay

/-! ### Every command -/

/-- A well-formed command has a next state, with the queue as it was. -/
theorem goesOn_exec {c : Instr} (h : WellFormed c = true) : GoesOn s (exec c s) := by
  cases c with
  | transferArrival t => exact goesOn_execTransferArrival s h
  | transferAcceptance m => exact goesOn_execTransferAcceptance s m
  | forwardedIssue => exact goesOn_execForwardedIssue s
  | forwardedResponse id a => exact goesOn_execForwardedResponse s id h
  | ownWriteIssue => exact goesOn_execOwnWriteIssue s
  | ownWriteResponse id r => exact goesOn_execOwnWriteResponse s id r
  | strayResponse a => exact goesOn_execStrayResponse s h
  | resetNAssertion => exact goesOn_execResetNAssertion s
  | resetNRelease straps => exact goesOn_execResetNRelease s straps
  | silenceTimeout i => exact .guarded (faultLane_pending s i .silent)
  | blockAnalysisEnd i => exact .guarded (endBlock_pending s i)
  | testTimeout i => exact .guarded (endTest_pending s i .timeout)
  | quietTimeout k => exact .guarded (by rw [handNotice_pending, State.onStation_pending])
  | noticeWriteHandOn => exact goesOn_execNoticeWriteHandOn s
  | statusWriteStart => exact .guarded (startStatusWrite_pending s)
  | statusPartHandOn => exact goesOn_execStatusPartHandOn s
  | snapshotWriteHandOn slot => exact goesOn_execSnapshotWriteHandOn s slot
  | completion => exact goesOn_execCompletion s
  | queueDrained => exact goesOn_execQueueDrained s
  | badKind => exact show GoesOn s (execBadKind s) from .started (startBadKind_pending · s)
  | mapLane => exact show GoesOn s (execMapLane s) from .started (startMapLane_pending · s)
  | unmapLane => exact show GoesOn s (execUnmapLane s) from .started (startUnmapLane_pending · s)
  | setLaneConditioning =>
    exact show GoesOn s (execSetLaneConditioning s) from .started (startSetLaneConditioning_pending · s)
  | testLane => exact show GoesOn s (execTestLane s) from .started (startTestLane_pending · s)
  | setDetection => exact show GoesOn s (execSetDetection s) from .started (startSetDetection_pending · s)
  | setStation => exact show GoesOn s (execSetStation s) from .started (startSetStation_pending · s)
  | startStation => exact show GoesOn s (execStartStation s) from .started (startStartStation_pending · s)
  | stopStation => exact show GoesOn s (execStopStation s) from .started (startStopStation_pending · s)
  | setLocationLine => exact show GoesOn s (execSetLocationLine s) from .started (startSetLocationLine_pending · s)
  | setMapCriteria => exact show GoesOn s (execSetMapCriteria s) from .started (startSetMapCriteria_pending · s)
  | clearCells => exact show GoesOn s (execClearCells s) from .started (startClearCells_pending · s)
  | copyMap => exact show GoesOn s (execCopyMap s) from .started (startCopyMap_pending · s)
  | holdSegment => exact show GoesOn s (execHoldSegment s) from .started (startHoldSegment_pending · s)
  | releaseHold => exact show GoesOn s (execReleaseHold s) from .started (startReleaseHold_pending · s)
  | abort => exact show GoesOn s (execAbort s) from .started (startAbort_pending · s)
  | restart => exact show GoesOn s (execRestart s) from .started (startRestart_pending · s)
  | setNoticeRing => exact show GoesOn s (execSetNoticeRing s) from .started (startSetNoticeRing_pending · s)
  | setStatusBlock => exact show GoesOn s (execSetStatusBlock s) from .started (startSetStatusBlock_pending · s)
  | writeStatus => exact show GoesOn s (execWriteStatus s) from .started (startWriteStatus_pending · s)

end

/-- 07 7.1, log 26: the terms that are no transfer or answer, each refused by name. -/
theorem exec_illFormed {c : Instr} (s : State) (h : WellFormed c = false) :
    exec c s = .refused .illFormedTransfer ∧ (∃ t, c = .transferArrival t)
    ∨ exec c s = .refused .illFormedAnswer
      ∧ ((∃ id a, c = .forwardedResponse id a) ∨ ∃ a, c = .strayResponse a) := by
  cases c with
  | transferArrival t => exact .inl ⟨if_neg (ne_true_of_eq_false h), t, rfl⟩
  | forwardedResponse id a => exact .inr ⟨if_neg (ne_true_of_eq_false h), .inl ⟨id, a, rfl⟩⟩
  | strayResponse a => exact .inr ⟨if_neg (ne_true_of_eq_false h), .inr ⟨a, rfl⟩⟩
  | _ => cases h

/-- A command with a next state is well-formed. -/
theorem wellFormed_of_exec_next {c : Instr} {s t : State} (h : exec c s = .next t) : WellFormed c = true := by
  rw [← Bool.not_eq_false]
  intro hc
  rcases exec_illFormed s hc with ⟨hr, -⟩ | ⟨hr, -⟩ <;> rw [hr] at h <;> cases h

/-- Settles O3: a command that answers next is well-formed, and so goes on with the queue as it was. -/
theorem commandsKeepQueue : Obligations.CommandsKeepQueue := fun _ s _ h =>
  (goesOn_exec s (wellFormed_of_exec_next h)).pending_eq h

/-- Settles O4, from what well-formed commands do (`goesOn_exec`) and what the others are (`exec_illFormed`). -/
theorem onlyIllFormedTermsStop : Obligations.OnlyIllFormedTermsStop := fun _ s =>
  ⟨fun h => (goesOn_exec s h).imp fun _ ht => ht.1, exec_illFormed s⟩

/-- Settles O1: the queue's front and rest are those `step` takes apart. -/
theorem stepRunsFrontCommand : Obligations.StepRunsFrontCommand := step_cons

/-- Settles O2: an idle step is a `tick`. -/
theorem idleStepPassesTime : Obligations.IdleStepPassesTime := fun s h => by
  rw [step_idle h, tick_eq]

end Sys2Proof.Machine
end
